-- ==== Sys2Proof/Word.lean ====
section
/-! DEFINITION. The byte, the constants of plant time and of the counters, and the plainest arithmetic on counts
(spec/00_scope.md sections 4.1 to 4.4). -/

namespace Sys2Proof

/-- A byte of the mailbox, of a line frame or of a reader frame. -/
abbrev Byte := BitVec 8

/-- The largest value a 16-bit event count holds (00 section 4.3). -/
abbrev max16 : Nat := 65535

/-- The largest value an 8-bit event count holds (00 section 4.3). -/
abbrev max8 : Nat := 255

/-- The end of the range of plant time, in ticks (00 section 4.1, R77). -/
abbrev endOfRange : Nat := 4294967295

/-- Ticks in a plant day (00 section 4.1). -/
abbrev ticksPerDay : Nat := 1382400

/-- Ticks in a minute (00 section 4.1). -/
abbrev ticksPerMinute : Nat := 960

/-- Ticks in a second (00 section 4.1), and sixteenths in a second of real time. -/
abbrev ticksPerSecond : Nat := 16

/-- An addition that stays at the top of the range once it is reached (00 section 4.3). -/
def satAdd (top a b : Nat) : Nat := min top (a + b)

/-- A setting outside its range is taken as the nearer end of the range (00 section 4.3). -/
def clamp (lo hi x : Nat) : Nat := max lo (min hi x)

/-- `a` is ahead of `b` modulo 256 (00 section 4.4). -/
def aheadOf (a b : BitVec 8) : Bool := decide (1 ≤ (a - b).toNat ∧ (a - b).toNat ≤ 127)

end Sys2Proof
end

