-- ==== Sys2Proof/Syntax.lean ====
section
/-! DEFINITION. The commands and events the TG-416 takes: one constructor of `Instr` for each row of
spec/opcode_table.json, with the operands its rule names. -/

namespace Sys2Proof

/-- The four lanes (00 section 4.3). -/
inductive Lane | lane1 | lane2 | lane3 | lane4
  deriving DecidableEq, Repr, Inhabited

/-- The four watch rules (00 section 4.3). -/
inductive RuleNo | rule0 | rule1 | rule2 | rule3
  deriving DecidableEq, Repr, Inhabited

/-- A station number, 0 to 15 (00 section 4.3). -/
abbrev Station := Fin 16

/-- IN or OUT: a lane's direction (02 section 2.1) and a punch's. -/
inductive Direction | dirIn | dirOut
  deriving DecidableEq, Repr, Inhabited

/-- A lane's kind (R17). -/
inductive LaneKind | turnstile | door | off
  deriving DecidableEq, Repr, Inhabited

/-- A strike's fail mode (02 section 2.1). -/
inductive FailMode | release | lock
  deriving DecidableEq, Repr, Inhabited

/-- The gate line's rate (R108). -/
inductive LineRate | bps19200 | bps38400 | bps57600 | bps115200
  deriving DecidableEq, Repr, Inhabited

/-- The status of a badge (01 section 1.1). -/
inductive BadgeStatus | active | blocked
  deriving DecidableEq, Repr, Inhabited

/-- The passback mode of a badge: STRICT, SOFT or NONE (01 section 1.1). -/
inductive PassbackMode | strict | soft | modeNone
  deriving DecidableEq, Repr, Inhabited

/-- The role of a schedule entry (R93). -/
inductive BellRole | shiftStart | shiftEnd | breakTime | signal
  deriving DecidableEq, Repr, Inhabited

/-- A fault's action (R174, R191): NOTE, ALARM, HOLD or OPEN. -/
inductive FaultAction | actNote | actAlarm | actHold | actOpen
  deriving DecidableEq, Repr, Inhabited

/-- The holdover retention choice (R183). -/
inductive Retention | essential | full
  deriving DecidableEq, Repr, Inhabited

/-- The nine kinds of lane event (R141, R144). -/
inductive EventKind | admitted | flagged | refuse | passed | unused | forced | evac | doorHeld | peerPunch
  deriving DecidableEq, Repr, Inhabited

/-- The lane of a lane event: an own lane, or PEER (R144). -/
inductive EventLane | own (l : Lane) | peer
  deriving DecidableEq, Repr, Inhabited

/-- The badge test of a condition (R144). -/
inductive BadgeTest | any | equal | notEqual | below | above
  deriving DecidableEq, Repr, Inhabited

/-- How a rule combines its conditions (R142). -/
inductive Combine | both | either | bAfterA | aAfterB
  deriving DecidableEq, Repr, Inhabited

/-- The action of a watch rule (R150). -/
inductive WatchAction | note | alarm | holdLane | holdStation | evacuate
  deriving DecidableEq, Repr, Inhabited

/-- SW0 as the terminal sends it (R174). A code operand is the named thing; `none` is an undefined code. -/
structure Word0 where
  station : Nat
  weekday : Nat
  rate : Option LineRate
  deriving DecidableEq, Repr, Inhabited

/-- The three SW1 codes of one lane (R174); `none` is an undefined code. -/
structure LaneCodes where
  kind : Option LaneKind
  direction : Option Direction
  failMode : Option FailMode
  deriving DecidableEq, Repr, Inhabited

/-- SW1 as the terminal sends it (R174). -/
structure Word1 where
  lane1 : LaneCodes
  lane2 : LaneCodes
  lane3 : LaneCodes
  lane4 : LaneCodes
  deriving DecidableEq, Repr, Inhabited

/-- The two SW2 limits of one lane, in seconds (R174). -/
structure LaneLimits where
  release : Nat
  heldOpen : Nat
  deriving DecidableEq, Repr, Inhabited

/-- SW2 as the terminal sends it (R174): times in seconds, the debounce in ticks. -/
structure Word2 where
  lane1 : LaneLimits
  lane2 : LaneLimits
  lane3 : LaneLimits
  lane4 : LaneLimits
  debounce : Nat
  reread : Nat
  deriving DecidableEq, Repr, Inhabited

/-- SW3 as the terminal sends it (R174). -/
structure Word3 where
  beaconInterval : Nat
  silenceLimit : Nat
  joinPeriod : Nat
  doubtHold : Nat
  latency : Nat
  deriving DecidableEq, Repr, Inhabited

/-- SW4 as the terminal sends it (R174); a pattern number above 7 is an undefined code. -/
structure Word4 where
  stepThreshold : Nat
  dayRoll : Nat
  bellAdvance : Nat
  cueWindow : Nat
  evacPattern : Nat
  alarmPattern : Nat
  deriving DecidableEq, Repr, Inhabited

/-- The filter and action of one fault kind as the terminal sends them (R174). -/
structure FaultChoice where
  filter : Nat
  action : Option FaultAction
  deriving DecidableEq, Repr, Inhabited

/-- SW5 as the terminal sends it (R174). -/
structure Word5 where
  reader : FaultChoice
  strike : FaultChoice
  doorHeld : FaultChoice
  line : FaultChoice
  clock : FaultChoice
  retention : Option Retention
  journalThreshold : Nat
  deriving DecidableEq, Repr, Inhabited

/-- What SET WORD writes: the word that parameter A names, with every field of it (R173); `undefined a` is a word
number above 5, whose data block has no meaning. -/
inductive SetWordBlock
  | sw0 (w : Word0)
  | sw1 (w : Word1)
  | sw2 (w : Word2)
  | sw3 (w : Word3)
  | sw4 (w : Word4)
  | sw5 (w : Word5)
  | undefined (a : BitVec 16)
  deriving DecidableEq, Repr, Inhabited

/-- An optional pair of minutes of day as the terminal sends it: `undefined` is an undefined presence code (R49). -/
inductive PairCode
  | undefined
  | absent
  | present (start stop : Nat)
  deriving DecidableEq, Repr, Inhabited

/-- A shift class record as LOAD CLASS carries it (R48, R49). -/
structure ClassBlock where
  hours : PairCode
  lead : Nat
  graceIn : Nat
  graceLate : Nat
  graceOut : Nat
  quantum : Nat
  breakAfter : Nat
  breakMinutes : Nat
  t1 : Nat
  t2 : Nat
  dayMax : Nat
  weekly : Nat
  night : PairCode
  deriving DecidableEq, Repr, Inhabited

/-- A schedule entry as LOAD BELL carries it (R94). -/
structure BellBlock where
  minute : Nat
  second : Nat
  mask : BitVec 7
  pattern : Nat
  role : Option BellRole
  deriving DecidableEq, Repr, Inhabited

/-- A pattern as LOAD PATTERN carries it (R95). -/
structure PatternBlock where
  on : Nat
  period : Nat
  repeats : BitVec 8
  deriving DecidableEq, Repr, Inhabited

/-- A condition as LOAD RULE carries it (R143): a `none` in a set is an undefined code. -/
structure ConditionBlock where
  kinds : List (Option EventKind)
  lanes : List (Option EventLane)
  test : Option BadgeTest
  limit : BitVec 24
  deriving DecidableEq, Repr, Inhabited

/-- A watch rule's settings as LOAD RULE carries them (R142, R143). -/
structure RuleBlock where
  a : ConditionBlock
  b : ConditionBlock
  combine : Option Combine
  window : Nat
  sameBadge : Bool
  count : Nat
  action : Option WatchAction
  deriving DecidableEq, Repr, Inhabited

/-- The badge entry block as BADGE PUT takes it, in the codes of R206. -/
structure BadgeBlock where
  number : BitVec 24
  cls : Byte
  status : Byte
  mode : Byte
  home : Byte
  expiry : BitVec 16
  expiryPresent : Byte
  deriving DecidableEq, Repr, Inhabited

/-- One character of a reader frame: its data bits, its parity bit, and whether its stop bit was at mark (R205). -/
structure ReaderChar where
  data : Byte
  parity : Bool
  stop : Bool
  deriving DecidableEq, Repr, Inhabited

/-- One character heard on the gate line: its data bits and whether its stop bit was at mark (R108). -/
structure LineChar where
  data : Byte
  stop : Bool
  deriving DecidableEq, Repr, Inhabited

/-- The characters a LINE_ERROR is about (R112): those from one quiet gap to the next, or those heard after a complete
frame and before the next quiet gap. -/
inductive LineRun
  | heard (chars : List LineChar)
  | trailing (chars : List LineChar)
  deriving DecidableEq, Repr, Inhabited

/-- The outcome a PUNCH frame carries (R110). -/
inductive PunchOutcome | passed | evac
  deriving DecidableEq, Repr, Inhabited

/-- A PUNCH frame (R110, R204). -/
structure PunchFrame where
  source : Station
  seq : BitVec 8
  badge : BitVec 24
  lane : Lane
  direction : Direction
  outcome : PunchOutcome
  time : BitVec 32
  era : BitVec 8
  deriving DecidableEq, Repr, Inhabited

/-- The station states a BEACON frame can carry (R110). -/
inductive BeaconState | live | held | evacuate
  deriving DecidableEq, Repr, Inhabited

/-- A BEACON frame (R110, R204). -/
structure BeaconFrame where
  source : Station
  state : BeaconState
  fresh : Bool
  isolated : Bool
  era : BitVec 8
  time : BitVec 32
  next : BitVec 8
  deriving DecidableEq, Repr, Inhabited

/-- A BELL CUE frame (R110, R204). -/
structure CueFrame where
  source : Station
  entry : BitVec 8
  day : BitVec 16
  deriving DecidableEq, Repr, Inhabited

/-- The reason a CLEAR frame carries (R110). -/
inductive ClearReason | input | watch | terminal | relay
  deriving DecidableEq, Repr, Inhabited

/-- A CLEAR frame (R110, R204). -/
structure ClearFrame where
  source : Station
  reason : ClearReason
  deriving DecidableEq, Repr, Inhabited

/-- A frame of the gate line, of any of its five kinds (R110). -/
inductive Frame
  | punch (f : PunchFrame)
  | beacon (f : BeaconFrame)
  | bellCue (f : CueFrame)
  | clear (f : ClearFrame)
  | allClear (source : Station)
  deriving DecidableEq, Repr, Inhabited

/-- The inputs whose raw level can change (R18, R17, R161, R180). The supply senses are seen through the thresholds of R180:
`gateSupply` asserted is the gate supply below its failure threshold, `gateReturn` asserted is the gate supply above its
return threshold, and `backupSupply` asserted is the backup supply below its threshold. -/
inductive Input
  | aux (l : Lane)
  | sense (l : Lane)
  | strap (l : Lane)
  | contact
  | gateSupply
  | gateReturn
  | backupSupply
  deriving DecidableEq, Repr, Inhabited

/-- The inputs that give edges through DEBOUNCE_EXPIRY (R18). -/
inductive LaneInput | aux (l : Lane) | sense (l : Lane)
  deriving DecidableEq, Repr, Inhabited

/-- The inputs whose first level is found afresh (R18, R161). -/
inductive DebouncedInput | aux (l : Lane) | sense (l : Lane) | contact
  deriving DecidableEq, Repr, Inhabited

/-- The commands and events of spec/opcode_table.json, one constructor for each row. -/
inductive Instr
  | setWord (w : SetWordBlock)
  | loadClass (a : BitVec 16) (c : ClassBlock)
  | loadBell (a : BitVec 16) (e : BellBlock)
  | loadPattern (a : BitVec 16) (p : PatternBlock)
  | loadRule (a : BitVec 16) (r : RuleBlock)
  | setTime (time : BitVec 32) (era : BitVec 8)
  | ready
  | badgePut (b : BadgeBlock)
  | badgeDrop (force : BitVec 16) (badge : BitVec 24)
  | badgeRead (a : BitVec 16) (badge : BitVec 24)
  | musterRead (a : BitVec 16)
  | payRead (a : BitVec 16) (badge : BitVec 24)
  | periodClose
  | traceMark
  | traceRead
  | incidentTake
  | statusRead (a b : BitVec 16)
  | peerRead (a : BitVec 16)
  | hold (a : BitVec 16)
  | resume
  | arm (a : BitVec 16)
  | disarm (a : BitVec 16)
  | passbackMode (a : BitVec 16)
  | evacuate
  | allClear
  | shiftTime (a : BitVec 16)
  | attentionRead
  | unknownCommand (code : Byte)
  | mailboxWrite (address : Byte) (bytes : List Byte)
  | overrun (addr : BitVec 7) (byte : Byte)
  | fullReset
  | supplyFailure
  | supplyReturn
  | backupLoss
  | readerFrame (l : Lane) (chars : List ReaderChar)
  | readerBreakSecond (l : Lane)
  | inputLevelChange (i : Input) (level : Bool)
  | debounceExpiry (i : LaneInput)
  | firstLevelFound (i : DebouncedInput)
  | evacContactEdge
  | senseCheckExpiry (l : Lane)
  | releaseTimerExpiry (l : Lane)
  | heldOpenExpiry (l : Lane)
  | evacReadExpiry (l : Lane)
  | clockSecond
  | clockEndReached
  | endHoldSecond
  | oscillatorStop
  | degradedSecond
  | ringInstant (entry : Fin 48)
  | dayRoll
  | doubtEnd
  | beaconTime
  | endOfJoin
  | peerSilence (peer : Station)
  | clashTimerExpiry
  | windowExpiry (r : RuleNo)
  | punch (f : PunchFrame)
  | beacon (f : BeaconFrame)
  | bellCue (f : CueFrame)
  | clear (f : ClearFrame)
  | allClearFrame (source : Station)
  | lineError (run : LineRun)
  | numberClash (f : Frame)
  | deferralStart
  | yield
  | deferralEnd
  | sentWhole
  | collision
  | patternPhaseEnd
  | patternComplete
  | resetRelease
  deriving DecidableEq, Repr, Inhabited

/-- The number of a lane, 1 to 4 (00 section 4.3). -/
def Lane.number : Lane → Nat
  | .lane1 => 1
  | .lane2 => 2
  | .lane3 => 3
  | .lane4 => 4

/-- The four lanes in ascending order. -/
def Lane.all : List Lane := [.lane1, .lane2, .lane3, .lane4]

/-- The lane with a number, if there is one. -/
def Lane.ofNumber : Nat → Option Lane
  | 1 => some .lane1
  | 2 => some .lane2
  | 3 => some .lane3
  | 4 => some .lane4
  | _ => none

/-- The number of a watch rule, 0 to 3 (00 section 4.3). -/
def RuleNo.number : RuleNo → Nat
  | .rule0 => 0
  | .rule1 => 1
  | .rule2 => 2
  | .rule3 => 3

/-- The four rules in the order they are matched (R141). -/
def RuleNo.all : List RuleNo := [.rule0, .rule1, .rule2, .rule3]

/-- The rule with a number, if there is one. -/
def RuleNo.ofNumber : Nat → Option RuleNo
  | 0 => some .rule0
  | 1 => some .rule1
  | 2 => some .rule2
  | 3 => some .rule3
  | _ => none

end Sys2Proof
end

