-- ==== Sys2Proof/Machine/State.lean ====
section
/-! DEFINITION. The state of the station, block by block (00 section 2), as plain data, and the state after a full reset. -/

namespace Sys2Proof.Machine

/-! ## One item for each lane and for each rule -/

/-- One item for each of the four lanes. -/
structure PerLane (α : Type) where
  lane1 : α
  lane2 : α
  lane3 : α
  lane4 : α
  deriving DecidableEq, Repr, Inhabited

/-- The item of a lane. -/
def PerLane.get {α : Type} (p : PerLane α) : Lane → α
  | .lane1 => p.lane1
  | .lane2 => p.lane2
  | .lane3 => p.lane3
  | .lane4 => p.lane4

/-- The items with the one of a lane replaced. -/
def PerLane.set {α : Type} (p : PerLane α) (l : Lane) (x : α) : PerLane α :=
  match l with
  | .lane1 => { p with lane1 := x }
  | .lane2 => { p with lane2 := x }
  | .lane3 => { p with lane3 := x }
  | .lane4 => { p with lane4 := x }

/-- The same item for every lane. -/
def PerLane.same {α : Type} (x : α) : PerLane α := ⟨x, x, x, x⟩

/-- Every item changed. -/
def PerLane.map {α β : Type} (f : α → β) (p : PerLane α) : PerLane β := ⟨f p.lane1, f p.lane2, f p.lane3, f p.lane4⟩

/-- One item for each of the four watch rules. -/
structure PerRule (α : Type) where
  rule0 : α
  rule1 : α
  rule2 : α
  rule3 : α
  deriving DecidableEq, Repr, Inhabited

/-- The item of a rule. -/
def PerRule.get {α : Type} (p : PerRule α) : RuleNo → α
  | .rule0 => p.rule0
  | .rule1 => p.rule1
  | .rule2 => p.rule2
  | .rule3 => p.rule3

/-- The items with the one of a rule replaced. -/
def PerRule.set {α : Type} (p : PerRule α) (r : RuleNo) (x : α) : PerRule α :=
  match r with
  | .rule0 => { p with rule0 := x }
  | .rule1 => { p with rule1 := x }
  | .rule2 => { p with rule2 := x }
  | .rule3 => { p with rule3 := x }

/-- The same item for every rule. -/
def PerRule.same {α : Type} (x : α) : PerRule α := ⟨x, x, x, x⟩

/-- Every item changed. -/
def PerRule.map {α β : Type} (f : α → β) (p : PerRule α) : PerRule β := ⟨f p.rule0, f p.rule1, f p.rule2, f p.rule3⟩

/-! ## Badge table (01) -/

/-- Presence states (R9). -/
inductive PresenceState | isIn | isOut | unknown
  deriving DecidableEq, Repr, Inhabited

/-- A presence record (R9). -/
structure Presence where
  state : PresenceState
  time : Nat
  source : Option Station
  deriving DecidableEq, Repr, Inhabited

/-- A badge entry (01 section 1.1). -/
structure BadgeEntry where
  number : Nat
  cls : Fin 8
  status : BadgeStatus
  expiry : Option Nat
  mode : PassbackMode
  home : Station
  paySlot : Option Nat
  presence : Presence
  deriving DecidableEq, Repr, Inhabited

/-- The badge table with its counts and the muster cursor (R1, R14, R15, R16). -/
structure BadgeTable where
  entries : List BadgeEntry
  muster : Nat
  cursor : Nat
  ownStale : Nat
  ownStranger : Nat
  deriving DecidableEq, Repr, Inhabited

/-! ## Lane units (02) -/

/-- Lane states (R23). -/
inductive LaneState | off | idle | released | opened | held | fault
  deriving DecidableEq, Repr, Inhabited

/-- A pending release (R29): `flagged` is the verdict ADMIT_FLAGGED, `rereadUntil` the real time, in sixteenths, of the
repeat-suppression deadline. -/
structure PendingRelease where
  badge : Nat
  readTime : Nat
  flagged : Bool
  rereadUntil : Nat
  deriving DecidableEq, Repr, Inhabited

/-- An evacuation read, with the sixteenths left of the release time since the read (R42). -/
structure EvacRead where
  badge : Nat
  readTime : Nat
  left : Nat
  deriving DecidableEq, Repr, Inhabited

/-- A debounced input (R18): its debounced level, absent until the first is found, and its debounce timer. -/
structure Debounced where
  level : Option Bool
  timer : Option Nat
  deriving DecidableEq, Repr, Inhabited

/-- A lane unit (R17 to R47). A drive of `true` is RELEASED. Timers hold the sixteenths of real time left. For `aux`,
`true` is rotation complete, or the door contact open; for `sense`, mechanically released. -/
structure LaneUnit where
  kind : LaneKind
  state : LaneState
  drive : Bool
  openDrive : Bool
  release : Option PendingRelease
  releaseTimer : Option Nat
  heldOpen : Option Nat
  aux : Debounced
  sense : Debounced
  senseCheck : Option Nat
  evacRead : Option EvacRead
  readerErrors : Nat
  repeats : Nat
  forced : Nat
  openPassages : Nat
  evacPassages : Nat
  deriving DecidableEq, Repr, Inhabited

/-- The raw levels of the input pins (R17, R18, R161, R180): `strap` is fitted, `contact` asserted, `gateLow` the gate
supply below its failure threshold, `gateGood` the gate supply above its return threshold, `backupLow` the backup supply
below its threshold, `resetLine` the reset line asserted (R172), or a power-on not yet complete. -/
structure Inputs where
  aux : PerLane Bool
  sense : PerLane Bool
  strap : PerLane Bool
  contact : Bool
  gateLow : Bool
  gateGood : Bool
  backupLow : Bool
  resetLine : Bool
  deriving DecidableEq, Repr, Inhabited

/-! ## Pay unit (03) -/

/-- A shift class record (R48). -/
structure ShiftClass where
  hours : Option (Nat × Nat)
  lead : Nat
  graceIn : Nat
  graceLate : Nat
  graceOut : Nat
  quantum : Nat
  breakAfter : Nat
  breakMinutes : Nat
  t1 : Nat
  t2 : Nat
  dayMax : Nat
  weekly : Nat
  night : Option (Nat × Nat)
  deriving DecidableEq, Repr, Inhabited

/-- The flags of a slot or a period, in the bit order of R206. -/
abbrev PayFlags := BitVec 10

/-- A day slot (R52). `lastOut` is the last effective out, in pay-day minutes, with the last class. -/
structure DaySlot where
  day : Nat
  regular : Nat
  ot1 : Nat
  ot2 : Nat
  night : Nat
  clamped : Nat
  intervals : Nat
  breakMark : Bool
  lastOut : Option (Int × Fin 8)
  flags : PayFlags
  deriving DecidableEq, Repr, Inhabited

/-- The period or the last period (R53). -/
structure Period where
  regular : Nat
  ot1 : Nat
  ot2 : Nat
  night : Nat
  days : Nat
  flags : PayFlags
  saturated : Bool
  deriving DecidableEq, Repr, Inhabited

/-- An open IN (R51). -/
structure OpenIn where
  time : Nat
  day : Nat
  era : BitVec 8
  cls : Fin 8
  source : Station
  flagged : Bool
  deriving DecidableEq, Repr, Inhabited

/-- An orphan OUT (R51). -/
structure Orphan where
  time : Nat
  era : BitVec 8
  source : Station
  deriving DecidableEq, Repr, Inhabited

/-- A pay record (R51). -/
structure PayRecord where
  openIn : Option OpenIn
  orphan : Option Orphan
  current : DaySlot
  previous : DaySlot
  period : Period
  last : Period
  deriving DecidableEq, Repr, Inhabited

/-- The pay unit (R48, R50, R54). `records` lists the linked records by ascending slot number; a slot that is not listed
is free. -/
structure PayUnit where
  classes : List ShiftClass
  records : List (Nat × PayRecord)
  today : Nat
  earlyRolls : Nat
  deriving DecidableEq, Repr, Inhabited

/-! ## Plant clock (04) -/

/-- The action of an agreement (R83). -/
inductive AgreementAction | slew | clampTo | step
  deriving DecidableEq, Repr, Inhabited

/-- The agreement record (R74, R83). -/
structure Agreement where
  time : Nat
  contributors : Nat
  median : Int
  action : AgreementAction
  deriving DecidableEq, Repr, Inhabited

/-- The plant clock (R74). `sixteenth` counts the sixteenths of the running second, `realTime` the sixteenths of real
time since the reset, `countedFrom` is the plant time before the latest counting, and `endFrom` and `oscFrom` are the real
times at which END and DEGRADED were last set. -/
structure Clock where
  time : Nat
  era : BitVec 8
  remainder : Int
  clockSet : Bool
  degraded : Bool
  endMark : Bool
  agreement : Option Agreement
  sixteenth : Nat
  realTime : Nat
  countedFrom : Nat
  endFrom : Nat
  oscFrom : Nat
  deriving DecidableEq, Repr, Inhabited

/-! ## Bell unit (05) -/

/-- A schedule entry (R93). Bit 0 of the mask is Monday. -/
structure BellEntry where
  minute : Nat
  second : Nat
  mask : BitVec 7
  pattern : Fin 8
  role : BellRole
  mark : Option Nat
  deriving DecidableEq, Repr, Inhabited

/-- A pattern (R95). -/
structure Pattern where
  on : Nat
  period : Nat
  repeats : Nat
  deriving DecidableEq, Repr, Inhabited

/-- The ranks of a claim (R104). -/
inductive Rank | scheduled | alarm | evacuation
  deriving DecidableEq, Repr, Inhabited

/-- A sounding claim (R103): the repeat in progress counts from 1, `on` is the bell output, and `left` the sixteenths left
of its on or off phase. -/
structure Sounding where
  rank : Rank
  pattern : Fin 8
  entry : Option (Fin 48)
  repeatNo : Nat
  on : Bool
  left : Nat
  deriving DecidableEq, Repr, Inhabited

/-- Where a schedule outcome came from (R107). -/
inductive BellOrigin | clock | catchUp | cue (source : Station)
  deriving DecidableEq, Repr, Inhabited

/-- A schedule outcome (R107). -/
inductive BellOutcome | rung | cut | suppressed | missed
  deriving DecidableEq, Repr, Inhabited

/-- A record of the bell trace (R107). -/
structure BellRecord where
  entry : Fin 48
  role : BellRole
  day : Nat
  time : Nat
  origin : BellOrigin
  outcome : BellOutcome
  deriving DecidableEq, Repr, Inhabited

/-- The bell unit (R93, R95, R103, R106, R107). `arbiter` is absent for IDLE; `trace` lists the oldest record first. -/
structure BellUnit where
  entries : List BellEntry
  patterns : List Pattern
  arbiter : Option Sounding
  missed : Nat
  cut : Nat
  suppressed : Nat
  earlyCue : Nat
  trace : List BellRecord
  deriving DecidableEq, Repr, Inhabited

/-! ## Line port and punch journal (06) -/

/-- What the evac slot can hold (R116). -/
inductive EvacFrame | clear (reason : ClearReason) | allClear
  deriving DecidableEq, Repr, Inhabited

/-- The frame of the evac slot, with the tag of its placing. -/
structure EvacSlot where
  tag : Nat
  frame : EvacFrame
  deriving DecidableEq, Repr, Inhabited

/-- A cue of the bell-cue list (R100), with the tag of its placing. -/
structure Cue where
  tag : Nat
  entry : Fin 48
  day : Nat
  deriving DecidableEq, Repr, Inhabited

/-- A punch of the journal (R126), with the tag of its placing. -/
structure JournalEntry where
  tag : Nat
  seq : BitVec 8
  badge : Nat
  lane : Lane
  direction : Direction
  outcome : PunchOutcome
  time : Nat
  era : BitVec 8
  deriving DecidableEq, Repr, Inhabited

/-- The five kinds of frame (R110), as the frame in hand is reported (R125). Each kind has its place in the outgoing set
(R116): CLEAR and ALL CLEAR the evac slot. -/
inductive FrameKind | clear | allClear | bellCue | punch | beacon
  deriving DecidableEq, Repr, Inhabited

/-- The frame in hand (R119): its kind, which gives the place it was selected from, and its tag. -/
structure InHand where
  kind : FrameKind
  tag : Nat
  deriving DecidableEq, Repr, Inhabited

/-- A sending in progress (R121): the frame in hand, and the frame as it was when its sending began. -/
structure Sending where
  hand : InHand
  frame : Frame
  deriving DecidableEq, Repr, Inhabited

/-- The line port (R114, R116, R118, R119, R120, R124, R125). `beacon` holds the tag of a beacon wanted. -/
structure LinePort where
  evac : Option EvacSlot
  cues : List Cue
  beacon : Option Nat
  inHand : Option InHand
  attempt : Nat
  deferral : Option Nat
  sending : Option Sending
  drops : Nat
  fresh : Bool
  errors : Nat
  collisions : Nat
  dropped : Nat
  clashes : Nat
  clashTimer : Option Nat
  beaconTimer : Option Nat
  nextTag : Nat
  deriving DecidableEq, Repr, Inhabited

/-- The punch journal (R126, R127). -/
structure Journal where
  entries : List JournalEntry
  next : BitVec 8
  full : Bool
  leftOut : Nat
  deriving DecidableEq, Repr, Inhabited

/-! ## Peer table (07) -/

/-- The state of a peer entry (R129). -/
inductive PeerState | never | heard | lost
  deriving DecidableEq, Repr, Inhabited

/-- A stored offset in ticks, with the real time at which its beacon was taken (R80). -/
structure Offset where
  ticks : Int
  takenAt : Nat
  deriving DecidableEq, Repr, Inhabited

/-- A peer entry (R129). -/
structure PeerEntry where
  state : PeerState
  lastFrame : Option Nat
  silence : Option Nat
  era : Option (BitVec 8)
  reported : Option BeaconState
  reportedIsolated : Bool
  offset : Option Offset
  expected : Option (BitVec 8)
  gap : Nat
  late : Nat
  stale : Nat
  stranger : Nat
  behindEra : Nat
  deriving DecidableEq, Repr, Inhabited

/-- The peer table with the doubt deadline and the isolated mark (R129, R137). -/
structure PeerTable where
  entries : List PeerEntry
  deadline : Nat
  isolated : Bool
  deriving DecidableEq, Repr, Inhabited

/-! ## Watch unit (08) -/

/-- The reason of a refusal, of a FLAGGED or of an EVAC admission, in the order of R207. -/
inductive Reason | notLive | evac | held | unknown | blocked | expired | offShift | passback | fault
  deriving DecidableEq, Repr, Inhabited

/-- A lane event (R141). -/
structure LaneEvent where
  kind : EventKind
  time : Nat
  lane : EventLane
  badge : Option Nat
  reason : Option Reason
  readTime : Option Nat
  source : Option Station
  direction : Option Direction
  outcome : Option PunchOutcome
  deriving DecidableEq, Repr, Inhabited

/-- A condition of a watch rule (R142, R144). -/
structure Condition where
  kinds : List EventKind
  lanes : List EventLane
  test : BadgeTest
  limit : Nat
  deriving DecidableEq, Repr, Inhabited

/-- A first record (R142), with the sixteenths left of its window. -/
structure FirstRecord where
  time : Nat
  badge : Option Nat
  left : Nat
  deriving DecidableEq, Repr, Inhabited

/-- A watch rule: its settings and its running state (R142). -/
structure Rule where
  a : Condition
  b : Condition
  combine : Combine
  window : Nat
  sameBadge : Bool
  count : Nat
  action : WatchAction
  armed : Bool
  counter : Nat
  first : Option FirstRecord
  trips : Nat
  deriving DecidableEq, Repr, Inhabited

/-- The kinds of incident, in the order of R207. -/
inductive IncidentKind
  | watch | forced | doorHeld | reader | strike | line | clock | clockStep | eraChange | evacBegin | evacEnd
  | doubtBegin | peerLost | journalFull | holdover
  deriving DecidableEq, Repr, Inhabited

/-- An incident (R155). -/
structure Incident where
  kind : IncidentKind
  time : Nat
  lane : Option Lane
  badge : Option Nat
  rule : Option RuleNo
  peer : Option Station
  detail : Option Int
  deriving DecidableEq, Repr, Inhabited

/-- An entry of the gate trace (R157). -/
structure TraceEntry where
  number : BitVec 16
  time : Nat
  lane : Lane
  badge : Option Nat
  outcome : EventKind
  reason : Option Reason
  unused : Bool
  deriving DecidableEq, Repr, Inhabited

/-- The watch unit (R142, R155, R157, R158). `handed` holds the events handed and not yet taken (R141). -/
structure WatchUnit where
  rules : PerRule Rule
  incidents : List Incident
  lost : Nat
  trace : List (Option TraceEntry)
  writePos : Nat
  nextEvent : BitVec 16
  readPtr : Nat
  handed : List LaneEvent
  deriving DecidableEq, Repr, Inhabited

/-! ## Fault monitor (11) -/

/-- The fault kinds that have records (R187). -/
inductive FaultKind | reader | strike | doorHeld | line | clock
  deriving DecidableEq, Repr, Inhabited

/-- The causes of LINE and CLOCK, in the order of R207. -/
inductive FaultCause | isolated | clash | osc | endOfTime
  deriving DecidableEq, Repr, Inhabited

/-- The states of a fault record (R187). -/
inductive FaultState | normal | counting | active
  deriving DecidableEq, Repr, Inhabited

/-- A fault record (R187). -/
structure FaultRecord where
  state : FaultState
  count : Nat
  causes : List FaultCause
  action : Option FaultAction
  deriving DecidableEq, Repr, Inhabited

/-- The three fault records of a lane (R187). -/
structure LaneFaults where
  reader : FaultRecord
  strike : FaultRecord
  doorHeld : FaultRecord
  deriving DecidableEq, Repr, Inhabited

/-- The fourteen fault records (R187). -/
structure FaultMonitor where
  lanes : PerLane LaneFaults
  line : FaultRecord
  clock : FaultRecord
  deriving DecidableEq, Repr, Inhabited

/-! ## Station control (08, 09, 10) -/

/-- The station states (R171). -/
inductive StationState | setup | join | live | held | evacuate | holdover
  deriving DecidableEq, Repr, Inhabited

/-- SW0 as stored (R174). -/
structure SW0 where
  station : Station
  weekday : Nat
  rate : LineRate
  deriving DecidableEq, Repr, Inhabited

/-- The settings of one lane in SW1 (R174). -/
structure LaneSetting where
  kind : LaneKind
  direction : Direction
  failMode : FailMode
  deriving DecidableEq, Repr, Inhabited

/-- SW2 as stored (R174): seconds, and ticks for the debounce. -/
structure SW2 where
  limits : PerLane LaneLimits
  debounce : Nat
  reread : Nat
  deriving DecidableEq, Repr, Inhabited

/-- SW4 as stored (R174). -/
structure SW4 where
  stepThreshold : Nat
  dayRoll : Nat
  bellAdvance : Nat
  cueWindow : Nat
  evacPattern : Fin 8
  alarmPattern : Fin 8
  deriving DecidableEq, Repr, Inhabited

/-- The filter and action of a fault kind as stored (R174). -/
structure FaultSetting where
  filter : Nat
  action : FaultAction
  deriving DecidableEq, Repr, Inhabited

/-- SW5 as stored (R174). -/
structure SW5 where
  reader : FaultSetting
  strike : FaultSetting
  doorHeld : FaultSetting
  line : FaultSetting
  clock : FaultSetting
  retention : Retention
  journalThreshold : Nat
  deriving DecidableEq, Repr, Inhabited

/-- A hold reason (R151). -/
inductive HoldReason | terminal | watch (rule : RuleNo) | fault (kind : FaultKind)
  deriving DecidableEq, Repr, Inhabited

/-- A lane's state and pending badge as the hold context holds them (R152). -/
structure LaneContext where
  state : LaneState
  badge : Option Nat
  deriving DecidableEq, Repr, Inhabited

/-- The hold context (R152). -/
structure HoldContext where
  time : Nat
  reason : HoldReason
  lane : Option Lane
  lanes : PerLane LaneContext
  deriving DecidableEq, Repr, Inhabited

/-- The reason of an evacuation (R160); FRAME carries the source station and the frame's reason. -/
inductive EvacReason | input | watch | terminal | frame (source : Station) (reason : ClearReason)
  deriving DecidableEq, Repr, Inhabited

/-- The evacuation record (R160). -/
structure EvacRecord where
  reason : EvacReason
  time : Nat
  deriving DecidableEq, Repr, Inhabited

/-- The pending evacuation (R160). -/
structure PendingEvac where
  reason : EvacReason
  clearMark : Bool
  deriving DecidableEq, Repr, Inhabited

/-- The passback override (R27). -/
inductive PassbackOverride | follow | forceSoft
  deriving DecidableEq, Repr, Inhabited

/-- Station control (R151, R152, R160, R161, R171 to R174, R178, R27). A set word is present when its written mark is
set. -/
structure Control where
  station : StationState
  sw0 : Option SW0
  sw1 : Option (PerLane LaneSetting)
  sw2 : Option SW2
  sw3 : Option Word3
  sw4 : Option SW4
  sw5 : Option SW5
  stationReasons : List HoldReason
  laneReasons : PerLane (List HoldReason)
  context : Option HoldContext
  evacRecord : Option EvacRecord
  pendingEvac : Option PendingEvac
  contact : Bool
  contactFound : Bool
  contactTimer : Option Nat
  joinTimer : Option Nat
  holdoverCount : Nat
  holdoverEntry : Nat
  override : PassbackOverride
  deriving DecidableEq, Repr, Inhabited

/-! ## Terminal port (12) -/

/-- The six written marks and the clock-set mark, as READY returns them when it is refused INCOMPLETE (R177). -/
structure WrittenMarks where
  sw0 : Bool
  sw1 : Bool
  sw2 : Bool
  sw3 : Bool
  sw4 : Bool
  sw5 : Bool
  clockSet : Bool
  deriving DecidableEq, Repr, Inhabited

/-- A part of a muster walk (R15). -/
structure MusterPart where
  muster : Nat
  badges : List Nat
  count : Nat
  atEnd : Bool
  deriving DecidableEq, Repr, Inhabited

/-- STATION status (R200). -/
structure StationStatus where
  state : StationState
  marks : WrittenMarks
  holdoverCount : Nat
  elapsed : Option Nat
  backupLow : Bool
  contact : Bool
  evacRecord : Option EvacRecord
  pendingEvac : Option PendingEvac
  reasons : List HoldReason
  override : PassbackOverride
  deadline : Nat
  isolated : Bool
  doubt : Bool
  deriving DecidableEq, Repr, Inhabited

/-- CLOCK status (R200). -/
structure ClockStatus where
  time : Nat
  era : BitVec 8
  remainder : Int
  degraded : Bool
  endMark : Bool
  agreement : Option Agreement
  deriving DecidableEq, Repr, Inhabited

/-- LANE status (R200). `pending` is the badge of a pending release and whether its timer runs; `heldOpenLimit` is the
written held-open limit in seconds, which R17 has reported for a TURNSTILE lane too. -/
structure LaneStatus where
  written : Option LaneKind
  heldOpenLimit : Option Nat
  kind : LaneKind
  state : LaneState
  reasons : List HoldReason
  drive : Bool
  pending : Option (Nat × Bool)
  readerErrors : Nat
  repeats : Nat
  forced : Nat
  openPassages : Nat
  evacPassages : Nat
  faults : LaneFaults
  deriving DecidableEq, Repr, Inhabited

/-- TABLES status (R200). -/
structure TablesStatus where
  entries : Nat
  muster : Nat
  ownStale : Nat
  ownStranger : Nat
  freeRecords : Nat
  today : Nat
  earlyRolls : Nat
  deriving DecidableEq, Repr, Inhabited

/-- LINE status (R200). -/
structure LineStatus where
  errors : Nat
  collisions : Nat
  dropped : Nat
  clashes : Nat
  cues : Nat
  evacHeld : Bool
  beaconHeld : Bool
  inHand : Option FrameKind
  attempt : Nat
  drops : Nat
  fresh : Bool
  level : Nat
  next : BitVec 8
  full : Bool
  leftOut : Nat
  never : Nat
  heard : Nat
  lost : Nat
  line : FaultRecord
  clock : FaultRecord
  deriving DecidableEq, Repr, Inhabited

/-- BELL status (R200). -/
structure BellStatus where
  arbiter : Option Sounding
  output : Bool
  missed : Nat
  cut : Nat
  suppressed : Nat
  earlyCue : Nat
  deriving DecidableEq, Repr, Inhabited

/-- WATCH status of one rule (R200). -/
structure RuleStatus where
  armed : Bool
  counter : Nat
  trips : Nat
  first : Option FirstRecord
  deriving DecidableEq, Repr, Inhabited

/-- The fields a part of STATUS READ returns (R200). -/
inductive StatusReply
  | station (r : StationStatus)
  | clock (r : ClockStatus)
  | lane (r : LaneStatus)
  | context (r : Option HoldContext)
  | tables (r : TablesStatus)
  | line (r : LineStatus)
  | bell (r : BellStatus)
  | bellTrace (records : List BellRecord) (held : Nat)
  | bellMarks (marks : List Nat)
  | watch (rules : PerRule RuleStatus) (lost : Nat)
  deriving DecidableEq, Repr, Inhabited

/-- The fields that the latest command returned in a data block whose byte positions the manual does not give (00
section 3). -/
inductive Reply
  | nothing
  | incomplete (marks : WrittenMarks)
  | muster (part : MusterPart)
  | status (r : StatusReply)
  | peer (entry : PeerEntry)
  deriving DecidableEq, Repr, Inhabited

/-- The terminal port (R196, R199): the mailbox and the PAY_FLAG mark. `reply` and `unstated` are the model's own. -/
structure TerminalPort where
  command : Byte
  paramA : BitVec 16
  paramB : BitVec 16
  data : List Byte
  go : Bool
  overrun : Bool
  payFlag : Bool
  reply : Reply
  unstated : Nat
  deriving DecidableEq, Repr, Inhabited

/-! ## The supply monitor (10 section 10.6) -/

/-- The supply monitor (R180): the failure delay and the return delay running, a backup loss to report, and the part without
power, after a backup loss and until the gate supply returns (R186). -/
structure SupplyMonitor where
  failing : Option Nat
  returning : Option Nat
  loss : Bool
  unpowered : Bool
  deriving DecidableEq, Repr, Inhabited

/-! ## The station -/

/-- The station: its thirteen blocks (00 section 2), its supply monitor, its input pins, and the queue of waiting commands,
first in first out. -/
structure State where
  badges : BadgeTable
  lanes : PerLane LaneUnit
  inputs : Inputs
  pay : PayUnit
  clock : Clock
  bell : BellUnit
  line : LinePort
  journal : Journal
  peers : PeerTable
  watch : WatchUnit
  faults : FaultMonitor
  control : Control
  port : TerminalPort
  supply : SupplyMonitor
  inReset : Bool
  pending : List Instr
  deriving DecidableEq, Repr, Inhabited

/-- No command stops the part, so no fault is raised: the part's own faults are state of the fault monitor (R187, R195).
An empty type is safe: nothing can be claimed of a fault. -/
inductive Fault
  deriving DecidableEq, Repr

/-- Refusals. Only an arm of `exec` that has no meaning yet would raise one; every arm has a meaning. -/
inductive Refusal
  /-- Raised by an arm of `exec` for a command not modelled yet, by its mnemonic. Safe: the model stops. -/
  | notModelled (mnemonic : String)
  deriving DecidableEq, Repr

/-! ## The full-reset values of the blocks -/

/-- No debounced level and no debounce timer (R18). -/
def Debounced.reset : Debounced := { level := none, timer := none }

/-- A lane after a full reset: OFF, its strike LOCKED, its counts 0 (R17, R23, R47). -/
def LaneUnit.reset : LaneUnit where
  kind := .off
  state := .off
  drive := false
  openDrive := false
  release := none
  releaseTimer := none
  heldOpen := none
  aux := .reset
  sense := .reset
  senseCheck := none
  evacRead := none
  readerErrors := 0
  repeats := 0
  forced := 0
  openPassages := 0
  evacPassages := 0

/-- DESIGN CHOICE, unsafe (assumption 2): the levels outside the part when it is first powered. Inputs are driven from
outside, and the manual gives them no reset value. -/
def Inputs.reset : Inputs where
  aux := .same false
  sense := .same false
  strap := .same true
  contact := false
  gateLow := false
  gateGood := true
  backupLow := false
  resetLine := false

/-- The plain class (R49). -/
def ShiftClass.plain : ShiftClass where
  hours := none
  lead := 0
  graceIn := 0
  graceLate := 0
  graceOut := 0
  quantum := 1
  breakAfter := 0
  breakMinutes := 0
  t1 := 1440
  t2 := 1440
  dayMax := 1440
  weekly := 0
  night := none

/-- A schedule entry after a full reset (R93). -/
def BellEntry.reset : BellEntry :=
  { minute := 0, second := 0, mask := 0, pattern := 0, role := .signal, mark := none }

/-- A pattern after a full reset (R95). -/
def Pattern.reset : Pattern := { on := 16, period := 16, repeats := 1 }

/-- A peer entry after a full reset (R129). -/
def PeerEntry.reset : PeerEntry where
  state := .never
  lastFrame := none
  silence := none
  era := none
  reported := none
  reportedIsolated := false
  offset := none
  expected := none
  gap := 0
  late := 0
  stale := 0
  stranger := 0
  behindEra := 0

/-- A condition with empty sets, which matches no event (R142). DESIGN CHOICE (assumption 39): the limit is 0; R142 gives the
test ANY and no limit, and no event meets it. -/
def Condition.plain : Condition := { kinds := [], lanes := [], test := .any, limit := 0 }

/-- The plain rule (R142). -/
def Rule.plain : Rule where
  a := .plain
  b := .plain
  combine := .either
  window := 1
  sameBadge := false
  count := 1
  action := .note
  armed := false
  counter := 0
  first := none
  trips := 0

/-- A fault record after a full reset, and after a return to NORMAL (R187, R190). -/
def FaultRecord.reset : FaultRecord := { state := .normal, count := 0, causes := [], action := none }

/-- The machine right after a full reset is released: the station in SETUP, every block at its full-reset values (R172),
and an empty queue. -/
def State.reset : State where
  badges := { entries := [], muster := 0, cursor := 0, ownStale := 0, ownStranger := 0 }
  lanes := .same .reset
  inputs := .reset
  pay := { classes := List.replicate 8 .plain, records := [], today := 0, earlyRolls := 0 }
  clock :=
    { time := 0, era := 0, remainder := 0, clockSet := false, degraded := false, endMark := false, agreement := none,
      sixteenth := 0, realTime := 0, countedFrom := 0, endFrom := 0, oscFrom := 0 }
  bell :=
    { entries := List.replicate 48 .reset, patterns := List.replicate 8 .reset, arbiter := none, missed := 0, cut := 0,
      suppressed := 0, earlyCue := 0, trace := [] }
  line :=
    { evac := none, cues := [], beacon := none, inHand := none, attempt := 0, deferral := none, sending := none,
      drops := 0, fresh := false, errors := 0, collisions := 0, dropped := 0, clashes := 0, clashTimer := none,
      beaconTimer := none, nextTag := 0 }
  journal := { entries := [], next := 0, full := false, leftOut := 0 }
  peers := { entries := List.replicate 16 .reset, deadline := 0, isolated := false }
  watch :=
    { rules := .same .plain, incidents := [], lost := 0, trace := List.replicate 32 none, writePos := 0, nextEvent := 0,
      readPtr := 0, handed := [] }
  faults :=
    { lanes := .same { reader := .reset, strike := .reset, doorHeld := .reset }, line := .reset, clock := .reset }
  control :=
    { station := .setup, sw0 := none, sw1 := none, sw2 := none, sw3 := none, sw4 := none, sw5 := none,
      stationReasons := [], laneReasons := .same [], context := none, evacRecord := none, pendingEvac := none,
      contact := false, contactFound := false, contactTimer := none, joinTimer := none, holdoverCount := 0,
      holdoverEntry := 0, override := .follow }
  port :=
    { command := 0, paramA := 0, paramB := 0, data := List.replicate 64 0, go := false, overrun := false,
      payFlag := false, reply := .nothing, unstated := 0 }
  supply := { failing := none, returning := none, loss := false, unpowered := false }
  inReset := false
  pending := []

/-! ## One update for each block

Each changes one field of `State`; Sys2Proof/Laws/State.lean says once what each leaves alone. -/

/-- The badge table changed. -/
def State.modBadges (s : State) (f : BadgeTable → BadgeTable) : State := { s with badges := f s.badges }
/-- The lane units changed. -/
def State.modLanes (s : State) (f : PerLane LaneUnit → PerLane LaneUnit) : State := { s with lanes := f s.lanes }
/-- The input pins changed. -/
def State.modInputs (s : State) (f : Inputs → Inputs) : State := { s with inputs := f s.inputs }
/-- The pay unit changed. -/
def State.modPay (s : State) (f : PayUnit → PayUnit) : State := { s with pay := f s.pay }
/-- The plant clock changed. -/
def State.modClock (s : State) (f : Clock → Clock) : State := { s with clock := f s.clock }
/-- The bell unit changed. -/
def State.modBell (s : State) (f : BellUnit → BellUnit) : State := { s with bell := f s.bell }
/-- The line port changed. -/
def State.modLine (s : State) (f : LinePort → LinePort) : State := { s with line := f s.line }
/-- The punch journal changed. -/
def State.modJournal (s : State) (f : Journal → Journal) : State := { s with journal := f s.journal }
/-- The peer table changed. -/
def State.modPeers (s : State) (f : PeerTable → PeerTable) : State := { s with peers := f s.peers }
/-- The watch unit changed. -/
def State.modWatch (s : State) (f : WatchUnit → WatchUnit) : State := { s with watch := f s.watch }
/-- The fault monitor changed. -/
def State.modFaults (s : State) (f : FaultMonitor → FaultMonitor) : State := { s with faults := f s.faults }
/-- Station control changed. -/
def State.modControl (s : State) (f : Control → Control) : State := { s with control := f s.control }
/-- The terminal port changed. -/
def State.modPort (s : State) (f : TerminalPort → TerminalPort) : State := { s with port := f s.port }
/-- The supply monitor changed. -/
def State.modSupply (s : State) (f : SupplyMonitor → SupplyMonitor) : State := { s with supply := f s.supply }
/-- One lane unit changed. -/
def State.modLane (s : State) (l : Lane) (f : LaneUnit → LaneUnit) : State :=
  s.modLanes fun p => p.set l (f (p.get l))

/-- A lane's unit. -/
abbrev State.lane (s : State) (l : Lane) : LaneUnit := s.lanes.get l

/-- The station state (R171). -/
abbrev State.station (s : State) : StationState := s.control.station

end Sys2Proof.Machine
end

