-- ==== Sys2Proof/Config.lean ====
section
/-! DEFINITION. What an implementation fixes and the manual leaves open: constants with no body, of which nothing can be
proved but that they are functions of their arguments (assumption 4). -/

namespace Sys2Proof

/-- A byte of a returned block whose value the manual does not state: the first argument is a fresh number for each block,
the second the byte's position. -/
opaque Config.unstatedByte : Nat → Nat → Byte

/-- The data block that carries the returned fields of READY, MUSTER READ, STATUS READ or PEER READ: their byte positions
are not part of the manual (00 section 3). The first argument is a fresh number for each block. -/
opaque Config.replyBlock : Nat → Machine.Reply → List Byte

/-- The data block as the terminal writes the fields of SET WORD, LOAD CLASS, LOAD BELL, LOAD PATTERN, LOAD RULE or SET TIME
(00 section 3). -/
opaque Config.writtenBlock : Instr → List Byte

/-- The fields of SW0 that a data block spells (00 section 3). -/
opaque Config.readWord0 : List Byte → Word0
/-- The fields of SW1 that a data block spells. -/
opaque Config.readWord1 : List Byte → Word1
/-- The fields of SW2 that a data block spells. -/
opaque Config.readWord2 : List Byte → Word2
/-- The fields of SW3 that a data block spells. -/
opaque Config.readWord3 : List Byte → Word3
/-- The fields of SW4 that a data block spells. -/
opaque Config.readWord4 : List Byte → Word4
/-- The fields of SW5 that a data block spells. -/
opaque Config.readWord5 : List Byte → Word5
/-- The shift class record that a data block spells. -/
opaque Config.readClass : List Byte → ClassBlock
/-- The schedule entry that a data block spells. -/
opaque Config.readBell : List Byte → BellBlock
/-- The pattern that a data block spells. -/
opaque Config.readPattern : List Byte → PatternBlock
/-- The rule settings that a data block spells. -/
opaque Config.readRule : List Byte → RuleBlock
/-- The plant time that a data block spells for SET TIME. -/
opaque Config.readTime : List Byte → BitVec 32
/-- The era that a data block spells for SET TIME. -/
opaque Config.readEra : List Byte → BitVec 8

end Sys2Proof
end

