-- ==== Sys2Proof/Machine/Codes.lean ====
section
/-! DEFINITION. The codes of R203, R206 and R207: result codes, command codes, the codes of blocks and of incident
details. Each set runs from 1 in the order the manual gives, but for the codes the manual lists one by one. -/

namespace Sys2Proof.Machine

/-- The result codes (R203). -/
inductive ResultCode
  | done | doneClamped | notInState | locked | incomplete | badValue | noEntry | full | stillOpen | empty | inputActive
  | unknownCommand
  deriving DecidableEq, Repr

/-- A result code's number (R203). -/
def ResultCode.code : ResultCode → Nat
  | .done => 0
  | .doneClamped => 1
  | .notInState => 2
  | .locked => 3
  | .incomplete => 4
  | .badValue => 5
  | .noEntry => 6
  | .full => 7
  | .stillOpen => 8
  | .empty => 9
  | .inputActive => 10
  | .unknownCommand => 11

/-- The command bytes that name a command (R203). -/
def commandCodes : List Byte :=
  [0x10, 0x11, 0x12, 0x13, 0x14, 0x15, 0x16, 0x20, 0x21, 0x22, 0x23, 0x30, 0x31, 0x40, 0x41, 0x42, 0x50, 0x51,
   0x60, 0x61, 0x62, 0x63, 0x64, 0x65, 0x66, 0x67, 0x70]

/-- An incident kind's code (R207). -/
def IncidentKind.code : IncidentKind → Nat
  | .watch => 1
  | .forced => 2
  | .doorHeld => 3
  | .reader => 4
  | .strike => 5
  | .line => 6
  | .clock => 7
  | .clockStep => 8
  | .eraChange => 9
  | .evacBegin => 10
  | .evacEnd => 11
  | .doubtBegin => 12
  | .peerLost => 13
  | .journalFull => 14
  | .holdover => 15

/-- An event kind's code (R207). -/
def eventCode : EventKind → Nat
  | .admitted => 1
  | .flagged => 2
  | .refuse => 3
  | .passed => 4
  | .unused => 5
  | .forced => 6
  | .evac => 7
  | .doorHeld => 8
  | .peerPunch => 9

/-- A reason's code (R207). -/
def Reason.code : Reason → Nat
  | .notLive => 1
  | .evac => 2
  | .held => 3
  | .unknown => 4
  | .blocked => 5
  | .expired => 6
  | .offShift => 7
  | .passback => 8
  | .fault => 9

/-- A fault action's code (R207). -/
def actionCode : FaultAction → Nat
  | .actNote => 1
  | .actAlarm => 2
  | .actHold => 3
  | .actOpen => 4

/-- A fault cause's code (R207). -/
def FaultCause.code : FaultCause → Nat
  | .isolated => 1
  | .clash => 2
  | .osc => 3
  | .endOfTime => 4

/-- The code of a CLEAR frame's reason, in the frame (R204) and in an incident's detail (R207): RELAY is 4 in the frame
and 5 in the detail, where FRAME stands before it. -/
def clearReasonDetail : ClearReason → Nat
  | .input => 1
  | .watch => 2
  | .terminal => 3
  | .relay => 5

/-- The detail of EVAC_BEGIN (R162): the reason, or for FRAME the frame's reason. -/
def EvacReason.detail : EvacReason → Nat
  | .input => 1
  | .watch => 2
  | .terminal => 3
  | .frame _ r => clearReasonDetail r

/-- The causes that open doubt (R138). -/
inductive DoubtCause | punchGap | beaconGap | fresh | peerLost | isolated | liveEntry | evacEnd
  deriving DecidableEq, Repr

/-- A doubt cause's code (R207). -/
def DoubtCause.code : DoubtCause → Nat
  | .punchGap => 1
  | .beaconGap => 2
  | .fresh => 3
  | .peerLost => 4
  | .isolated => 5
  | .liveEntry => 6
  | .evacEnd => 7

/-- The flags of a pay slot, in the bit order of R206. -/
inductive PayFlag | late | early | earlyLeave | missingIn | missingOut | passback | evac | clock | stale | future
  deriving DecidableEq, Repr

/-- The bit of a flag (R206). -/
def PayFlag.bit : PayFlag → PayFlags
  | .late => 0x001
  | .early => 0x002
  | .earlyLeave => 0x004
  | .missingIn => 0x008
  | .missingOut => 0x010
  | .passback => 0x020
  | .evac => 0x040
  | .clock => 0x080
  | .stale => 0x100
  | .future => 0x200

/-- A flag set when a condition holds. -/
def PayFlag.when (f : PayFlag) (b : Bool) : PayFlags := if b then f.bit else 0

end Sys2Proof.Machine
end

