-- ==== Sys2Proof/Machine/Formats.lean ====
section
/-! DEFINITION. The formats of R203 to R207: the CRC and the line frames, the reader frame, and the data blocks whose byte
positions the manual gives. -/

namespace Sys2Proof.Machine

/-! ## Little-endian fields (R203) -/

/-- The lowest `k` bytes of a number, least significant first (R203). -/
def leBytes : Nat → Nat → List Byte
  | 0, _ => []
  | k + 1, n => BitVec.ofNat 8 n :: leBytes k (n / 256)

/-- A signed number in `k` bytes, two's complement, least significant first (R203). -/
def leSigned (k : Nat) (x : Int) : List Byte := leBytes k (BitVec.ofInt (8 * k) x).toNat

/-- The number that bytes spell, least significant first (R203). -/
def leNat : List Byte → Nat
  | [] => 0
  | b :: bs => b.toNat + 256 * leNat bs

/-- One byte of a number. -/
def byteOf (n : Nat) : Byte := BitVec.ofNat 8 n

/-- A mark as a number. -/
def bit (b : Bool) : Nat := if b then 1 else 0

/-! ## The CRC (R111, R204) -/

/-- One data bit taken into the CRC register (R204). -/
def crcBit (reg : BitVec 16) (b : Bool) : BitVec 16 :=
  if reg.getLsbD 0 != b then (reg >>> 1) ^^^ 0xA001#16 else reg >>> 1

/-- One byte taken, its least significant bit first (R204). -/
def crcByte (reg : BitVec 16) (x : Byte) : BitVec 16 :=
  [0, 1, 2, 3, 4, 5, 6, 7].foldl (fun r i => crcBit r (x.getLsbD i)) reg

/-- The CRC of the bytes from the kind through the last field (R204). -/
def crc16 (xs : List Byte) : BitVec 16 := xs.foldl crcByte 0xFFFF#16

/-- The two CRC bytes, low byte first (R204). -/
def crcBytes (xs : List Byte) : List Byte := leBytes 2 (crc16 xs).toNat

/-! ## Line frames (R110, R204) -/

/-- The preamble (R204). -/
abbrev preamble : Byte := 0xA5

/-- The direction code of a PUNCH frame (R204). -/
def directionCode : Direction → Nat
  | .dirIn => 1
  | .dirOut => 2

/-- The outcome code of a PUNCH frame (R204). -/
def outcomeCode : PunchOutcome → Nat
  | .passed => 1
  | .evac => 2

/-- The state code of a BEACON frame (R204). -/
def beaconStateCode : BeaconState → Nat
  | .live => 1
  | .held => 2
  | .evacuate => 3

/-- The reason code of a CLEAR frame (R204). -/
def clearReasonCode : ClearReason → Nat
  | .input => 1
  | .watch => 2
  | .terminal => 3
  | .relay => 4

/-- A frame's bytes from the kind through the last field (R204). -/
def frameBody : Frame → List Byte
  | .punch f =>
    [0x31, byteOf f.source.val, f.seq] ++ leBytes 3 f.badge.toNat ++
      [byteOf (f.lane.number + 16 * directionCode f.direction + 64 * outcomeCode f.outcome)] ++
      leBytes 4 f.time.toNat ++ [f.era]
  | .beacon f =>
    [0x32, byteOf f.source.val, byteOf (beaconStateCode f.state + 64 * bit f.fresh + 128 * bit f.isolated), f.era] ++
      leBytes 4 f.time.toNat ++ [f.next]
  | .bellCue f => [0x33, byteOf f.source.val, f.entry] ++ leBytes 2 f.day.toNat
  | .clear f => [0x34, byteOf f.source.val, byteOf (clearReasonCode f.reason)]
  | .allClear p => [0x35, byteOf p.val]

/-- A frame as it is sent: the preamble, the body and the CRC (R110, R204). -/
def frameBytes (f : Frame) : List Byte := preamble :: (frameBody f ++ crcBytes (frameBody f))

/-- The characters of a frame, by its kind (R110); none for a kind that is not known. -/
def frameLength (kind : Byte) : Option Nat :=
  if kind = 0x31 then some 15
  else if kind = 0x32 then some 12
  else if kind = 0x33 then some 8
  else if kind = 0x34 then some 6
  else if kind = 0x35 then some 5
  else none

/-- A source station, which must be 0 to 15 (R113). -/
def sourceOf (b : Byte) : Option Station := if h : b.toNat < 16 then some ⟨b.toNat, h⟩ else none

/-- A direction code (R113, R204). -/
def directionOf : Nat → Option Direction
  | 1 => some .dirIn
  | 2 => some .dirOut
  | _ => none

/-- An outcome code (R113, R204). -/
def outcomeOf : Nat → Option PunchOutcome
  | 1 => some .passed
  | 2 => some .evac
  | _ => none

/-- A beacon state code (R113, R204). -/
def beaconStateOf : Nat → Option BeaconState
  | 1 => some .live
  | 2 => some .held
  | 3 => some .evacuate
  | _ => none

/-- A CLEAR reason code (R113, R204). -/
def clearReasonOf : Nat → Option ClearReason
  | 1 => some .input
  | 2 => some .watch
  | 3 => some .terminal
  | 4 => some .relay
  | _ => none

/-- A badge number: 0 and 16,777,215 are none (00 section 4.3). -/
def isBadge (n : Nat) : Bool := decide (1 ≤ n ∧ n ≤ 16777214)

/-- A frame from its body, with the checks of R113 on its source and its fields. Bits 2 to 5 of the beacon's state byte are
zero and not tested (R203). -/
def bodyFrame : List Byte → Option Frame
  | [0x31, src, seq, b0, b1, b2, lane, t0, t1, t2, t3, era] => do
    let source ← sourceOf src
    let l ← Lane.ofNumber (lane.toNat % 16)
    let direction ← directionOf (lane.toNat / 16 % 4)
    let outcome ← outcomeOf (lane.toNat / 64)
    let badge := leNat [b0, b1, b2]
    if isBadge badge then
      some (.punch { source, seq, badge := BitVec.ofNat 24 badge, lane := l, direction, outcome,
                     time := BitVec.ofNat 32 (leNat [t0, t1, t2, t3]), era })
    else none
  | [0x32, src, st, era, t0, t1, t2, t3, next] => do
    let source ← sourceOf src
    let state ← beaconStateOf (st.toNat % 4)
    some (.beacon { source, state, fresh := st.getLsbD 6, isolated := st.getLsbD 7, era,
                    time := BitVec.ofNat 32 (leNat [t0, t1, t2, t3]), next })
  | [0x33, src, entry, d0, d1] => do
    let source ← sourceOf src
    some (.bellCue { source, entry, day := BitVec.ofNat 16 (leNat [d0, d1]) })
  | [0x34, src, r] => do
    let source ← sourceOf src
    let reason ← clearReasonOf r.toNat
    some (.clear { source, reason })
  | [0x35, src] => do
    let source ← sourceOf src
    some (.allClear source)
  | _ => none

/-- The frame that a run of bytes is, when it is a valid frame (R112, R113): the preamble, a known kind, the length of the
kind, the CRC, and the checks of R113. -/
def readFrame : List Byte → Option Frame
  | p :: kind :: rest =>
    match frameLength kind with
    | none => none
    | some n =>
      if p = preamble ∧ rest.length + 2 = n then
        let body := kind :: rest.take (n - 4)
        if rest.drop (n - 4) = crcBytes body then bodyFrame body else none
      else none
  | _ => none

/-- A run of characters from one quiet gap to the next is a valid frame: every stop bit at mark (R112), and the bytes a
valid frame. -/
def validRun (chars : List LineChar) : Bool :=
  chars.all (·.stop) && (readFrame (chars.map (·.data))).isSome

/-! ## The reader frame (R21, R205) -/

/-- The parity of a byte's data bits: `true` for an odd number of ones. -/
def oddOnes (x : Byte) : Bool := [0, 1, 2, 3, 4, 5, 6, 7].foldl (fun p i => p != x.getLsbD i) false

/-- The badge number that a run of reader characters carries, when every check of R21 passes: the parity of each
character, the format, the check byte and the badge number (R205). -/
def readReader (chars : List ReaderChar) : Option Nat :=
  if chars.all (fun c => decide (oddOnes c.data = c.parity)) && chars.all (·.stop) then
    match chars.map (·.data) with
    | [start, b0, b1, b2, check, stop] =>
      if start = 0x02 ∧ stop = 0x03 ∧ b0 + b1 + b2 + check = 0 ∧ isBadge (leNat [b0, b1, b2]) = true then
        some (leNat [b0, b1, b2])
      else none
    | _ => none
  else none

/-! ## Data blocks (R206, R207)

`u` gives the bytes that no field occupies, and the bytes of a field that is absent where the manual does not call them
zero: they are free values (assumption 4). -/

/-- A badge status's code (R206). -/
def statusCode : BadgeStatus → Nat
  | .active => 1
  | .blocked => 2

/-- A passback mode's code (R206). -/
def modeCode : PassbackMode → Nat
  | .strict => 1
  | .soft => 2
  | .modeNone => 3

/-- A presence state's code (R206). -/
def presenceCode : PresenceState → Nat
  | .unknown => 0
  | .isIn => 1
  | .isOut => 2

/-- The bytes of an optional field of the blocks of R207: open where it is absent (assumption 4). -/
def optionalBytes (u : Nat → Byte) (at_ k : Nat) : Option Nat → List Byte
  | some n => leBytes k n
  | none => (List.range k).map fun i => u (at_ + i)

/-- The badge entry block as BADGE READ returns it (R206): the fields of an absent part are zero, the expiry pay day among
them, and the two bytes that no field occupies are open (assumption 4). -/
def badgeBlock (u : Nat → Byte) (e : BadgeEntry) : List Byte :=
  leBytes 3 e.number ++ [0, byteOf e.cls.val, byteOf (statusCode e.status), byteOf (modeCode e.mode), byteOf e.home.val] ++
    leBytes 2 (e.expiry.getD 0) ++
    [byteOf (bit e.expiry.isSome), byteOf (bit e.paySlot.isSome), byteOf (presenceCode e.presence.state),
     (match e.presence.source with | some p => byteOf p.val | none => 0xFF), u 14, u 15] ++
    leBytes 4 e.presence.time

/-- The badge entry block as the terminal writes it for BADGE PUT (R206): bytes 0 to 10. -/
def badgeBlockBytes (b : BadgeBlock) : List Byte :=
  leBytes 3 b.number.toNat ++ [0, b.cls, b.status, b.mode, b.home] ++ leBytes 2 b.expiry.toNat ++ [b.expiryPresent]

/-- The slot block (R206). -/
def slotBlock (u : Nat → Byte) (d : DaySlot) : List Byte :=
  leBytes 2 d.day ++ leBytes 2 d.regular ++ leBytes 2 d.ot1 ++ leBytes 2 d.ot2 ++ leBytes 2 d.night ++
    leBytes 2 d.clamped ++
    [byteOf d.intervals, byteOf (bit d.breakMark + 2 * bit d.lastOut.isSome),
     (match d.lastOut with | some (_, c) => byteOf c.val | none => 0), u 15] ++
    (match d.lastOut with | some (o, _) => leSigned 2 o | none => [0, 0]) ++ leBytes 2 d.flags.toNat

/-- Bytes 20 to 35 of the CURRENT part: the open IN and the orphan OUT, zero where they are absent (R206). -/
def openBlock (r : PayRecord) : List Byte :=
  [byteOf (bit r.openIn.isSome + 2 * (match r.openIn with | some i => bit i.flagged | none => 0) +
      4 * bit r.orphan.isSome)] ++
    (match r.openIn with
     | some i => [byteOf i.cls.val, byteOf i.source.val, i.era] ++ leBytes 4 i.time ++ leBytes 2 i.day
     | none => List.replicate 9 0) ++
    (match r.orphan with
     | some o => [o.era, byteOf o.source.val] ++ leBytes 4 o.time
     | none => List.replicate 6 0)

/-- The period block (R206). -/
def periodBlock (p : Period) : List Byte :=
  leBytes 2 p.regular ++ leBytes 2 p.ot1 ++ leBytes 2 p.ot2 ++ leBytes 2 p.night ++
    [byteOf p.days, byteOf (bit p.saturated)] ++ leBytes 2 p.flags.toNat

/-- The incident block (R207): `left` is the incidents left, `lost` the lost count. -/
def incidentBlock (u : Nat → Byte) (i : Incident) (left lost : Nat) : List Byte :=
  [byteOf i.kind.code,
   byteOf (bit i.lane.isSome + 2 * bit i.badge.isSome + 4 * bit i.rule.isSome + 8 * bit i.peer.isSome +
     16 * bit i.detail.isSome)] ++
    optionalBytes u 2 1 (i.lane.map Lane.number) ++ optionalBytes u 3 1 (i.rule.map RuleNo.number) ++
    optionalBytes u 4 1 (i.peer.map (·.val)) ++ [byteOf left, byteOf lost, u 7] ++ leBytes 4 i.time ++
    optionalBytes u 12 3 i.badge ++ [u 15] ++
    (match i.detail with | some d => leSigned 4 d | none => optionalBytes u 16 4 none)

/-- The trace block (R207). -/
def traceBlock (u : Nat → Byte) (x : TraceEntry) (next : BitVec 16) : List Byte :=
  leBytes 2 x.number.toNat ++
    [byteOf x.lane.number, byteOf (eventCode x.outcome),
     (match x.reason with | some r => byteOf r.code | none => 0),
     byteOf (bit x.badge.isSome + 2 * bit x.unused), u 6, u 7] ++
    leBytes 4 x.time ++ optionalBytes u 12 3 x.badge ++ [u 15] ++ leBytes 2 next.toNat

end Sys2Proof.Machine
end

