-- ==== Sys2Proof/Machine/Calendar.lean ====
section
/-! DEFINITION. The quantities derived from plant time: plant day, weekday, minute of day, pay day and pay-day minutes
(00 sections 4.1 and 4.2, R75), and the ring instants of the bell schedule (R96). Nothing here is stored: each is computed
afresh from the plant time given. -/

namespace Sys2Proof.Machine

/-- The plant day of a plant time (00 section 4.1). -/
def plantDay (t : Nat) : Nat := t / ticksPerDay

/-- The weekday of a plant day, 0 for Monday (00 section 4.1). -/
def weekdayOf (epochWeekday day : Nat) : Nat := (day + epochWeekday) % 7

/-- The minute of day of a plant time (00 section 4.1). -/
def minuteOfDay (t : Nat) : Nat := (t % ticksPerDay) / ticksPerMinute

/-- The pay day of a plant time, for the day roll minute `roll` (00 section 4.2). -/
def payDay (roll t : Nat) : Nat := if roll ≤ minuteOfDay t then plantDay t else plantDay t - 1

/-- The plant time at which a pay day begins, in ticks: its roll instant (R69). -/
def rollInstant (roll day : Nat) : Nat := day * ticksPerDay + roll * ticksPerMinute

/-- The pay-day minutes of a plant time measured against a pay day, exact, in ticks (00 section 4.2). -/
def payTicks (roll day t : Nat) : Int := (t : Int) - (rollInstant roll day : Int)

/-- A start S as S′ in pay-day minutes (00 section 4.2, R48). -/
def shiftStart (roll start : Nat) : Int := ((start : Int) - (roll : Int)) % 1440

/-- An end E as E′ in pay-day minutes, for the start S (00 section 4.2, R48). -/
def shiftEnd (roll start stop : Nat) : Int :=
  let e := ((stop : Int) - (roll : Int)) % 1440
  if e ≤ shiftStart roll start then e + 1440 else e

/-- The bell time of a plant time (R96). -/
def bellTime (advance t : Nat) : Nat := t + advance

/-- The bell day of a plant time (R96). -/
def bellDay (advance t : Nat) : Nat := bellTime advance t / ticksPerDay

/-- The ring offset of an entry, in ticks from midnight (R96). -/
def ringOffset (e : BellEntry) : Nat := (e.minute * 60 + e.second) * ticksPerSecond

/-- The ring instant of an entry for a bell day, as a bell time (R96). Comparing bell times instead of plant times keeps
instants that would fall below plant time 0 out of every range of plant times. -/
def ringBellTime (e : BellEntry) (day : Nat) : Nat := day * ticksPerDay + ringOffset e

/-- An entry is due for a bell day (R96). -/
def BellEntry.due (epochWeekday : Nat) (e : BellEntry) (day : Nat) : Bool :=
  e.mask.getLsbD (weekdayOf epochWeekday day) &&
    match e.mark with
    | none => true
    | some m => decide (m < day)

/-- The bell day whose ring instant lies after plant time `t0` and not after `t1`, where the two are less than a day
apart (R97). -/
def instantBetween (advance : Nat) (e : BellEntry) (t0 t1 : Nat) : Option Nat :=
  if ringOffset e ≤ bellTime advance t1 then
    let day := (bellTime advance t1 - ringOffset e) / ticksPerDay
    if bellTime advance t0 < ringBellTime e day then some day else none
  else none

end Sys2Proof.Machine
end

