-- ==== Sys2Proof/Machine/Ops.lean ====
section
/-! DEFINITION. The operations every block shares: the settings, the tables kept by number, the incident queue, the events
handed to the watch unit, doubt, and the attention word. -/

namespace Sys2Proof.Machine

/-! ## Settings

A set word that is absent is not acted on: it is absent only in SETUP (R175, R177). The accessors give the type's default
there, so that they are total. -/

/-- The settings of SW0. -/
def State.sw0 (s : State) : SW0 := s.control.sw0.getD default
/-- The settings of one lane in SW1. -/
def State.sw1 (s : State) (l : Lane) : LaneSetting := (s.control.sw1.getD default).get l
/-- The settings of SW2. -/
def State.sw2 (s : State) : SW2 := s.control.sw2.getD default
/-- The settings of SW3. -/
def State.sw3 (s : State) : Word3 := s.control.sw3.getD default
/-- The settings of SW4. -/
def State.sw4 (s : State) : SW4 := s.control.sw4.getD default
/-- The settings of SW5. -/
def State.sw5 (s : State) : SW5 := s.control.sw5.getD default

/-- The own station number (R174). -/
def State.ownStation (s : State) : Station := s.sw0.station

/-- The day roll minute R (R174). -/
def State.dayRollMinute (s : State) : Nat := s.sw4.dayRoll

/-- Seconds as sixteenths of real time. -/
def sixteenths (seconds : Nat) : Nat := seconds * ticksPerSecond

/-- A lane's release time in sixteenths (02 section 2.1). -/
def State.releaseTime (s : State) (l : Lane) : Nat := sixteenths (s.sw2.limits.get l).release

/-- A lane's held-open limit in sixteenths (02 section 2.1). -/
def State.heldOpenLimit (s : State) (l : Lane) : Nat := sixteenths (s.sw2.limits.get l).heldOpen

/-- JOIN, LIVE, HELD and EVACUATE: the states in which lanes, receiver and most commands are served (R109, R197). -/
def StationState.serving : StationState → Bool
  | .join | .live | .held | .evacuate => true
  | .setup | .holdover => false

/-- LIVE, HELD and EVACUATE: the states in which the station sends (R109). -/
def StationState.sending : StationState → Bool
  | .live | .held | .evacuate => true
  | .setup | .join | .holdover => false

/-! ## Tables kept by number -/

/-- The item of a table with one number changed; a number beyond the table changes nothing. -/
def modAt {α : Type} (f : α → α) : Nat → List α → List α
  | _, [] => []
  | 0, x :: xs => f x :: xs
  | n + 1, x :: xs => x :: modAt f n xs

/-- The entry of a peer (R129). -/
def State.peer (s : State) (p : Station) : PeerEntry := s.peers.entries.getD p.val .reset

/-- The entry of a peer changed. -/
def State.modPeer (s : State) (p : Station) (f : PeerEntry → PeerEntry) : State :=
  s.modPeers fun t => { t with entries := modAt f p.val t.entries }

/-- A schedule entry (R93). -/
def State.bellEntry (s : State) (e : Fin 48) : BellEntry := s.bell.entries.getD e.val .reset

/-- A schedule entry changed. -/
def State.modBellEntry (s : State) (e : Fin 48) (f : BellEntry → BellEntry) : State :=
  s.modBell fun b => { b with entries := modAt f e.val b.entries }

/-- A pattern (R95). -/
def State.pattern (s : State) (p : Fin 8) : Pattern := s.bell.patterns.getD p.val .reset

/-- A shift class (R48). -/
def PayUnit.shiftClass (p : PayUnit) (c : Fin 8) : ShiftClass := p.classes.getD c.val .plain

/-- A watch rule changed. -/
def State.modRule (s : State) (r : RuleNo) (f : Rule → Rule) : State :=
  s.modWatch fun w => { w with rules := w.rules.set r (f (w.rules.get r)) }

/-! ## The incident queue (R155) -/

/-- The capacity of the incident queue (R155). -/
abbrev incidentCapacity : Nat := 16

/-- An incident recorded: it joins the tail, or is dropped and counted lost when the queue is full (R155). -/
def State.recordIncident (s : State) (kind : IncidentKind) (lane : Option Lane := none) (badge : Option Nat := none)
    (rule : Option RuleNo := none) (peer : Option Station := none) (detail : Option Int := none) : State :=
  s.modWatch fun w =>
    if w.incidents.length < incidentCapacity then
      { w with incidents := w.incidents ++
          [{ kind, time := s.clock.time, lane, badge, rule, peer, detail }] }
    else { w with lost := satAdd max8 w.lost 1 }

/-- A step in ticks as a detail: beyond the range of a detail it is the nearer end (R207). -/
def stepDetail (n : Int) : Int := max (-2147483648) (min 2147483647 n)

/-! ## Events handed to the watch unit (R46, R141) -/

/-- An event handed to the watch unit; it is taken when the events before it have been (R141). -/
def State.hand (s : State) (e : LaneEvent) : State := s.modWatch fun w => { w with handed := w.handed ++ [e] }

/-- An own-lane event at the present plant time (R46). -/
def State.laneEvent (s : State) (kind : EventKind) (l : Lane) (badge : Option Nat := none)
    (reason : Option Reason := none) (readTime : Option Nat := none) : LaneEvent :=
  { kind, time := s.clock.time, lane := .own l, badge, reason, readTime, source := none, direction := none,
    outcome := none }

/-! ## Doubt (R137, R138) -/

/-- Doubt is active while the deadline lies ahead of plant time or the isolated mark is set (R137). -/
def State.doubtActive (s : State) : Bool := decide (s.clock.time < s.peers.deadline) || s.peers.isolated

/-- The deadline an opening gives: the later of the present one and plant time plus the doubt hold (R138). -/
def State.doubtUntil (s : State) : Nat :=
  max s.peers.deadline (min endOfRange (s.clock.time + s.sw3.doubtHold * ticksPerMinute))

/-- Doubt opened with a cause (R138). -/
def State.openDoubt (s : State) (cause : DoubtCause) (peer : Option Station) : State :=
  let opened := s.modPeers fun t => { t with deadline := s.doubtUntil }
  if s.doubtActive then opened
  else opened.recordIncident .doubtBegin (peer := peer) (detail := some cause.code)

/-! ## Outgoing frames that other blocks place (R100, R116, R117, R118) -/

/-- The kind of a frame of the evac slot (R110). -/
def EvacFrame.kind : EvacFrame → FrameKind
  | .clear _ => .clear
  | .allClear => .allClear

/-- A CLEAR or an ALL CLEAR placed in the evac slot, replacing what it held (R117). -/
def State.placeEvac (s : State) (f : EvacFrame) : State :=
  s.modLine fun p => { p with evac := some { tag := p.nextTag, frame := f }, nextTag := p.nextTag + 1 }

/-- An unsent frame removed from the evac slot when `gone` holds of it; a frame being sent runs on (R117, R162, R166). -/
def State.removeEvac (s : State) (gone : EvacFrame → Bool) : State :=
  s.modLine fun p =>
    match p.evac with
    | none => p
    | some e =>
      let beingSent := match p.sending with
        | some x => decide (x.hand = { kind := e.frame.kind, tag := e.tag })
        | none => false
      if gone e.frame && !beingSent then { p with evac := none } else p

/-- The capacity of the bell-cue list (R100). -/
abbrev cueCapacity : Nat := 4

/-- A bell cue placed at the tail of the list; a full list loses its oldest (R100). -/
def State.placeCue (s : State) (e : Fin 48) (day : Nat) : State :=
  s.modLine fun p =>
    let kept := if p.cues.length < cueCapacity then p.cues else p.cues.drop 1
    { p with cues := kept ++ [{ tag := p.nextTag, entry := e, day }], nextTag := p.nextTag + 1 }

/-- A beacon wanted, replacing the one held (R118). -/
def State.placeBeacon (s : State) : State :=
  s.modLine fun p => { p with beacon := some p.nextTag, nextTag := p.nextTag + 1 }

/-! ## Holds: the reasons (R151, R152) -/

/-- A lane is held while its reason set is not empty, or while the station is in HELD (R23, R151). -/
def State.laneHeld (s : State) (l : Lane) : Bool :=
  !(s.control.laneReasons.get l).isEmpty || decide (s.station = .held)

/-- Some station or lane reason is set (R151, R152). -/
def State.anyHold (s : State) : Bool :=
  !s.control.stationReasons.isEmpty || Lane.all.any fun l => !(s.control.laneReasons.get l).isEmpty

/-! ## The attention word (R199) -/

/-- The level of the journal is at the threshold of SW5 or above (R128); before SW5 is written there is no threshold. -/
def State.journalHigh (s : State) : Bool :=
  match s.control.sw5 with
  | none => false
  | some w => decide (w.journalThreshold ≤ s.journal.entries.length)

/-- Some fault record is ACTIVE (R194). -/
def State.anyFault (s : State) : Bool :=
  decide (s.faults.line.state = .active) || decide (s.faults.clock.state = .active) ||
    Lane.all.any fun l =>
      let r := s.faults.lanes.get l
      decide (r.reader.state = .active) || decide (r.strike.state = .active) || decide (r.doorHeld.state = .active)

/-- The attention word in the bits of R203: INCIDENT, JOURNAL_HIGH, DOUBT, EVAC, HOLD, FAULT, PAY_FLAG. -/
def State.attention (s : State) : Byte :=
  (if !s.watch.incidents.isEmpty then 0x01 else 0) ||| (if s.journalHigh then 0x02 else 0) |||
    (if s.doubtActive then 0x04 else 0) ||| (if s.station = .evacuate then 0x08 else 0) |||
    (if s.anyHold then 0x10 else 0) ||| (if s.anyFault then 0x20 else 0) ||| (if s.port.payFlag then 0x40 else 0)

/-- The attention line is raised while any mark is set, and low while the part is in reset (R199, R172). -/
def State.attentionLine (s : State) : Bool := decide (s.attention ≠ 0) && !s.inReset

/-- The bell output (R103): on while a claim sounds in an on phase. -/
def State.bellOutput (s : State) : Bool :=
  match s.bell.arbiter with
  | some x => x.on
  | none => false

end Sys2Proof.Machine
end

