-- ==== Sys2Proof/Machine/PortOps.lean ====
section
/-! DEFINITION. The terminal port: the mailbox as the terminal writes and reads it (R196, R198, R203), the command that a
mailbox with GO set holds (R197), the order in which a command is judged (R197), and its answer. -/

namespace Sys2Proof.Machine

/-! ## The mailbox as bytes (R196, R203) -/

/-- The bytes in a data block (R196). -/
abbrev blockSize : Nat := 64

/-- A block of returned fields, with zeros after them to the end of the data block (R197). -/
def fillBlock (bytes : List Byte) : List Byte := (bytes ++ List.replicate blockSize 0).take blockSize

/-- Bytes written from the start of a data block over what it held. -/
def overlayBlock (old bytes : List Byte) : List Byte := (bytes ++ old.drop bytes.length).take blockSize

/-- A mailbox byte stored at its address (R203); an address outside the mailbox stores nothing. The address of GO is not
stored here: it sets the mark. -/
def TerminalPort.store (p : TerminalPort) (addr : Nat) (b : Byte) : TerminalPort :=
  if addr = 0x00 then { p with command := b }
  else if addr = 0x02 then { p with paramA := p.paramA.extractLsb 15 8 ++ b }
  else if addr = 0x03 then { p with paramA := b ++ p.paramA.extractLsb 7 0 }
  else if addr = 0x04 then { p with paramB := p.paramB.extractLsb 15 8 ++ b }
  else if addr = 0x05 then { p with paramB := b ++ p.paramB.extractLsb 7 0 }
  else if 0x10 ≤ addr ∧ addr < 0x10 + blockSize then { p with data := modAt (fun _ => b) (addr - 0x10) p.data }
  else p

/-- The byte a read of a port address gives (R196, R203): 0 outside the mailbox, and 0 everywhere while the part is in
reset. A read changes nothing, so it is no command of the table. DESIGN CHOICE (assumption 46): at the GO address bit 0 reads
the mark, and bits 1 to 7, of which R203 says nothing, read 0. -/
def State.readPort (s : State) (addr : Nat) : Byte :=
  let p := s.port
  if s.inReset then 0
  else if addr = 0x00 then p.command
  else if addr = 0x01 then byteOf (bit p.go)
  else if addr = 0x02 then p.paramA.extractLsb 7 0
  else if addr = 0x03 then p.paramA.extractLsb 15 8
  else if addr = 0x04 then p.paramB.extractLsb 7 0
  else if addr = 0x05 then p.paramB.extractLsb 15 8
  else if 0x10 ≤ addr ∧ addr < 0x10 + blockSize then p.data.getD (addr - 0x10) 0
  else 0

/-! ## The command in the mailbox (R197, R203, R206) -/

/-- The badge number in bytes 0 to 2 of a data block (R206). -/
def blockBadge (d : List Byte) : BitVec 24 := BitVec.ofNat 24 (leNat (d.take 3))

/-- The badge entry block in bytes 0 to 10 of a data block (R206). -/
def blockEntry (d : List Byte) : BadgeBlock :=
  { number := blockBadge d, cls := d.getD 4 0, status := d.getD 5 0, mode := d.getD 6 0, home := d.getD 7 0,
    expiry := BitVec.ofNat 16 (leNat ((d.drop 8).take 2)), expiryPresent := d.getD 10 0 }

/-- The set word that parameter A and a data block spell (R173). -/
def blockWord (a : BitVec 16) (d : List Byte) : SetWordBlock :=
  if a = 0 then .sw0 (Config.readWord0 d)
  else if a = 1 then .sw1 (Config.readWord1 d)
  else if a = 2 then .sw2 (Config.readWord2 d)
  else if a = 3 then .sw3 (Config.readWord3 d)
  else if a = 4 then .sw4 (Config.readWord4 d)
  else if a = 5 then .sw5 (Config.readWord5 d)
  else .undefined a

/-- The command that the mailbox holds, by the command codes of R203. -/
def TerminalPort.held (p : TerminalPort) : Instr :=
  let a := p.paramA
  let d := p.data
  if p.command = 0x10 then .setWord (blockWord a d)
  else if p.command = 0x11 then .loadClass a (Config.readClass d)
  else if p.command = 0x12 then .loadBell a (Config.readBell d)
  else if p.command = 0x13 then .loadPattern a (Config.readPattern d)
  else if p.command = 0x14 then .loadRule a (Config.readRule d)
  else if p.command = 0x15 then .setTime (Config.readTime d) (Config.readEra d)
  else if p.command = 0x16 then .ready
  else if p.command = 0x20 then .badgePut (blockEntry d)
  else if p.command = 0x21 then .badgeDrop p.paramB (blockBadge d)
  else if p.command = 0x22 then .badgeRead a (blockBadge d)
  else if p.command = 0x23 then .musterRead a
  else if p.command = 0x30 then .payRead a (blockBadge d)
  else if p.command = 0x31 then .periodClose
  else if p.command = 0x40 then .traceMark
  else if p.command = 0x41 then .traceRead
  else if p.command = 0x42 then .incidentTake
  else if p.command = 0x50 then .statusRead a p.paramB
  else if p.command = 0x51 then .peerRead a
  else if p.command = 0x60 then .hold a
  else if p.command = 0x61 then .resume
  else if p.command = 0x62 then .arm a
  else if p.command = 0x63 then .disarm a
  else if p.command = 0x64 then .passbackMode a
  else if p.command = 0x65 then .evacuate
  else if p.command = 0x66 then .allClear
  else if p.command = 0x67 then .shiftTime a
  else if p.command = 0x70 then .attentionRead
  else .unknownCommand p.command

/-! ## What a command brings to the mailbox -/

/-- A command as the terminal puts it in the mailbox: its code, and the parameters and block bytes it carries. -/
structure Request where
  code : Byte
  a : Option (BitVec 16) := none
  b : Option (BitVec 16) := none
  data : List Byte := []

/-- The mailbox with a request written and GO set (R196). With GO set already the command is the one in flight, and the
mailbox keeps its values until it completes (R198). -/
def State.load (s : State) (r : Request) : State :=
  if s.port.go then s
  else s.modPort fun p =>
    { p with
      command := r.code
      paramA := r.a.getD p.paramA
      paramB := r.b.getD p.paramB
      data := overlayBlock p.data r.data
      go := true }

/-! ## Answers (R197, R198, R203) -/

/-- The result byte: the result code, and the OVERRUN mark in bit 7 (R203). -/
def resultByte (c : ResultCode) (overrun : Bool) : Byte := byteOf (c.code + 128 * bit overrun)

/-- A command completed with a result that leaves the data block as the terminal wrote it: the result byte is written,
OVERRUN and GO are cleared (R197, R198). -/
def State.answer (s : State) (c : ResultCode) : State :=
  s.modPort fun p =>
    { p with command := resultByte c p.overrun, overrun := false, go := false, reply := .nothing }

/-- A command completed with returned data (R197): the bytes from the start of the block, and zeros after them. -/
def State.answerData (s : State) (c : ResultCode) (bytes : List Byte) : State :=
  (s.answer c).modPort fun p => { p with data := fillBlock bytes, unstated := p.unstated + 1 }

/-- The bytes of the next returned block that the manual does not state: free values (assumption 4). -/
def State.freeBytes (s : State) : Nat → Byte := Config.unstatedByte s.port.unstated

/-- A command completed with fields whose byte positions the manual does not give (00 section 3): the fields stand in
`reply`, and the data block is a free value (assumption 4). -/
def State.answerReply (s : State) (c : ResultCode) (r : Reply) : State :=
  (s.answerData c (Config.replyBlock s.port.unstated r)).modPort fun p => { p with reply := r }

/-! ## Judging (R197) -/

/-- The states a command is taken in (12 section 12.2). -/
inductive TakenIn | anyState | setup | served | sending | notJoin
  deriving DecidableEq, Repr

/-- A command is taken in a state (12 section 12.2). -/
def TakenIn.takes : TakenIn → StationState → Bool
  | .anyState, _ => true
  | .setup, x => decide (x = .setup)
  | .served, x => x.serving
  | .sending, x => x.sending
  | .notJoin, x => decide (x = .setup) || x.sending

/-- The port takes a command: GO is clear, or the command is the one in flight, which the mailbox holds (R197, R198). -/
def State.heeds (s : State) (c : Instr) : Bool := !s.port.go || decide (s.port.held = c)

/-- The writes of another command while GO is set: each is discarded, and OVERRUN is set (R198). -/
def State.discard (s : State) : State := s.modPort fun p => { p with overrun := true }

/-- A terminal command taken (R197): while another is in flight its writes are discarded (R198); otherwise it is put in the
mailbox, a command that R176 locks is LOCKED after READY, a command not taken in the present state is NOT_IN_STATE, and any
other is judged by its own rule `act`. While the part is held in reset the port answers nothing (R196). -/
def State.command (s : State) (c : Instr) (r : Request) (locks : Bool) (t : TakenIn) (act : State → State) : State :=
  if s.inReset then s
  else if s.heeds c = false then s.discard
  else if locks = true ∧ s.station ≠ .setup then (s.load r).answer .locked
  else if t.takes s.station then act (s.load r)
  else (s.load r).answer .notInState

/-- An event outside the terminal port, which reaches no block while the part is held in reset (R172). -/
def State.event (s : State) (act : State → State) : State := if s.inReset then s else act s

end Sys2Proof.Machine
end

