-- ==== Sys2Proof/Machine/PayOps.lean ====
section
/-! DEFINITION. The pay unit: pay records (R50 to R53), the pairing of INs and OUTs (R55 to R59), the ten stages of the
credit computation (R60 to R68) and the day roll (R69 to R71). Pay-day minutes of passages are kept exact in ticks; every
later figure is a whole number of minutes. -/

namespace Sys2Proof.Machine

/-! ## Records and slots -/

/-- An empty slot of a pay day (R52). -/
def DaySlot.empty (day : Nat) : DaySlot :=
  { day, regular := 0, ot1 := 0, ot2 := 0, night := 0, clamped := 0, intervals := 0, breakMark := false,
    lastOut := none, flags := 0 }

/-- A period that is zero, with no flags and SATURATED clear (R50, R73). -/
def Period.zero : Period :=
  { regular := 0, ot1 := 0, ot2 := 0, night := 0, days := 0, flags := 0, saturated := false }

/-- A newly allocated record (R50), for the current pay day number `today`. -/
def PayRecord.fresh (today : Nat) : PayRecord :=
  { openIn := none, orphan := none, current := .empty today, previous := .empty (today - 1), period := .zero,
    last := .zero }

/-- The number of pay records (R50). -/
abbrev payCapacity : Nat := 1024

/-- The record of a slot number. -/
def PayUnit.record (p : PayUnit) (slot : Nat) : Option PayRecord := p.records.lookup slot

/-- The lowest number not in an ascending list of records, from `n` on (R50). -/
def lowestFree (n : Nat) : List (Nat × PayRecord) → Nat
  | [] => n
  | (k, _) :: rest => if k = n then lowestFree (n + 1) rest else n

/-- The free record with the lowest number, when one is free (R50). -/
def PayUnit.freeSlot (p : PayUnit) : Option Nat :=
  if p.records.length < payCapacity then some (lowestFree 0 p.records) else none

/-- A record put in its place by slot number. -/
def insertRecord (slot : Nat) (r : PayRecord) : List (Nat × PayRecord) → List (Nat × PayRecord)
  | [] => [(slot, r)]
  | (k, x) :: rest => if slot < k then (slot, r) :: (k, x) :: rest else (k, x) :: insertRecord slot r rest

/-- A free record allocated: it becomes a fresh record (R50). -/
def PayUnit.allocate (p : PayUnit) (slot : Nat) : PayUnit :=
  { p with records := insertRecord slot (.fresh p.today) p.records }

/-- A record freed with all its contents (R50). -/
def PayUnit.free (p : PayUnit) (slot : Nat) : PayUnit :=
  { p with records := p.records.filter fun x => decide (x.1 ≠ slot) }

/-- A linked record changed. -/
def PayUnit.modRecord (p : PayUnit) (slot : Nat) (f : PayRecord → PayRecord) : PayUnit :=
  { p with records := p.records.map fun x => if x.1 = slot then (x.1, f x.2) else x }

/-- The slot of a pay day changed: the current slot for the current pay day, the previous slot for any other (R52, R58). -/
def PayRecord.modSlot (r : PayRecord) (today day : Nat) (f : DaySlot → DaySlot) : PayRecord :=
  if day = today then { r with current := f r.current } else { r with previous := f r.previous }

/-- The slot of a pay day (R52). -/
def PayRecord.slot (r : PayRecord) (today day : Nat) : DaySlot := if day = today then r.current else r.previous

/-- Flags set in a slot (R52). -/
def DaySlot.flag (d : DaySlot) (f : PayFlags) : DaySlot := { d with flags := d.flags ||| f }

/-! ## The credit computation (R60 to R68) -/

/-- Ticks in a quantum-grid step of `q` minutes. -/
def gridTicks (q : Nat) : Int := ((q * ticksPerMinute : Nat) : Int)

/-- `S′ + k(x)`: the first boundary of the quantum grid at or after `x`, with `x` in ticks and the rest in minutes (R61). -/
def roundUp (start : Int) (q : Nat) (x : Int) : Int :=
  start + (q : Int) * (-((start * (ticksPerMinute : Int) - x) / gridTicks q))

/-- The last boundary of the quantum grid at or before `x` (R62). -/
def roundDown (start : Int) (q : Nat) (x : Int) : Int :=
  start + (q : Int) * ((x - start * (ticksPerMinute : Int)) / gridTicks q)

/-- S′ of a class; 0 for an open class (R48). -/
def ShiftClass.start (c : ShiftClass) (roll : Nat) : Int :=
  match c.hours with
  | none => 0
  | some (s, _) => shiftStart roll s

/-- E′ of a class, which an open class has not (R48). -/
def ShiftClass.stop (c : ShiftClass) (roll : Nat) : Option Int := c.hours.map fun (s, e) => shiftEnd roll s e

/-- Minutes as ticks. -/
def minuteTicks (m : Int) : Int := m * (ticksPerMinute : Int)

/-- The effective in with its flag (R61): `m` is the IN's pay-day minutes in ticks, `first` whether the slot's interval
count is 0. -/
def effectiveIn (c : ShiftClass) (roll : Nat) (first : Bool) (m : Int) : Int × PayFlags :=
  let s := c.start roll
  let grid := roundUp s c.quantum m
  match c.hours with
  | none => (grid, 0)
  | some _ =>
    if first then
      if minuteTicks (s + c.graceLate) < m then (grid, PayFlag.late.bit)
      else if m < minuteTicks (s - c.graceIn) then (grid, PayFlag.early.bit)
      else (s, 0)
    else (grid, 0)

/-- The effective out (R62): `m` is the OUT's pay-day minutes in ticks. -/
def effectiveOut (c : ShiftClass) (roll : Nat) (m : Int) : Int :=
  let grid := roundDown (c.start roll) c.quantum m
  match c.stop roll with
  | none => grid
  | some e => if minuteTicks e ≤ m ∧ m ≤ minuteTicks (e + c.graceOut) then e else grid

/-- The length of the overlap of two spans (R67). -/
def overlap (a b c d : Int) : Int := max 0 (min b d - max a c)

/-- The night minutes of a span before they are held to the credited minutes: its overlap with the band in three copies
(R67). -/
def nightOverlap (c : ShiftClass) (roll : Nat) (eIn eOut : Int) : Int :=
  match c.night with
  | none => 0
  | some (a, b) =>
    let n1 := shiftStart roll a
    let n2 := shiftEnd roll a b
    overlap eIn eOut n1 n2 + overlap eIn eOut (n1 - 1440) (n2 - 1440) + overlap eIn eOut (n1 + 1440) (n2 + 1440)

/-- Minutes added to a figure of a slot (R68). -/
def addMinutes (a : Nat) (b : Int) : Nat := satAdd max16 a b.toNat

/-- The automatic break (R63, fifth stage): the duration after it, and whether it was taken. -/
def automaticBreak (c : ShiftClass) (marked : Bool) (dayTotal d : Int) : Int × Bool :=
  if 0 < c.breakAfter ∧ marked = false ∧ (c.breakAfter : Int) ≤ dayTotal + d then (max 0 (d - c.breakMinutes), true)
  else (d, false)

/-- The credited minutes under the day maximum (R64, sixth stage). -/
def dayMaximum (c : ShiftClass) (dayTotal d : Int) : Int := max 0 (min d (c.dayMax - dayTotal))

/-- The daily tiers r, o1 and o2 of the credited minutes (R65, seventh stage). -/
def dailyTiers (c : ShiftClass) (dayTotal credited : Int) : Int × Int × Int :=
  let r := max 0 (min credited (min (dayTotal + credited) c.t1 - dayTotal))
  let o1 := max 0 (min (dayTotal + credited) c.t2 - max dayTotal c.t1)
  (r, o1, credited - r - o1)

/-- The minutes the weekly threshold moves from regular to OT1 (R66, eighth stage). -/
def weeklyMove (c : ShiftClass) (weekRegular r : Int) : Int :=
  if 0 < c.weekly ∧ (c.weekly : Int) < weekRegular + r then min r (weekRegular + r - c.weekly) else 0

/-- An interval credited to its slot, in ten stages (R60 to R68). `mIn` and `mOut` are pay-day minutes in ticks against
the slot's pay day, `week` is the weekly regular read before the interval, `extra` the CLOCK flag and the arrival flags. -/
def DaySlot.credit (d : DaySlot) (c : ShiftClass) (cls : Fin 8) (roll : Nat) (week : Nat) (mIn mOut : Int)
    (extra : PayFlags) : DaySlot :=
  let total : Int := ((d.regular + d.ot1 + d.ot2 : Nat) : Int)
  let eIn := effectiveIn c roll (decide (d.intervals = 0)) mIn
  let eOut := effectiveOut c roll mOut
  let gap := match d.lastOut with
    | none => false
    | some (o, _) => decide ((c.breakMinutes : Int) ≤ eIn.1 - o)
  let marked := d.breakMark || gap
  let duration := max 0 (eOut - eIn.1)
  let rest := automaticBreak c marked total duration
  let credited := dayMaximum c total rest.1
  let tiers := dailyTiers c total credited
  let moved := weeklyMove c week tiers.1
  { day := d.day
    regular := addMinutes d.regular (tiers.1 - moved)
    ot1 := addMinutes d.ot1 (tiers.2.1 + moved)
    ot2 := addMinutes d.ot2 tiers.2.2
    night := addMinutes d.night (min credited (nightOverlap c roll eIn.1 eOut))
    clamped := addMinutes d.clamped (rest.1 - credited)
    intervals := satAdd max8 d.intervals 1
    breakMark := marked || rest.2
    lastOut := some (eOut, cls)
    flags := d.flags ||| eIn.2 ||| extra }

/-! ## Pairing (R56 to R59) -/

/-- A punch as the pay unit takes it (R55). -/
structure PayPunch where
  direction : Direction
  time : Nat
  era : BitVec 8
  source : Station
  flagged : Bool
  evac : Bool
  deriving DecidableEq, Repr

/-- The arrival flags of a punch (R56). -/
def PayPunch.flags (p : PayPunch) : PayFlags := PayFlag.passback.when p.flagged ||| PayFlag.evac.when p.evac

/-- An open IN closed MISSING_OUT with no credit into the slot of its pay day (R59). -/
def PayRecord.closeMissingOut (r : PayRecord) (today : Nat) : PayRecord :=
  match r.openIn with
  | none => r
  | some i =>
    { r.modSlot today i.day (·.flag (PayFlag.missingOut.bit ||| PayFlag.passback.when i.flagged)) with openIn := none }

/-- The orphan OUT discarded, with MISSING_IN in the slot of its own pay day (R57, R58). -/
def PayRecord.discardOrphan (r : PayRecord) (roll today : Nat) : PayRecord :=
  match r.orphan with
  | none => r
  | some o => { r.modSlot today (payDay roll o.time) (·.flag PayFlag.missingIn.bit) with orphan := none }

/-- An interval of the record credited to the slot of the IN's pay day (R58, R60), its CLOCK flag set when the eras differ
and the arrival flags of the punch that closes it. -/
def PayRecord.creditInterval (r : PayRecord) (classes : Fin 8 → ShiftClass) (roll today : Nat) (i : OpenIn)
    (outTime : Nat) (outEra : BitVec 8) (arrival : PayFlags) : PayRecord :=
  let week := r.period.regular + r.current.regular + r.previous.regular
  r.modSlot today i.day fun d =>
    d.credit (classes i.cls) i.cls roll week (payTicks roll i.day i.time) (payTicks roll i.day outTime)
      (PayFlag.clock.when (decide (i.era ≠ outEra)) ||| arrival)

/-- An IN arriving at a record (R57); `cls` is the badge's class when the IN arrives. -/
def PayRecord.takeIn (r : PayRecord) (classes : Fin 8 → ShiftClass) (roll today : Nat) (cls : Fin 8) (p : PayPunch) :
    PayRecord :=
  let i : OpenIn :=
    { time := p.time, day := payDay roll p.time, era := p.era, cls, source := p.source, flagged := p.flagged }
  let opened (x : PayRecord) : PayRecord :=
    { x.modSlot today i.day (·.flag p.flags) with openIn := some i }
  match r.openIn, r.orphan with
  | some _, _ => opened (r.closeMissingOut today)
  | none, some o =>
    if p.time ≤ o.time then
      { r.creditInterval classes roll today i o.time o.era p.flags with orphan := none }
    else opened (r.discardOrphan roll today)
  | none, none => opened r

/-- An OUT arriving at a record (R58). -/
def PayRecord.takeOut (r : PayRecord) (classes : Fin 8 → ShiftClass) (roll today : Nat) (p : PayPunch) : PayRecord :=
  let own := payDay roll p.time
  let asOrphan (x : PayRecord) : PayRecord :=
    { x.modSlot today own (·.flag p.flags) with orphan := some { time := p.time, era := p.era, source := p.source } }
  match r.openIn with
  | some i =>
    if i.time ≤ p.time then
      { r.creditInterval classes roll today i p.time p.era p.flags with openIn := none }
    else r.modSlot today own (·.flag (PayFlag.missingIn.bit ||| p.flags))
  | none => asOrphan (r.discardOrphan roll today)

/-- A punch of the current pay day or the day before, paired (R56, R57, R58). -/
def PayRecord.pair (r : PayRecord) (classes : Fin 8 → ShiftClass) (roll today : Nat) (cls : Fin 8) (p : PayPunch) :
    PayRecord :=
  match p.direction with
  | .dirIn => r.takeIn classes roll today cls p
  | .dirOut => r.takeOut classes roll today p

/-! ## The day roll (R69 to R71) -/

/-- A period figure raised (R53): the figure, and whether it has reached the top of its range, in which case SATURATED is
set. -/
def periodAdd (top a b : Nat) : Nat × Bool := (satAdd top a b, decide (top ≤ a + b))

/-- A slot added into the period (R53, R70 step 3). -/
def Period.addSlot (p : Period) (d : DaySlot) : Period :=
  let regular := periodAdd max16 p.regular d.regular
  let ot1 := periodAdd max16 p.ot1 d.ot1
  let ot2 := periodAdd max16 p.ot2 d.ot2
  let night := periodAdd max16 p.night d.night
  let days := periodAdd max8 p.days (if 0 < d.intervals then 1 else 0)
  { regular := regular.1
    ot1 := ot1.1
    ot2 := ot2.1
    night := night.1
    days := days.1
    flags := p.flags ||| d.flags
    saturated := p.saturated || regular.2 || ot1.2 || ot2.2 || night.2 || days.2 }

/-- The old open parts of a record closed (R70 step 1). They go into the previous slot. -/
def PayRecord.closeOld (r : PayRecord) (roll today : Nat) : PayRecord :=
  let a := match r.openIn with
    | some i => if i.day < today then r.closeMissingOut today else r
    | none => r
  match a.orphan with
  | some o => if payDay roll o.time < today then a.discardOrphan roll today else a
  | none => a

/-- The previous slot judged for EARLY_LEAVE (R70 step 2). -/
def DaySlot.judge (d : DaySlot) (classes : Fin 8 → ShiftClass) (roll : Nat) : DaySlot :=
  match d.lastOut with
  | none => d
  | some (o, cls) =>
    match (classes cls).stop roll with
    | none => d
    | some e => if o < e then d.flag PayFlag.earlyLeave.bit else d

/-- The previous slot as a roll adds it into the period, after steps 1 and 2 (R70). -/
def PayRecord.rolledSlot (r : PayRecord) (classes : Fin 8 → ShiftClass) (roll today : Nat) : DaySlot :=
  (r.closeOld roll today).previous.judge classes roll

/-- A record rolled from pay day `today` to the next (R70). -/
def PayRecord.roll (r : PayRecord) (classes : Fin 8 → ShiftClass) (roll today : Nat) : PayRecord :=
  let a := r.closeOld roll today
  { a with
    period := a.period.addSlot (r.rolledSlot classes roll today)
    previous := a.current
    current := .empty (today + 1) }

/-- A roll of every linked record, which raises the current pay day number by 1 (R69, R70). -/
def PayUnit.roll (p : PayUnit) (roll : Nat) : PayUnit :=
  { p with records := p.records.map fun x => (x.1, x.2.roll p.shiftClass roll p.today), today := p.today + 1 }

/-- A roll adds flags into some record's period (R70). -/
def PayUnit.rollFlags (p : PayUnit) (roll : Nat) : Bool :=
  p.records.any fun x => decide ((x.2.rolledSlot p.shiftClass roll p.today).flags ≠ 0)

/-- One roll taken whole, with the PAY_FLAG mark it may set (R69, R70). -/
def State.rollOnce (s : State) : State :=
  (s.modPay fun p => p.roll s.dayRollMinute).modPort fun t =>
    { t with payFlag := t.payFlag || s.pay.rollFlags s.dayRollMinute }

/-- A number of rolls taken one after another (R69). -/
def State.rollTimes (s : State) : Nat → State
  | 0 => s
  | n + 1 => s.rollOnce.rollTimes n

/-- The rolls due taken, until the current pay day number is not less than the pay day of plant time; none before READY
(R69). -/
def State.takeRolls (s : State) : State :=
  if s.station = .setup then s else s.rollTimes (payDay s.dayRollMinute s.clock.time - s.pay.today)

/-- An early roll (R71). -/
def State.earlyRoll (s : State) : State :=
  s.rollOnce.modPay fun p => { p with earlyRolls := satAdd max8 p.earlyRolls 1 }

/-- A punch taken by the pay unit for the record of a slot (R56): a punch of the current pay day or the day before is
paired; an older one is STALE; one of the next pay day rolls early first; a later one is FUTURE. -/
def State.payPunch (s : State) (slot : Nat) (cls : Fin 8) (p : PayPunch) : State :=
  let roll := s.dayRollMinute
  let day := payDay roll p.time
  let pair (x : State) : State :=
    x.modPay fun u => u.modRecord slot fun r => r.pair u.shiftClass roll u.today cls p
  if day + 2 ≤ s.pay.today then
    s.modPay fun u => u.modRecord slot fun r => { r with previous := r.previous.flag PayFlag.stale.bit }
  else if day ≤ s.pay.today then pair s
  else if day = s.pay.today + 1 then pair s.earlyRoll
  else s.modPay fun u => u.modRecord slot fun r => { r with current := r.current.flag PayFlag.future.bit }

end Sys2Proof.Machine
end

