-- ==== Sys2Proof/Machine/PunchOps.lean ====
section
/-! DEFINITION. What a punch does: presence in the badge table (R9 to R14), the pay unit (R55), the punch journal (R126 to
R128), and the hand-on of an own punch in the order of R45. -/

namespace Sys2Proof.Machine

/-! ## The badge table (R2, R10 to R14) -/

/-- The entry with a badge number, if there is one (R2). -/
def State.lookup (s : State) (badge : Nat) : Option BadgeEntry := s.badges.entries.find? fun e => decide (e.number = badge)

/-- The presence state a punch's direction gives (R10). -/
def presenceOf : Direction → PresenceState
  | .dirIn => .isIn
  | .dirOut => .isOut

/-- The muster count after a presence change (R14). -/
def musterAfter (muster : Nat) (old new : PresenceState) : Nat :=
  if new = .isIn ∧ old ≠ .isIn then muster + 1 else if old = .isIn ∧ new ≠ .isIn then muster - 1 else muster

/-- A stale punch counted against its source: the own station's count, or the peer's (R11). -/
def State.countStale (s : State) : Option Station → State
  | none => s.modBadges fun b => { b with ownStale := satAdd max8 b.ownStale 1 }
  | some p => s.modPeer p fun e => { e with stale := satAdd max8 e.stale 1 }

/-- A stranger counted against its source (R12). -/
def State.countStranger (s : State) : Option Station → State
  | none => s.modBadges fun b => { b with ownStranger := satAdd max8 b.ownStranger 1 }
  | some p => s.modPeer p fun e => { e with stranger := satAdd max8 e.stranger 1 }

/-- A presence update (R10): `peer` is the frame's source for a peer punch, and absent for an own punch. -/
def State.applyPresence (s : State) (badge : Nat) (dir : Direction) (time : Nat) (peer : Option Station) : State :=
  match s.lookup badge with
  | none => s.countStranger peer
  | some e =>
    if time < e.presence.time then s.countStale peer
    else s.modBadges fun b =>
      { b with
        entries := b.entries.map fun x =>
          if x.number = badge then
            { x with presence := { state := (presenceOf dir), time, source := some (peer.getD s.ownStation) } }
          else x
        muster := musterAfter b.muster e.presence.state (presenceOf dir) }

/-! ## The pay unit's hand-on (R55) -/

/-- A punch handed to the pay unit: taken when the badge's entry exists and links a pay record here (R55). -/
def State.handPay (s : State) (badge : Nat) (p : PayPunch) : State :=
  match s.lookup badge with
  | some { cls := cls, paySlot := some slot, .. } => s.payPunch slot cls p
  | _ => s

/-! ## The punch journal (R126, R127) -/

/-- The capacity of the journal (R126). -/
abbrev journalCapacity : Nat := 64

/-- An own punch recorded (R127): it takes the next sequence number, and joins the tail or, with the journal full, is left
out of relay; the first one left out of a full episode records JOURNAL_FULL. DESIGN CHOICE (assumption 35): a number that an
entry still held carries is given again when 256 punches have been numbered since. -/
def State.journalPunch (s : State) (l : Lane) (badge : Nat) (dir : Direction) (outcome : PunchOutcome) (time : Nat)
    (era : BitVec 8) : State :=
  let numbered := s.modJournal fun j => { j with next := j.next + 1 }
  if s.journal.entries.length < journalCapacity then
    (numbered.modJournal fun j =>
      { j with entries := j.entries ++
          [{ tag := s.line.nextTag, seq := s.journal.next, badge, lane := l, direction := dir, outcome, time,
             era }] }).modLine fun p => { p with nextTag := p.nextTag + 1 }
  else
    let left := numbered.modJournal fun j => { j with leftOut := satAdd max16 j.leftOut 1, full := true }
    if s.journal.full then left
    else left.recordIncident .journalFull (lane := some l) (badge := some badge)
      (detail := some (s.journal.next.toNat : Int))

/-- A journal entry that has left from the head, sent whole or dropped; the full mark clears below the capacity (R126,
R127). -/
def Journal.remove (j : Journal) (tag : Nat) : Journal :=
  let kept := j.entries.filter fun e => decide (e.tag ≠ tag)
  { j with entries := kept, full := j.full && decide (journalCapacity ≤ kept.length) }

/-! ## An own punch (R45) -/

/-- The event kind of an own punch (R46). -/
def outcomeEvent : PunchOutcome → EventKind
  | .passed => .passed
  | .evac => .evac

/-- An own punch closed PASSED or EVAC at the present plant time and handed on in the order of R45: badge table, pay unit,
punch journal, watch unit. -/
def State.ownPunch (s : State) (l : Lane) (badge : Nat) (dir : Direction) (outcome : PunchOutcome) (flagged : Bool) :
    State :=
  let time := s.clock.time
  let era := s.clock.era
  let p : PayPunch :=
    { direction := dir, time, era, source := s.ownStation, flagged, evac := decide (outcome = .evac) }
  let present := s.applyPresence badge dir time none
  let paid := present.handPay badge p
  (paid.journalPunch l badge dir outcome time era).hand (s.laneEvent (outcomeEvent outcome) l (badge := some badge))

end Sys2Proof.Machine
end

