-- ==== Sys2Proof/Machine/BadgeCommands.lean ====
section
/-! DEFINITION. The badge commands: BADGE PUT (R3 to R5), BADGE DROP (R6), BADGE READ (R7) and MUSTER READ (R15). -/

namespace Sys2Proof.Machine

/-! ## The table (R1) -/

/-- The capacity of the badge table (R1). -/
abbrev tableCapacity : Nat := 4096

/-- An entry inserted at its place in ascending badge number (R1). -/
def insertEntry (e : BadgeEntry) : List BadgeEntry → List BadgeEntry
  | [] => [e]
  | x :: rest => if e.number < x.number then e :: x :: rest else x :: insertEntry e rest

/-- The entry of a badge number changed. -/
def State.modEntry (s : State) (badge : Nat) (f : BadgeEntry → BadgeEntry) : State :=
  s.modBadges fun b => { b with entries := b.entries.map fun x => if x.number = badge then f x else x }

/-! ## BADGE PUT (R3, R4, R5) -/

/-- The status a code names (R206). -/
def statusOf (c : Byte) : Option BadgeStatus :=
  if c = 1 then some .active else if c = 2 then some .blocked else none

/-- The passback mode a code names (R206). -/
def modeOf (c : Byte) : Option PassbackMode :=
  if c = 1 then some .strict else if c = 2 then some .soft else if c = 3 then some .modeNone else none

/-- The expiry that a block gives; with expiry absent, its bytes are ignored (R3, R206). -/
def expiryOf (b : BadgeBlock) : Option (Option Nat) :=
  if b.expiryPresent = 0 then some none
  else if b.expiryPresent = 1 ∧ b.expiry.toNat ≤ 3106 then some (some b.expiry.toNat)
  else none

/-- The fields BADGE PUT carries, all good (R3). -/
structure BadgeFields where
  number : Nat
  cls : Fin 8
  status : BadgeStatus
  mode : PassbackMode
  home : Station
  expiry : Option Nat
  deriving DecidableEq, Repr

/-- A badge block with every value tested (R3). -/
def readBadgeBlock (b : BadgeBlock) : Option BadgeFields :=
  match statusOf b.status, modeOf b.mode, expiryOf b with
  | some status, some mode, some expiry =>
    if h : isBadge b.number.toNat = true ∧ b.cls.toNat < 8 ∧ b.home.toNat < 16 then
      some { number := b.number.toNat, cls := ⟨b.cls.toNat, h.2.1⟩, status, mode, home := ⟨b.home.toNat, h.2.2⟩,
             expiry }
    else none
  | _, _, _ => none

/-- The entry that BADGE PUT of a new badge inserts, with the pay slot it was given (R4). -/
def newEntry (f : BadgeFields) (slot : Option Nat) : BadgeEntry :=
  { number := f.number, cls := f.cls, status := f.status, expiry := f.expiry, mode := f.mode, home := f.home,
    paySlot := slot, presence := { state := .unknown, time := 0, source := none } }

/-- A new entry inserted with its pay slot. -/
def State.insertBadge (s : State) (f : BadgeFields) (slot : Option Nat) : State :=
  s.modBadges fun b => { b with entries := insertEntry (newEntry f slot) b.entries }

/-- BADGE PUT of a badge number not in the table (R4). -/
def State.putNew (s : State) (f : BadgeFields) : State :=
  if tableCapacity ≤ s.badges.entries.length then s.answer .full
  else if f.home = s.ownStation then
    match s.pay.freeSlot with
    | none => s.answer .full
    | some slot => ((s.modPay fun p => p.allocate slot).insertBadge f (some slot)).answer .done
  else (s.insertBadge f none).answer .done

/-- An entry's class, status, expiry, mode and home replaced, with its pay slot; its presence is kept (R5). -/
def State.replaceEntry (s : State) (f : BadgeFields) (slot : Option Nat) : State :=
  s.modEntry f.number fun e =>
    { e with cls := f.cls, status := f.status, expiry := f.expiry, mode := f.mode, home := f.home, paySlot := slot }

/-- A pay record holds an open IN or an orphan OUT (R5). -/
def PayRecord.busy (r : PayRecord) : Bool := r.openIn.isSome || r.orphan.isSome

/-- BADGE PUT of a badge number in the table, by its old and new home (R5). A pay slot is present when the old home is this
station (01 section 1.1). -/
def State.putOld (s : State) (e : BadgeEntry) (f : BadgeFields) : State :=
  match e.paySlot with
  | some slot =>
    if f.home = s.ownStation then (s.replaceEntry f (some slot)).answer .done
    else if ((s.pay.record slot).map PayRecord.busy).getD false then s.answer .stillOpen
    else ((s.modPay fun p => p.free slot).replaceEntry f none).answer .done
  | none =>
    if f.home = s.ownStation then
      match s.pay.freeSlot with
      | none => s.answer .full
      | some slot => ((s.modPay fun p => p.allocate slot).replaceEntry f (some slot)).answer .done
    else (s.replaceEntry f none).answer .done

/-- BADGE PUT (R3, R4, R5). -/
def execBadgePut (b : BadgeBlock) (s : State) : Host.Outcome State Fault Refusal :=
  .next (s.command (.badgePut b) { code := 0x20, data := badgeBlockBytes b } false .served fun x =>
    match readBadgeBlock b with
    | none => x.answer .badValue
    | some f =>
      match x.lookup f.number with
      | none => x.putNew f
      | some e => x.putOld e f)

/-! ## BADGE DROP (R6) -/

/-- An entry removed; the muster count follows an entry that was IN (R6, R14). -/
def State.removeEntry (s : State) (e : BadgeEntry) : State :=
  s.modBadges fun b =>
    { b with
      entries := b.entries.filter fun x => decide (x.number ≠ e.number)
      muster := if e.presence.state = .isIn then b.muster - 1 else b.muster }

/-- BADGE DROP of an entry (R6). With force, the open IN closes MISSING_OUT into the slot of its pay day, and the record is
then freed at once, so that nothing of the closing remains (R59). -/
def State.dropBadge (s : State) (e : BadgeEntry) (force : Bool) : State :=
  match e.paySlot with
  | none => (s.removeEntry e).answer .done
  | some slot =>
    if ((s.pay.record slot).map fun r => r.openIn.isSome).getD false = true ∧ force = false then s.answer .stillOpen
    else
      let closed := s.modPay fun p => p.modRecord slot fun r => r.closeMissingOut p.today
      ((closed.modPay fun p => p.free slot).removeEntry e).answer .done

/-- BADGE DROP (R3, R6). -/
def execBadgeDrop (force : BitVec 16) (badge : BitVec 24) (s : State) : Host.Outcome State Fault Refusal :=
  .next (s.command (.badgeDrop force badge) { code := 0x21, b := some force, data := leBytes 3 badge.toNat } false
    .served fun x =>
    if isBadge badge.toNat = true ∧ force.toNat < 2 then
      match x.lookup badge.toNat with
      | none => x.answer .noEntry
      | some e => x.dropBadge e (decide (force = 1))
    else x.answer .badValue)

/-! ## BADGE READ (R7) -/

/-- The first entry with a badge number greater than the one given (R7). -/
def State.nextEntry (s : State) (badge : Nat) : Option BadgeEntry :=
  s.badges.entries.find? fun e => decide (badge < e.number)

/-- An entry returned, or NO_ENTRY (R7, R206). -/
def State.answerEntry (s : State) : Option BadgeEntry → State
  | none => s.answer .noEntry
  | some e => s.answerData .done (badgeBlock s.freeBytes e)

/-- BADGE READ: A is 0 for EXACT and 1 for NEXT; for NEXT only, the number 0 is good (R3, R7). -/
def execBadgeRead (a : BitVec 16) (badge : BitVec 24) (s : State) : Host.Outcome State Fault Refusal :=
  .next (s.command (.badgeRead a badge) { code := 0x22, a := some a, data := leBytes 3 badge.toNat } false
    .served fun x =>
    if a = 0 ∧ isBadge badge.toNat = true then x.answerEntry (x.lookup badge.toNat)
    else if a = 1 ∧ (badge = 0 ∨ isBadge badge.toNat = true) then x.answerEntry (x.nextEntry badge.toNat)
    else x.answer .badValue)

/-! ## MUSTER READ (R15) -/

/-- The IN badges beyond a number, in ascending order (R15). -/
def State.inBeyond (s : State) (n : Nat) : List Nat :=
  (s.badges.entries.filter fun e => decide (e.presence.state = .isIn) && decide (n < e.number)).map (·.number)

/-- The most badges one part returns (R15). -/
abbrev musterPart : Nat := 7

/-- One part of the walk from a cursor, and the cursor after it (R15). -/
def State.readMuster (s : State) (cursor : Nat) : State :=
  let beyond := s.inBeyond cursor
  let badges := beyond.take musterPart
  let part : MusterPart :=
    { muster := s.badges.muster, badges, count := badges.length, atEnd := decide (beyond.length ≤ musterPart) }
  (s.modBadges fun b => { b with cursor := badges.getLastD cursor }).answerReply .done (.muster part)

/-- MUSTER READ: A is 0 for START and 1 for NEXT (R3, R15). -/
def execMusterRead (a : BitVec 16) (s : State) : Host.Outcome State Fault Refusal :=
  .next (s.command (.musterRead a) { code := 0x23, a := some a } false .served fun x =>
    if a = 0 then x.readMuster 0
    else if a = 1 then x.readMuster x.badges.cursor
    else x.answer .badValue)

end Sys2Proof.Machine
end

