-- ==== Sys2Proof/Machine/BellOps.lean ====
section
/-! DEFINITION. The bell unit's shared operations: the bell output arbiter (R103 to R105), the bell trace (R107), and the
ringing or passing of a schedule entry (R97, R99, R101). -/

namespace Sys2Proof.Machine

/-! ## The bell trace (R107) -/

/-- The capacity of the bell trace (R107). -/
abbrev bellTraceCapacity : Nat := 8

/-- A record made in the bell trace, overwriting the oldest; none is made in HOLDOVER (R107). DESIGN CHOICE (assumption 44): the
time of a record of an own instant is plant time when the instant is taken, after the whole of the counting that reached it. -/
def State.traceBell (s : State) (e : Fin 48) (day : Nat) (origin : BellOrigin) (outcome : BellOutcome) : State :=
  if s.station = .holdover then s
  else s.modBell fun b =>
    let kept := if b.trace.length < bellTraceCapacity then b.trace else b.trace.drop 1
    { b with trace := kept ++
        [{ entry := e, role := (s.bellEntry e).role, day, time := s.clock.time, origin, outcome }] }

/-- The first item that satisfies `p` changed. -/
def changeFirst {α : Type} (p : α → Bool) (f : α → α) : List α → List α
  | [] => []
  | x :: xs => if p x then f x :: xs else x :: changeFirst p f xs

/-- The last item that satisfies `p` changed. -/
def changeLast {α : Type} (p : α → Bool) (f : α → α) (xs : List α) : List α := (changeFirst p f xs.reverse).reverse

/-- The record of a cut entry changed to CUT if it is still held (R107). While an entry sounds, every later ring finds the
output busy, so the record of the sounding ring is the entry's newest RUNG record. -/
def BellUnit.markCut (b : BellUnit) (e : Fin 48) : BellUnit :=
  { b with
    trace := changeLast (fun r => decide (r.entry = e) && decide (r.outcome = .rung))
      (fun r => { r with outcome := .cut }) b.trace }

/-! ## The arbiter (R103, R104, R105) -/

/-- A claim that takes the output sounds its pattern from the first repeat (R103). -/
def State.sound (s : State) (rank : Rank) (p : Fin 8) (e : Option (Fin 48)) : State :=
  s.modBell fun b =>
    { b with arbiter := some { rank, pattern := p, entry := e, repeatNo := 1, on := true, left := (s.pattern p).on } }

/-- The repeats a claim sounds; none for a claim that sounds until stopped (R103). -/
def repeatsOf (rank : Rank) (p : Pattern) : Option Nat :=
  match rank with
  | .scheduled => some (max 1 p.repeats)
  | .alarm => if p.repeats = 0 then none else some p.repeats
  | .evacuation => none

/-- The arbiter returned to IDLE with the output off (R103, R105). -/
def State.silence (s : State) : State := s.modBell fun b => { b with arbiter := none }

/-- A sounding SCHEDULED claim counted CUT, with its record (R104, R105, R106). -/
def State.countCut (s : State) : State :=
  match s.bell.arbiter with
  | some { rank := .scheduled, entry := some e, .. } =>
    s.modBell fun b => { b.markCut e with cut := satAdd max16 b.cut 1 }
  | _ => s

/-- The SUPPRESSED count raised (R106). -/
def State.countSuppressed (s : State) : State :=
  s.modBell fun b => { b with suppressed := satAdd max16 b.suppressed 1 }

/-- The MISSED count raised (R106). -/
def State.countMissed (s : State) : State := s.modBell fun b => { b with missed := satAdd max16 b.missed 1 }

/-- An ALARM claim (R104): it cuts a sounding entry, restarts a sounding alarm, and is set aside by the evacuation
pattern. Claims are not taken in SETUP and HOLDOVER. -/
def State.claimAlarm (s : State) : State :=
  if s.station.serving then
    match s.bell.arbiter with
    | some { rank := .evacuation, .. } => s
    | _ => s.countCut.sound .alarm s.sw4.alarmPattern none
  else s

/-- An EVACUATION claim (R104): it takes the output from whatever sounds. -/
def State.claimEvacuation (s : State) : State :=
  if s.station.serving then s.countCut.sound .evacuation s.sw4.evacPattern none else s

/-- The alarm stopped if an ALARM claim sounds (R105). -/
def State.stopAlarm (s : State) : State :=
  match s.bell.arbiter with
  | some { rank := .alarm, .. } => s.silence
  | _ => s

/-- Whatever sounds stopped at entry into HOLDOVER; a SCHEDULED claim counts CUT (R105). DESIGN CHOICE (assumption 48): its
record becomes CUT too, as that of a claim cut under R104 does (R107). -/
def State.stopBell (s : State) : State := s.countCut.silence

/-! ## Rings and passes (R97, R98, R99, R101) -/

/-- The day mark of an entry set (R98). -/
def State.markEntry (s : State) (e : Fin 48) (day : Nat) : State :=
  s.modBellEntry e fun x => { x with mark := some day }

/-- An entry rung: marked, its SCHEDULED claim taken by the arbiter, and recorded RUNG, or SUPPRESSED when the output is
busy (R97, R104, R107). -/
def State.rung (s : State) (e : Fin 48) (day : Nat) (origin : BellOrigin) : State :=
  let m := s.markEntry e day
  match s.bell.arbiter with
  | none => (m.sound .scheduled (s.bellEntry e).pattern (some e)).traceBell e day origin .rung
  | some _ => m.countSuppressed.traceBell e day origin .suppressed

/-- An entry passed and counted SUPPRESSED, in EVACUATE (R97, R99, R101). -/
def State.passSuppressed (s : State) (e : Fin 48) (day : Nat) (origin : BellOrigin) : State :=
  ((s.markEntry e day).countSuppressed).traceBell e day origin .suppressed

/-- An entry passed and counted MISSED (R97, R99). -/
def State.passMissed (s : State) (e : Fin 48) (day : Nat) (origin : BellOrigin) : State :=
  ((s.markEntry e day).countMissed).traceBell e day origin .missed

/-- A due entry whose instant came by the own clock, taken by the station state (R97); a caught-up instant is taken the
same way (R99). -/
def State.takeInstant (s : State) (e : Fin 48) (day : Nat) (origin : BellOrigin) : State :=
  match s.station with
  | .setup => s
  | .join => s.rung e day origin
  | .live | .held => (s.rung e day origin).placeCue e day
  | .evacuate => s.passSuppressed e day origin
  | .holdover => s.passMissed e day origin

/-! ## Catching up after a forward step (R99) -/

/-- The schedule entries with their numbers, in ascending number. -/
def State.numberedEntries (s : State) : List (Fin 48 × BellEntry) :=
  (List.finRange 48).map fun e => (e, s.bellEntry e)

/-- An item inserted before the first whose key is greater, so that equal keys keep their order. -/
def insertByKey {α : Type} (key : α → Nat) (x : α) : List α → List α
  | [] => [x]
  | y :: ys => if key x < key y then x :: y :: ys else y :: insertByKey key x ys

/-- A list put in ascending order of a key; equal keys keep their order. -/
def sortByKey {α : Type} (key : α → Nat) (xs : List α) : List α :=
  xs.foldl (fun acc x => insertByKey key x acc) []

/-- One instant of the span from `t0` to `t1` taken, if its entry is due: caught up or passed within the cue window, and
passed MISSED before it (R99). -/
def State.catchUpOne (s : State) (t0 t1 day : Nat) (e : Fin 48) : State :=
  let x := s.bellEntry e
  let i := ringBellTime x day
  let adv := s.sw4.bellAdvance
  if bellTime adv t0 < i ∧ i ≤ bellTime adv t1 ∧ x.due s.sw0.weekday day = true then
    if bellTime adv t1 ≤ i + s.sw4.cueWindow * ticksPerSecond then s.takeInstant e day .catchUp
    else s.passMissed e day .catchUp
  else s

/-- The instants of `n` bell days from `day` on taken, in the order given within each day (R99). -/
def State.catchUpDays (s : State) (t0 t1 : Nat) (order : List (Fin 48)) (day : Nat) : Nat → State
  | 0 => s
  | n + 1 => (order.foldl (fun s e => s.catchUpOne t0 t1 day e) s).catchUpDays t0 t1 order (day + 1) n

/-- A step from `t0` to `t1` taken by the bell unit: a forward step takes every instant stepped over, in ascending order of
instant and, for one instant, of entry number (R99); any other step takes none (R98). Entries with an empty mask are never
due (R93), so they are left out of the walk. -/
def State.catchUp (s : State) (t0 t1 : Nat) : State :=
  if t0 < t1 then
    let order := (sortByKey (fun p => ringOffset p.2)
      (s.numberedEntries.filter fun p => decide (p.2.mask ≠ 0))).map Prod.fst
    if order.isEmpty then s
    else
      let first := bellDay s.sw4.bellAdvance t0
      s.catchUpDays t0 t1 order first (bellDay s.sw4.bellAdvance t1 + 1 - first)
  else s

end Sys2Proof.Machine
end

