-- ==== Sys2Proof/Machine/LaneOps.lean ====
section
/-! DEFINITION. The lane units' shared operations: the strike drive and its sense check (R20, R24), the closing of a pending
release (R32), holds and faults at the lane (R37, R39, R40), and the hold reasons that reach them (R151, R152). -/

namespace Sys2Proof.Machine

/-! ## The strike drive (R23, R24) -/

/-- The drive R24 gives a lane: `true` for RELEASED. -/
def State.driveOf (s : State) (l : Lane) : Bool :=
  match s.station with
  | .setup | .join => false
  | .evacuate => true
  | .holdover => decide ((s.sw1 l).failMode = .release)
  | .live | .held =>
    match (s.lane l).state with
    | .released | .fault => true
    | .opened => (s.lane l).openDrive
    | .off | .idle | .held => false

/-- The real time a sense check waits, in sixteenths (R20). -/
abbrev senseCheckTime : Nat := 16

/-- The strike output of a lane driven as R24 gives. A change of the drive of a fitted lane starts a sense check, or starts
it anew; none is started in HOLDOVER (R20). -/
def State.refreshDrive (s : State) (l : Lane) : State :=
  if s.driveOf l = (s.lane l).drive then s
  else s.modLane l fun u =>
    { u with
      drive := s.driveOf l
      senseCheck :=
        if u.kind ≠ .off ∧ s.station ≠ .holdover then some senseCheckTime else u.senseCheck }

/-- Every strike output driven as R24 gives. -/
def State.refreshDrives (s : State) : State := Lane.all.foldl (fun s l => s.refreshDrive l) s

/-- The debounced sense agrees with the drive (R20); an input with no debounced level does not. -/
def LaneUnit.senseAgrees (u : LaneUnit) : Bool := decide (u.sense.level = some u.drive)

/-! ## Releases, doors and rest (R32, R35, R37) -/

/-- A DOOR lane's contact is open (R35). -/
def LaneUnit.doorOpen (u : LaneUnit) : Bool := decide (u.kind = .door) && decide (u.aux.level = some true)

/-- The state of a lane with no release running and no door open: HELD when it is held, IDLE otherwise (R23). -/
def State.restState (s : State) (l : Lane) : LaneState := if s.laneHeld l then .held else .idle

/-- A pending release closed UNUSED, and its event handed (R32). The lane state and the drive are left to the caller. -/
def State.dropRelease (s : State) (l : Lane) : State :=
  match (s.lane l).release with
  | none => s
  | some p =>
    (s.modLane l fun u => { u with release := none, releaseTimer := none }).hand
      (s.laneEvent .unused l (badge := some p.badge) (readTime := some p.readTime))

/-- A release running in RELEASED closed UNUSED: the lane goes to rest and its strike is driven LOCKED (R32). -/
def State.expireRelease (s : State) (l : Lane) : State :=
  ((s.dropRelease l).modLane l fun u => { u with state := s.restState l }).refreshDrive l

/-- The held-open timer starts with the door, but not in EVACUATE or HOLDOVER (R35, R41, R44). -/
def State.heldOpenStart (s : State) (l : Lane) : Option Nat :=
  match s.station with
  | .evacuate | .holdover => none
  | _ => some (s.heldOpenLimit l)

/-- A DOOR lane put in OPEN, its strike keeping `drive` for as long as the door is open; no release timer runs there (R34,
R35). -/
def State.openDoor (s : State) (l : Lane) (drive : Bool) : State :=
  (s.modLane l fun u =>
    { u with state := .opened, openDrive := drive, heldOpen := s.heldOpenStart l, releaseTimer := none }).refreshDrive l

/-- A lane put in the state it has with no release: OPEN with its strike LOCKED when its door contact is open, else HELD
when it is held, else IDLE (R39, R40, R43). -/
def State.settleLane (s : State) (l : Lane) : State :=
  if (s.lane l).doorOpen then s.openDoor l false
  else (s.modLane l fun u => { u with state := s.restState l, heldOpen := none }).refreshDrive l

/-! ## Faults at the lane (R40) -/

/-- A record ACTIVE under action OPEN. -/
def FaultRecord.opens (r : FaultRecord) : Bool := decide (r.state = .active) && decide (r.action = some .actOpen)

/-- One of the lane's own faults is ACTIVE under action OPEN (R40). -/
def State.laneFaulted (s : State) (l : Lane) : Bool :=
  let r := s.faults.lanes.get l
  r.reader.opens || r.strike.opens || r.doorHeld.opens

/-- A lane put in FAULT: a pending release closes UNUSED, the held-open timer stops, and the strike follows R24 (R40). -/
def State.enterFault (s : State) (l : Lane) : State :=
  if (s.lane l).state = .fault then s
  else ((s.dropRelease l).modLane l fun u => { u with state := .fault, heldOpen := none }).refreshDrive l

/-! ## Holds (R39, R151, R152, R153) -/

/-- A hold reaching a lane: an IDLE lane goes to HELD, every other state goes on (R39). -/
def State.reachHold (s : State) (l : Lane) : State :=
  match s.station with
  | .join | .live | .held =>
    if (s.lane l).state = .idle ∧ s.laneHeld l = true then s.modLane l fun u => { u with state := .held } else s
  | _ => s

/-- A lane that stops being held: a lane in HELD goes to OPEN when its contact is open and to IDLE otherwise (R39). -/
def State.endHold (s : State) (l : Lane) : State :=
  if (s.lane l).state = .held ∧ s.laneHeld l = false then s.settleLane l else s

/-- What the hold context holds of a lane (R152). -/
def LaneUnit.context (u : LaneUnit) : LaneContext := { state := u.state, badge := u.release.map (·.badge) }

/-- The hold context taken at a hold entry: when a reason is added while none is set (R152). -/
def State.takeContext (s : State) (reason : HoldReason) (l : Option Lane) : State :=
  if s.anyHold then s
  else s.modControl fun c =>
    { c with context := some { time := s.clock.time, reason, lane := l, lanes := s.lanes.map LaneUnit.context } }

/-- A reason added to a lane (R151); a reason already set changes nothing. -/
def State.addLaneReason (s : State) (l : Lane) (r : HoldReason) : State :=
  if (s.control.laneReasons.get l).contains r then s
  else ((s.takeContext r (some l)).modControl fun c =>
    { c with laneReasons := c.laneReasons.set l (c.laneReasons.get l ++ [r]) }).reachHold l

/-- A reason added to the station (R151): in LIVE the station enters HELD and every lane is held; in JOIN and EVACUATE the
reason waits. -/
def State.addStationReason (s : State) (r : HoldReason) : State :=
  if s.control.stationReasons.contains r then s
  else
    let added := (s.takeContext r none).modControl fun c => { c with stationReasons := c.stationReasons ++ [r] }
    if s.station = .live then
      Lane.all.foldl (fun s l => s.reachHold l) (added.modControl fun c => { c with station := .held })
    else added

end Sys2Proof.Machine
end

