-- ==== Sys2Proof/Machine/FaultOps.lean ====
section
/-! DEFINITION. The fault monitor: counting a detection against its filter (R189), a record becoming ACTIVE and its action
(R191, R192), and clearing conditions (R190, R193). -/

namespace Sys2Proof.Machine

/-- The lane fault kinds. -/
inductive LaneFaultKind | reader | strike | doorHeld
  deriving DecidableEq, Repr

/-- A lane's record of a kind (R187). -/
def LaneFaults.get (f : LaneFaults) : LaneFaultKind → FaultRecord
  | .reader => f.reader
  | .strike => f.strike
  | .doorHeld => f.doorHeld

/-- A lane's record of a kind replaced. -/
def LaneFaults.set (f : LaneFaults) (k : LaneFaultKind) (r : FaultRecord) : LaneFaults :=
  match k with
  | .reader => { f with reader := r }
  | .strike => { f with strike := r }
  | .doorHeld => { f with doorHeld := r }

/-- The kind as a hold reason names it (R151). -/
def LaneFaultKind.kind : LaneFaultKind → FaultKind
  | .reader => .reader
  | .strike => .strike
  | .doorHeld => .doorHeld

/-- The kind as an incident names it (R191). -/
def LaneFaultKind.incident : LaneFaultKind → IncidentKind
  | .reader => .reader
  | .strike => .strike
  | .doorHeld => .doorHeld

/-- The filter and action of a lane fault kind, from SW5 (R187). -/
def SW5.laneSetting (w : SW5) : LaneFaultKind → FaultSetting
  | .reader => w.reader
  | .strike => w.strike
  | .doorHeld => w.doorHeld

/-- A detection counted against a record (R189): the record after it, ACTIVE with the action taken when the count reaches
the filter. A cause, where the kind has causes, joins the causes present in every state. -/
def FaultRecord.detect (r : FaultRecord) (w : FaultSetting) (cause : Option FaultCause) : FaultRecord :=
  let causes := match cause with
    | none => r.causes
    | some c => if r.causes.contains c then r.causes else r.causes ++ [c]
  if r.state = .active then { r with causes }
  else if w.filter ≤ r.count + 1 then { state := .active, count := r.count + 1, causes, action := some w.action }
  else { state := .counting, count := r.count + 1, causes, action := r.action }

/-- A detection makes a record ACTIVE (R189, R191). -/
def FaultRecord.activates (r : FaultRecord) (w : FaultSetting) : Bool :=
  decide (r.state ≠ .active) && decide (w.filter ≤ r.count + 1)

/-- Detections and clearing conditions are taken in every state but SETUP (R188). -/
def State.faultsTaken (s : State) : Bool := decide (s.station ≠ .setup)

/-- The action of a lane record that became ACTIVE (R191, R192). OPEN puts the lane in FAULT in JOIN, LIVE and HELD; in
EVACUATE the lane enters FAULT when the station leaves it. -/
def State.laneAction (s : State) (l : Lane) (k : LaneFaultKind) : FaultAction → State
  | .actNote => s
  | .actAlarm => s.claimAlarm
  | .actHold => s.addLaneReason l (.fault k.kind)
  | .actOpen =>
    match s.station with
    | .join | .live | .held => s.enterFault l
    | _ => s

/-- A detection of a lane fault (R189, R191). A lane whose effective kind is OFF hands in none (R188). -/
def State.detectLane (s : State) (l : Lane) (k : LaneFaultKind) : State :=
  if s.faultsTaken = true ∧ (s.lane l).kind ≠ .off then
    let w := s.sw5.laneSetting k
    let r := (s.faults.lanes.get l).get k
    let counted := s.modFaults fun m =>
      { m with lanes := m.lanes.set l ((m.lanes.get l).set k (r.detect w none)) }
    if r.activates w then
      (counted.laneAction l k w.action).recordIncident k.incident (lane := some l)
        (detail := some (actionCode w.action))
    else counted
  else s

/-- The action of a LINE or CLOCK record that became ACTIVE; OPEN is taken as HOLD (R191). -/
def State.stationAction (s : State) (k : FaultKind) : FaultAction → State
  | .actNote => s
  | .actAlarm => s.claimAlarm
  | .actHold | .actOpen => s.addStationReason (.fault k)

/-- The detail of a LINE or CLOCK incident (R207). -/
def causeDetail (c : FaultCause) (a : FaultAction) : Int := (c.code * 256 + actionCode a : Nat)

/-- A LINE detection (R189, R191). -/
def State.detectLine (s : State) (c : FaultCause) : State :=
  if s.faultsTaken then
    let w := s.sw5.line
    let r := s.faults.line
    let counted := s.modFaults fun m => { m with line := r.detect w (some c) }
    if r.activates w then
      (counted.stationAction .line w.action).recordIncident .line (detail := some (causeDetail c w.action))
    else counted
  else s

/-- A CLOCK detection (R189, R191). -/
def State.detectClock (s : State) (c : FaultCause) : State :=
  if s.faultsTaken then
    let w := s.sw5.clock
    let r := s.faults.clock
    let counted := s.modFaults fun m => { m with clock := r.detect w (some c) }
    if r.activates w then
      (counted.stationAction .clock w.action).recordIncident .clock (detail := some (causeDetail c w.action))
    else counted
  else s

/-- A record with a cause cleared: with no cause left it returns to NORMAL (R190). -/
def FaultRecord.clearCause (r : FaultRecord) (c : FaultCause) : FaultRecord :=
  if r.causes.contains c then
    let left := r.causes.filter fun x => decide (x ≠ c)
    if left.isEmpty then .reset else { r with causes := left }
  else r

/-- The clearing condition of a LINE cause (R190). -/
def State.clearLine (s : State) (c : FaultCause) : State :=
  if s.faultsTaken then s.modFaults fun m => { m with line := m.line.clearCause c } else s

/-- The clearing condition of a CLOCK cause (R190). -/
def State.clearClock (s : State) (c : FaultCause) : State :=
  if s.faultsTaken then s.modFaults fun m => { m with clock := m.clock.clearCause c } else s

/-- A lane leaving FAULT when the last of its OPEN-action faults has ended (R40, R193). -/
def State.leaveFault (s : State) (l : Lane) : State :=
  if (s.lane l).state = .fault ∧ s.laneFaulted l = false then s.settleLane l else s

/-- The clearing condition of a lane record (R190, R193): the record returns to NORMAL, and a lane whose last OPEN-action
fault ends leaves FAULT. In HOLDOVER no lane clearing is handed (R44, R184). -/
def State.clearLane (s : State) (l : Lane) (k : LaneFaultKind) : State :=
  if s.faultsTaken = true ∧ (s.lane l).kind ≠ .off then
    (s.modFaults fun m => { m with lanes := m.lanes.set l ((m.lanes.get l).set k .reset) }).leaveFault l
  else s

end Sys2Proof.Machine
end

