-- ==== Sys2Proof/Machine/WatchOps.lean ====
section
/-! DEFINITION. Entering and leaving EVACUATE (R162, R163, R167), and the watch unit: the gate trace (R157), conditions and
rules (R144 to R149), the action of a trip (R150), and the taking of the events handed (R141). -/

namespace Sys2Proof.Machine

/-! ## Evacuation (R41, R43, R162, R167) -/

/-- The source station of an evacuation reason (R155). -/
def EvacReason.source : EvacReason → Option Station
  | .frame p _ => some p
  | _ => none

/-- A fitted lane taken into EVACUATE (R41); the drive follows when every strike is driven. -/
def State.evacuateLane (s : State) (l : Lane) : State :=
  if (s.lane l).kind = .off then s
  else (s.dropRelease l).modLane l fun u =>
    { u with state := if u.doorOpen then .opened else .idle, openDrive := false, heldOpen := none, evacRead := none }

/-- An entry into EVACUATE, taken whole (R162). The CLEAR a source places is placed after it. -/
def State.enterEvacuate (s : State) (reason : EvacReason) : State :=
  let entered := s.modControl fun c =>
    { c with station := .evacuate, evacRecord := some { reason, time := s.clock.time } }
  let cleared := entered.removeEvac fun f => decide (f = .allClear)
  let lanes := (Lane.all.foldl (fun s l => s.evacuateLane l) cleared).refreshDrives
  lanes.claimEvacuation.recordIncident .evacBegin (peer := reason.source) (detail := some reason.detail)

/-- A lane taken out of EVACUATE (R43): FAULT, OPEN, HELD or IDLE, its evacuation read emptied. -/
def State.releaseLane (s : State) (l : Lane) : State :=
  let emptied := s.modLane l fun u => { u with evacRead := none }
  if (s.lane l).kind = .off then emptied.refreshDrive l
  else if s.laneFaulted l then emptied.enterFault l
  else emptied.settleLane l

/-- A departure from EVACUATE, taken whole (R167): `source` is the source of an ALL CLEAR frame, and absent for the ALL
CLEAR command. -/
def State.leaveEvacuate (s : State) (source : Option Station) : State :=
  let left := s.modControl fun c =>
    { c with station := if c.stationReasons.isEmpty then .live else .held, evacRecord := none }
  let lanes := (Lane.all.foldl (fun s l => s.releaseLane l) left).refreshDrives
  (lanes.silence.openDoubt .evacEnd none).recordIncident .evacEnd (peer := source)
    (detail := some (if source.isSome then 4 else 3))

/-- A watch rule's request to evacuate (R163). -/
def State.watchEvacuate (s : State) : State :=
  match s.station with
  | .live | .held => (s.enterEvacuate .watch).placeEvac (.clear .watch)
  | .join => s.modControl fun c => { c with pendingEvac := some { reason := .watch, clearMark := true } }
  | _ => s

/-! ## The gate trace (R157) -/

/-- The positions of the gate trace (R157). -/
abbrev traceLength : Nat := 32

/-- The entry of the admission whose release was closed: outcome ADMIT or FLAGGED, the same lane and badge, and the read time
of the release (R157). -/
def TraceEntry.isAdmitOf (l : Lane) (badge : Option Nat) (readTime : Option Nat) : Option TraceEntry → Bool
  | none => false
  | some x =>
    (decide (x.outcome = .admitted) || decide (x.outcome = .flagged)) && decide (x.lane = l) && decide (x.badge = badge) &&
      decide (some x.time = readTime)

/-- The newest entry that the closed release's admission left, its UNUSED mark set: the first number of positions are looked
through, backwards from a position (R157). -/
def markAdmit (l : Lane) (badge : Option Nat) (readTime : Option Nat) :
    Nat → Nat → List (Option TraceEntry) → List (Option TraceEntry)
  | 0, _, t => t
  | n + 1, pos, t =>
    if TraceEntry.isAdmitOf l badge readTime (t.getD pos none) then
      modAt (fun x : Option TraceEntry => x.map fun y => { y with unused := true }) pos t
    else markAdmit l badge readTime n ((pos + traceLength - 1) % traceLength) t

/-- An own-lane event written into the ring (R157). -/
def WatchUnit.write (w : WatchUnit) (l : Lane) (e : LaneEvent) : WatchUnit :=
  let entry : TraceEntry :=
    { number := w.nextEvent, time := e.time, lane := l, badge := e.badge, outcome := e.kind, reason := e.reason,
      unused := decide (e.kind = .unused) }
  let written := modAt (fun _ => some entry) w.writePos w.trace
  { w with
    trace := if e.kind = .unused then markAdmit l e.badge e.readTime traceLength w.writePos written else written
    writePos := (w.writePos + 1) % traceLength
    nextEvent := w.nextEvent + 1 }

/-! ## Conditions and rules (R144 to R149) -/

/-- The badge test of a condition (R144). -/
def Condition.badgeTest (c : Condition) (badge : Option Nat) : Bool :=
  match c.test, badge with
  | .any, _ => true
  | _, none => false
  | .equal, some b => decide (b = c.limit)
  | .notEqual, some b => decide (b ≠ c.limit)
  | .below, some b => decide (b < c.limit)
  | .above, some b => decide (c.limit < b)

/-- A condition holds on an event when all three of its tests pass (R144). -/
def Condition.holds (c : Condition) (e : LaneEvent) : Bool :=
  c.kinds.contains e.kind && c.lanes.contains e.lane && c.badgeTest e.badge

/-- A hold by a rule that tripped on an event (R150): HOLD_LANE on a PEER_PUNCH holds the station. -/
def State.watchHoldLane (s : State) (r : RuleNo) (e : LaneEvent) : State :=
  match e.lane with
  | .own l => s.addLaneReason l (.watch r)
  | .peer => s.addStationReason (.watch r)

/-- The action of a tripped rule (R150). -/
def State.watchAction (s : State) (r : RuleNo) (e : LaneEvent) : WatchAction → State
  | .note => s
  | .alarm => s.claimAlarm
  | .holdLane => s.watchHoldLane r e
  | .holdStation => s.addStationReason (.watch r)
  | .evacuate => s.watchEvacuate

/-- The own lane of an event, if it has one. -/
def ownLane : EventLane → Option Lane
  | .own l => some l
  | .peer => none

/-- The detail of a WATCH incident (R207). -/
def LaneEvent.detail (e : LaneEvent) : Int :=
  (eventCode e.kind * 256 + (match e.reason with | some r => r.code | none => 0) : Nat)

/-- A trip (R149): the action, the WATCH incident, the trip count, and the counter set to N − 1. -/
def State.trip (s : State) (r : RuleNo) (e : LaneEvent) : State :=
  let x := s.watch.rules.get r
  ((s.watchAction r e x.action).recordIncident .watch (lane := ownLane e.lane) (badge := e.badge) (rule := some r)
      (peer := e.source) (detail := some e.detail)).modRule r
    fun y => { y with trips := satAdd max8 y.trips 1, counter := y.count - 1 }

/-- An occurrence counted (R149). -/
def State.occurrence (s : State) (r : RuleNo) (e : LaneEvent) : State :=
  if 0 < (s.watch.rules.get r).counter then s.modRule r fun y => { y with counter := y.counter - 1 }
  else s.trip r e

/-- An event taken by a rule that waits for one condition and then the other (R147). -/
def State.matchSequence (s : State) (r : RuleNo) (e : LaneEvent) (first second : Bool) : State :=
  let x := s.watch.rules.get r
  let closes := match x.first with
    | none => false
    | some f => second && (!x.sameBadge || decide (e.badge = f.badge))
  if closes then (s.modRule r fun y => { y with first := none }).occurrence r e
  else if first then
    s.modRule r fun y =>
      { y with first := some { time := e.time, badge := e.badge, left := y.window * ticksPerSecond } }
  else s

/-- An event matched against one rule (R144, R146, R147): a disarmed rule matches none (R145). -/
def State.matchRule (s : State) (r : RuleNo) (e : LaneEvent) : State :=
  let x := s.watch.rules.get r
  if x.armed then
    match x.combine with
    | .both => if x.a.holds e && x.b.holds e then s.occurrence r e else s
    | .either => if x.a.holds e || x.b.holds e then s.occurrence r e else s
    | .bAfterA =>
      let badged := !x.sameBadge || e.badge.isSome
      s.matchSequence r e (badged && x.a.holds e) (badged && x.b.holds e)
    | .aAfterB =>
      let badged := !x.sameBadge || e.badge.isSome
      s.matchSequence r e (badged && x.b.holds e) (badged && x.a.holds e)
  else s

/-- An event taken by the watch unit (R141): an own-lane event is entered in the trace; in JOIN, LIVE, HELD and EVACUATE
the event is then matched against rules 0 to 3. -/
def State.takeEvent (s : State) (e : LaneEvent) : State :=
  let traced := match e.lane with
    | .own l => s.modWatch fun w => w.write l e
    | .peer => s
  if traced.station.serving then RuleNo.all.foldl (fun s r => s.matchRule r e) traced else traced

/-- The events handed taken first in, first out, events their actions bring after them (R141). One command hands fewer
than `n` events: at most two of its own and one UNUSED closing for each lane. -/
def State.takeEvents (s : State) : Nat → State
  | 0 => s
  | n + 1 =>
    match s.watch.handed with
    | [] => s
    | e :: rest => ((s.modWatch fun w => { w with handed := rest }).takeEvent e).takeEvents n

/-- Every event that a command handed taken (R141). -/
def State.settleEvents (s : State) : State := s.takeEvents 32

end Sys2Proof.Machine
end

