-- ==== Sys2Proof/Machine/ClockOps.lean ====
section
/-! DEFINITION. The plant clock's shared operations: counting a sixteenth of a second with the real-time timers (R76, R77),
stored offsets (R81), steps (R85, R86) and the agreement (R82 to R84). -/

namespace Sys2Proof.Machine

/-! ## Stored offsets (R81) -/

/-- Every stored offset lowered by a change of the own clock (R81). -/
def State.correctOffsets (s : State) (change : Int) : State :=
  s.modPeers fun t =>
    { t with entries := t.entries.map fun e =>
        { e with offset := e.offset.map fun o => { o with ticks := o.ticks - change } } }

/-- Every stored offset cleared to absent (R81). -/
def State.clearOffsets (s : State) : State :=
  s.modPeers fun t => { t with entries := t.entries.map fun e => { e with offset := none } }

/-! ## Counting (R76, R77) -/

/-- A running timer with a sixteenth less left. -/
def countDown (t : Option Nat) : Option Nat := t.map (· - 1)

/-- A lane's running timers with a sixteenth less left (02 section 2.1). -/
def LaneUnit.countDown (u : LaneUnit) : LaneUnit :=
  { u with
    releaseTimer := Machine.countDown u.releaseTimer
    heldOpen := Machine.countDown u.heldOpen
    aux := { u.aux with timer := Machine.countDown u.aux.timer }
    sense := { u.sense with timer := Machine.countDown u.sense.timer }
    senseCheck := Machine.countDown u.senseCheck
    evacRead := u.evacRead.map fun r => { r with left := r.left - 1 } }

/-- The supply monitor's running delays with a sixteenth less left (R180). -/
def SupplyMonitor.countDown (m : SupplyMonitor) : SupplyMonitor :=
  { m with failing := Machine.countDown m.failing, returning := Machine.countDown m.returning }

/-- Every running real-time timer with a sixteenth less left (00 section 4.1). In HOLDOVER the timers of the blocks are
stopped, and the supply monitor's run on; the windows kept under FULL stand still there (R142). DESIGN CHOICE (assumption 49):
a time that has run out stays at 0 until its own command is taken, so that a pattern phase (R103) or a timer that ends inside
one CLOCK_SECOND sent whole begins again only after it, and whole. -/
def State.countTimers (s : State) : State :=
  ((((((s.modSupply SupplyMonitor.countDown).modLanes (·.map LaneUnit.countDown)).modControl fun c =>
    { c with contactTimer := countDown c.contactTimer, joinTimer := countDown c.joinTimer }).modLine fun p =>
    { p with clashTimer := countDown p.clashTimer, beaconTimer := countDown p.beaconTimer }).modPeers fun t =>
    { t with entries := t.entries.map fun e => { e with silence := countDown e.silence } }).modBell fun b =>
    { b with arbiter := b.arbiter.map fun x => { x with left := x.left - 1 } }).modWatch fun w =>
    if s.station.serving then
      { w with rules := w.rules.map fun r => { r with first := r.first.map fun f => { f with left := f.left - 1 } } }
    else w

/-- The slew tick due with the last sixteenth of a second (R76): +1, −1 or none. None is taken while END is set or once
the clock has reached the end of range, and none that would pass it (R77). -/
def Clock.slewTick (c : Clock) : Int :=
  if c.endMark ∨ endOfRange ≤ c.time then 0
  else if 0 < c.remainder then (if c.time + 1 < endOfRange then 1 else 0)
  else if c.remainder < 0 then -1
  else 0

/-- The clock with one more sixteenth of a second counted (R76): one tick, and with the last sixteenth of the second the
slew tick. Counting stops at the end of range (R77). -/
def Clock.count (c : Clock) : Clock :=
  let tick := if c.endMark ∨ endOfRange ≤ c.time then 0 else 1
  if c.sixteenth < 15 then
    { c with time := c.time + tick, sixteenth := c.sixteenth + 1, realTime := c.realTime + 1 }
  else
    { c with
      time := ((c.time : Int) + tick + c.slewTick).toNat
      remainder := c.remainder - c.slewTick
      sixteenth := 0
      realTime := c.realTime + 1 }

/-- One sixteenth of a second of real time: the timers run, the clock counts, and a slew tick corrects the stored offsets
at once (R76, R81). -/
def State.sixteenth (s : State) : State :=
  let counted := s.countTimers.modClock Clock.count
  if s.clock.sixteenth < 15 then counted
  else if s.clock.slewTick = 0 then counted
  else counted.correctOffsets s.clock.slewTick

/-- A number of sixteenths of a second. -/
def State.sixteenthTimes (s : State) : Nat → State
  | 0 => s
  | n + 1 => s.sixteenth.sixteenthTimes n

/-- The rest of the running second, of which a whole second is the usual case (R76). -/
def State.countSecond (s : State) : State :=
  (s.modClock fun c => { c with countedFrom := c.time }).sixteenthTimes (16 - s.clock.sixteenth)

/-! ## Steps (R85, R86) -/

/-- The plant time a step to `target` reaches: it stops at 0 and at the end of range (R85). -/
def stepTarget (target : Int) : Nat := (max 0 (min (endOfRange : Int) target)).toNat

/-- The END mark after a step, with the detection or the clearing condition it brings (R77). -/
def State.markEnd (s : State) : State :=
  if s.clock.time = endOfRange then
    if s.clock.endMark then s
    else (s.modClock fun c => { c with endMark := true, endFrom := c.realTime }).detectClock .endOfTime
  else if s.clock.endMark then (s.modClock fun c => { c with endMark := false }).clearClock .endOfTime
  else s

/-- A step of plant time to a target (R85): the remainder is dropped, END is set or cleared, and after READY the step is
handed to the pay unit and the bell unit (R86). The stored offsets are the caller's to correct or clear (R81). DESIGN CHOICE
(assumption 34): the order in one step, which R86 and R99 leave open, is the END mark with its detection or clearing, the
pay rolls, the bell catch-up, and then the offsets and the incident of the caller. -/
def State.stepTo (s : State) (target : Int) : State :=
  let t1 := stepTarget target
  let moved := (s.modClock fun c => { c with time := t1, remainder := 0, countedFrom := t1 }).markEnd
  if s.station = .setup then moved else moved.takeRolls.catchUp s.clock.time t1

/-- The amount a step to a target changes plant time by (R85). -/
def State.stepAmount (s : State) (target : Int) : Int := (stepTarget target : Int) - (s.clock.time : Int)

/-- An own change of era (R89, R90): a step to a target, the era raised, every stored offset cleared, an ERA_CHANGE
incident with no peer, and a beacon placed at once. -/
def State.changeEra (s : State) (target : Int) : State :=
  ((((s.stepTo target).modClock fun c => { c with era := c.era + 1 }).clearOffsets).recordIncident .eraChange
    (detail := some (stepDetail (s.stepAmount target)))).placeBeacon

/-! ## The agreement (R82 to R84) -/

/-- A peer's offset when it contributes to an agreement (R82). -/
def State.contribution (s : State) (e : PeerEntry) : Option Int :=
  match e.offset with
  | none => none
  | some o =>
    if e.state = .heard ∧ e.era = some s.clock.era ∧
        s.clock.realTime ≤ o.takenAt + 2 * sixteenths s.sw3.beaconInterval then some o.ticks
    else none

/-- The offsets of the contributors (R82). -/
def State.contributors (s : State) : List Int := s.peers.entries.filterMap s.contribution

/-- A number put in its place in an ascending list. -/
def insertInt (x : Int) : List Int → List Int
  | [] => [x]
  | y :: ys => if x ≤ y then x :: y :: ys else y :: insertInt x ys

/-- A list of numbers in ascending order. -/
def sortInts : List Int → List Int
  | [] => []
  | x :: xs => insertInt x (sortInts xs)

/-- The median of an ascending list: the middle element, or the mean of the two middle elements truncated toward zero
(R82). -/
def medianOf (xs : List Int) : Int :=
  let n := xs.length
  if n % 2 = 1 then xs.getD ((n - 1) / 2) 0
  else (xs.getD (n / 2 - 1) 0 + xs.getD (n / 2) 0).tdiv 2

/-- The median of the own clock and the contributors (R82). -/
def State.median (s : State) : Int := medianOf (sortInts (0 :: s.contributors))

/-- The action of an agreement (R83): a step needs `needed` contributors. -/
def State.agreementAction (s : State) (needed : Nat) : AgreementAction :=
  if s.median.natAbs ≤ s.sw4.stepThreshold then .slew
  else if needed ≤ s.contributors.length then .step
  else .clampTo

/-- An agreement taken (R83): `needed` is 2, and 1 at the end of JOIN (R84). DESIGN CHOICE (assumption 38): with END set a SLEW
or a CLAMP replaces the remainder too, as R76 and R83 say of each agreement; R77 leaves it as it stands for counting. -/
def State.takeAgreement (s : State) (needed : Nat) : State :=
  let record : Agreement :=
    { time := s.clock.time, contributors := s.contributors.length, median := s.median,
      action := s.agreementAction needed }
  let target := (s.clock.time : Int) + s.median
  let acted :=
    match s.agreementAction needed with
    | .slew => s.modClock fun c => { c with remainder := s.median }
    | .clampTo =>
      s.modClock fun c =>
        { c with remainder := if 0 < s.median then (s.sw4.stepThreshold : Int) else -(s.sw4.stepThreshold : Int) }
    | .step =>
      ((s.stepTo target).correctOffsets (s.stepAmount target)).recordIncident .clockStep
        (detail := some (stepDetail (s.stepAmount target)))
  acted.modClock fun c => { c with agreement := some record }

end Sys2Proof.Machine
end

