-- ==== Sys2Proof/Machine/LineOps.lean ====
section
/-! DEFINITION. The line port and the peer table: frames heard (R114, R115, R130), sequence numbers (R132 to R134), beacons
(R135, R80, R87, R88), cues (R101), CLEAR and ALL CLEAR (R164, R166), and the sending of the outgoing set (R119 to R124). -/

namespace Sys2Proof.Machine

/-! ## Frames heard (R109, R113, R114, R130) -/

/-- The source station of a frame (R110). -/
def frameSource : Frame → Station
  | .punch f => f.source
  | .beacon f => f.source
  | .bellCue f => f.source
  | .clear f => f.source
  | .allClear p => p

/-- The one check of R113 that the fields of a `Frame` do not already make: a PUNCH carries a badge number. -/
def frameValid : Frame → Bool
  | .punch f => isBadge f.badge.toNat
  | _ => true

/-- The receiver takes frames in JOIN, LIVE, HELD and EVACUATE, but not while the own transmitter sends (R109, R114). -/
def State.listening (s : State) : Bool := s.station.serving && s.line.sending.isNone

/-- The silence limit in sixteenths of real time (R174). -/
def State.silenceLimit (s : State) : Nat := sixteenths s.sw3.silenceLimit

/-- A line error counted (R112, R113, R125). -/
def State.countLineError (s : State) : State := s.modLine fun p => { p with errors := satAdd max16 p.errors 1 }

/-- A number clash (R114). -/
def State.clash (s : State) : State :=
  (s.modLine fun p =>
    { p with clashes := satAdd max16 p.clashes 1, clashTimer := some s.silenceLimit }).detectLine .clash

/-- A peer marked as heard (R130). -/
def State.hear (s : State) (p : Station) : State :=
  s.modPeer p fun e => { e with state := .heard, lastFrame := some s.clock.time, silence := some s.silenceLimit }

/-- A frame as the receiver takes it: with a field that R113 refuses it is a line error; with the own number it is a number
clash; any other is from a peer, which is marked as heard before its kind is taken (R113, R114, R115). -/
def State.takeFrame (s : State) (f : Frame) (kind : State → State) : State :=
  if s.listening then
    if frameValid f then
      if frameSource f = s.ownStation then s.clash else kind (s.hear (frameSource f))
    else s.countLineError
  else s

/-! ## Punch sequence numbers (R132, R133, R134) -/

/-- The sequence number of a PUNCH frame taken by the peer table (R132). -/
def State.trackPunch (s : State) (p : Station) (seq : BitVec 8) : State :=
  match (s.peer p).expected with
  | none => s.modPeer p fun x => { x with expected := some (seq + 1) }
  | some e =>
    if seq = e then s.modPeer p fun x => { x with expected := some (seq + 1) }
    else if aheadOf seq e then
      (s.modPeer p fun x =>
        { x with gap := satAdd max8 x.gap (seq - e).toNat, expected := some (seq + 1) }).openDoubt .punchGap (some p)
    else s.modPeer p fun x => { x with late := satAdd max8 x.late 1 }

/-- The next punch sequence number of a BEACON frame taken by the peer table (R133). -/
def State.trackBeacon (s : State) (p : Station) (n : BitVec 8) : State :=
  match (s.peer p).expected with
  | none => s.modPeer p fun x => { x with expected := some n }
  | some e =>
    if aheadOf n e then
      (s.modPeer p fun x =>
        { x with gap := satAdd max8 x.gap (n - e).toNat, expected := some n }).openDoubt .beaconGap (some p)
    else s

/-- The FRESH mark of a beacon (R134). -/
def State.takeFresh (s : State) (p : Station) (n : BitVec 8) : State :=
  (s.modPeer p fun x => { x with expected := some n }).openDoubt .fresh (some p)

/-! ## PUNCH (R115, R10, R55, R141) -/

/-- The direction a punch is applied with: OUT for an EVAC punch (R10, R55). -/
def punchDirection (f : PunchFrame) : Direction :=
  match f.outcome with
  | .passed => f.direction
  | .evac => .dirOut

/-- The PEER_PUNCH event of a PUNCH frame (R141). -/
def State.peerEvent (s : State) (f : PunchFrame) : LaneEvent :=
  { kind := .peerPunch, time := s.clock.time, lane := .peer, badge := some f.badge.toNat, reason := none,
    readTime := none, source := some f.source, direction := some f.direction, outcome := some f.outcome }

/-- A PUNCH frame from a peer handed on: sequence number, presence, pay, watch unit (R115). -/
def State.takePunch (s : State) (f : PunchFrame) : State :=
  let badge := f.badge.toNat
  let p : PayPunch :=
    { direction := punchDirection f, time := f.time.toNat, era := f.era, source := f.source, flagged := false,
      evac := decide (f.outcome = .evac) }
  let present := (s.trackPunch f.source f.seq).applyPresence badge (punchDirection f) f.time.toNat (some f.source)
  ((present.handPay badge p).hand (s.peerEvent f)).settleEvents

/-! ## BEACON (R135, R80, R87, R88) -/

/-- The plant time a beacon gives at its taking: its own with the line latency (R80). -/
def State.beaconTarget (s : State) (f : BeaconFrame) : Int := ((f.time.toNat + s.sw3.latency : Nat) : Int)

/-- An offset stored in a peer's entry, with the real time of its taking (R80). -/
def State.storeOffset (s : State) (p : Station) (ticks : Int) : State :=
  s.modPeer p fun e => { e with offset := some { ticks, takenAt := s.clock.realTime } }

/-- An era adopted from a beacon (R88). -/
def State.adoptEra (s : State) (f : BeaconFrame) : State :=
  let target := s.beaconTarget f
  let stepped := (s.stepTo target).modClock fun c => { c with era := f.era, remainder := 0 }
  (stepped.clearOffsets.storeOffset f.source (target - stepped.clock.time)).recordIncident .eraChange
    (peer := some f.source) (detail := some (stepDetail (s.stepAmount target)))

/-- A peer's stored offset cleared to absent. -/
def State.clearOffset (s : State) (p : Station) : State := s.modPeer p fun e => { e with offset := none }

/-- A beacon taken by the plant clock (R80, R87): an equal era stores the offset, an era ahead is adopted, and a peer behind in
era, or 128 apart, keeps no offset (R135). -/
def State.clockBeacon (s : State) (f : BeaconFrame) : State :=
  if f.era = s.clock.era then s.storeOffset f.source (s.beaconTarget f - s.clock.time)
  else if aheadOf f.era s.clock.era then s.adoptEra f
  else s.clearOffset f.source

/-- A beacon's fields recorded in its peer's entry, with the behind-era count (R135 steps 1 and 2). -/
def State.recordBeacon (s : State) (f : BeaconFrame) : State :=
  s.modPeer f.source fun e =>
    { e with
      reported := some f.state
      reportedIsolated := f.isolated
      era := some f.era
      behindEra :=
        if f.era = s.clock.era ∨ aheadOf f.era s.clock.era = true then e.behindEra else satAdd max8 e.behindEra 1 }

/-- A BEACON frame from a peer (R135). -/
def State.takeBeacon (s : State) (f : BeaconFrame) : State :=
  let recorded := s.recordBeacon f
  let fresh := if f.fresh then recorded.takeFresh f.source f.next else recorded
  (fresh.trackBeacon f.source f.next).clockBeacon f

/-! ## BELL CUE (R101) -/

/-- A cue for an entry and a bell day judged by the bell unit (R101). -/
def State.judgeCue (s : State) (e : Fin 48) (day : Nat) (source : Station) : State :=
  let x := s.bellEntry e
  let adv := s.sw4.bellAdvance
  if day = bellDay adv s.clock.time ∧ x.due s.sw0.weekday day = true then
    if bellTime adv s.clock.time + s.sw4.cueWindow * ticksPerSecond < ringBellTime x day then
      s.modBell fun b => { b with earlyCue := satAdd max16 b.earlyCue 1 }
    else if s.station = .evacuate then s.passSuppressed e day (.cue source)
    else s.rung e day (.cue source)
  else s

/-- A BELL CUE frame from a peer; an entry number above 47 is ignored (R101). -/
def State.takeCue (s : State) (f : CueFrame) : State :=
  if h : f.entry.toNat < 48 then s.judgeCue ⟨f.entry.toNat, h⟩ f.day.toNat f.source else s

/-! ## CLEAR and ALL CLEAR (R164, R166) -/

/-- A CLEAR frame from a peer (R164). -/
def State.takeClear (s : State) (f : ClearFrame) : State :=
  match s.station with
  | .live | .held => (s.enterEvacuate (.frame f.source f.reason)).settleEvents
  | .join =>
    s.modControl fun c =>
      match c.pendingEvac with
      | some { clearMark := true, .. } => c
      | _ => { c with pendingEvac := some { reason := .frame f.source f.reason, clearMark := false } }
  | _ => s

/-- An ALL CLEAR frame from a peer (R166). -/
def State.takeAllClear (s : State) (source : Station) : State :=
  match s.station with
  | .evacuate =>
    if s.control.contact then s.placeEvac (.clear .relay)
    else ((s.leaveEvacuate (some source)).removeEvac fun f => decide (f ≠ .allClear)).settleEvents
  | .join => s.modControl fun c => { c with pendingEvac := none }
  | _ => s

/-! ## Sending (R119 to R124) -/

/-- The first place of the outgoing set that offers a frame (R119). -/
def State.selection (s : State) : Option InHand :=
  match s.line.evac, s.line.cues, s.journal.entries, s.line.beacon with
  | some e, _, _, _ => some { kind := e.frame.kind, tag := e.tag }
  | none, c :: _, _, _ => some { kind := .bellCue, tag := c.tag }
  | none, [], j :: _, _ => some { kind := .punch, tag := j.tag }
  | none, [], [], some t => some { kind := .beacon, tag := t }
  | none, [], [], none => none

/-- The slots of a deferral (R120). -/
def deferralSlots (station attempt : Nat) : Nat := (station + 5 * attempt) % 16 + 1

/-- The station state as a BEACON frame carries it (R110). -/
def beaconStateOfStation : StationState → BeaconState
  | .held => .held
  | .evacuate => .evacuate
  | _ => .live

/-- The PUNCH frame of a journal entry (R110, R126). -/
def State.punchFrame (s : State) (j : JournalEntry) : PunchFrame :=
  { source := s.ownStation, seq := j.seq, badge := BitVec.ofNat 24 j.badge, lane := j.lane, direction := j.direction,
    outcome := j.outcome, time := BitVec.ofNat 32 j.time, era := j.era }

/-- The BEACON frame that would be sent now (R118, R92). -/
def State.beaconFrame (s : State) : BeaconFrame :=
  { source := s.ownStation, state := beaconStateOfStation s.station, fresh := s.line.fresh,
    isolated := s.peers.isolated, era := s.clock.era, time := BitVec.ofNat 32 s.clock.time, next := s.journal.next }

/-- What the evac slot holds, as a frame (R110). -/
def State.evacFrame (s : State) : EvacFrame → Frame
  | .clear r => .clear { source := s.ownStation, reason := r }
  | .allClear => .allClear s.ownStation

/-- A cue of the list, as a frame (R110). -/
def State.cueFrame (s : State) (c : Cue) : Frame :=
  .bellCue { source := s.ownStation, entry := BitVec.ofNat 8 c.entry.val, day := BitVec.ofNat 16 c.day }

/-- The frame in hand, when it still stands in its place (R117, R119). -/
def State.frameInHand (s : State) (h : InHand) : Option Frame :=
  match h.kind with
  | .clear | .allClear => (s.line.evac.filter fun e => decide (e.tag = h.tag)).map fun e => s.evacFrame e.frame
  | .bellCue => (s.line.cues.find? fun c => decide (c.tag = h.tag)).map s.cueFrame
  | .punch => (s.journal.entries.find? fun j => decide (j.tag = h.tag)).map fun j => .punch (s.punchFrame j)
  | .beacon => (s.line.beacon.filter fun t => decide (t = h.tag)).map fun _ => .beacon s.beaconFrame

/-- A frame that leaves its place if it is still there unchanged (R122). -/
def State.leavePlace (s : State) (h : InHand) : State :=
  match h.kind with
  | .clear | .allClear => s.modLine fun p => { p with evac := p.evac.filter fun e => decide (e.tag ≠ h.tag) }
  | .bellCue => s.modLine fun p => { p with cues := p.cues.filter fun c => decide (c.tag ≠ h.tag) }
  | .punch => s.modJournal fun j => j.remove h.tag
  | .beacon => s.modLine fun p => { p with beacon := p.beacon.filter fun t => decide (t ≠ h.tag) }

/-- A frame was a BEACON carrying the FRESH mark (R118). -/
def carriesFresh : Frame → Bool
  | .beacon f => f.fresh
  | _ => false

/-- A frame sent whole (R122, R124). -/
def State.sentWhole (s : State) (x : Sending) : State :=
  (((s.leavePlace x.hand).modLine fun p =>
    { p with
      inHand := none
      sending := none
      attempt := 0
      drops := 0
      fresh := p.fresh && !carriesFresh x.frame }).modPeers fun t => { t with isolated := false }).clearLine .isolated

/-- The consecutive drops after one more (R124). -/
def dropsAfter (n : Nat) : Nat := satAdd 3 n 1

/-- A frame dropped at the retry limit (R122, R124, R139): the third consecutive drop opens doubt and then sets the isolated
mark, and every drop from the third on hands a LINE detection. -/
def State.dropFrame (s : State) (x : Sending) : State :=
  let dropped := (s.leavePlace x.hand).modLine fun p =>
    { p with
      inHand := none
      attempt := 0
      dropped := satAdd max16 p.dropped 1
      drops := dropsAfter p.drops }
  if dropped.line.drops < 3 then dropped
  else if s.peers.isolated then dropped.detectLine .isolated
  else ((dropped.openDoubt .isolated none).modPeers fun t => { t with isolated := true }).detectLine .isolated

/-- A collision (R122). -/
def State.collide (s : State) (x : Sending) : State :=
  let cut := s.modLine fun p => { p with sending := none, collisions := satAdd max16 p.collisions 1 }
  if s.line.attempt < 15 then cut.modLine fun p => { p with attempt := p.attempt + 1 } else cut.dropFrame x

end Sys2Proof.Machine
end

