-- ==== Sys2Proof/Machine/ClockEvents.lean ====
section
/-! DEFINITION. The events of plant time and of the bell: CLOCK_SECOND (R76), the end of range (R77), the oscillator (R78),
RING_INSTANT (R97), DAY_ROLL (R69, R70), DOUBT_END (R137), the phases of a pattern (R103), BEACON_TIME (R118, R82) and
END_OF_JOIN (R179). -/

namespace Sys2Proof.Machine

/-- CLOCK_SECOND: the rest of the running second passes (R76). -/
def execClockSecond (s : State) : Host.Outcome State Fault Refusal := .next (s.event State.countSecond)

/-- CLOCK_END_REACHED (R77). -/
def execClockEndReached (s : State) : Host.Outcome State Fault Refusal :=
  .next (s.event fun x =>
    if x.clock.time = endOfRange ∧ x.clock.endMark = false then
      (x.modClock fun c => { c with endMark := true, endFrom := c.realTime }).detectClock .endOfTime
    else x)

/-- END_HOLD_SECOND (R77). -/
def execEndHoldSecond (s : State) : Host.Outcome State Fault Refusal :=
  .next (s.event fun x => if x.clock.endMark then x.detectClock .endOfTime else x)

/-- OSCILLATOR_STOP (R78): DEGRADED is set and an OSC detection is handed. In HOLDOVER the clock counts on the backup
oscillator whatever the main one does (R91). -/
def execOscillatorStop (s : State) : Host.Outcome State Fault Refusal :=
  .next (s.event fun x =>
    if x.station = .holdover ∨ x.clock.degraded = true then x
    else (x.modClock fun c => { c with degraded := true, oscFrom := c.realTime }).detectClock .osc)

/-- DEGRADED_SECOND (R78); none is handed in HOLDOVER (R91). -/
def execDegradedSecond (s : State) : Host.Outcome State Fault Refusal :=
  .next (s.event fun x => if x.clock.degraded = true ∧ x.station ≠ .holdover then x.detectClock .osc else x)

/-- The bell day whose ring instant the latest counting reached for an entry (R96, R97). -/
def State.instantReached (s : State) (e : Fin 48) : Option Nat :=
  instantBetween s.sw4.bellAdvance (s.bellEntry e) s.clock.countedFrom s.clock.time

/-- RING_INSTANT: an entry whose instant counting has reached is taken when it is due (R97). -/
def execRingInstant (e : Fin 48) (s : State) : Host.Outcome State Fault Refusal :=
  .next (s.event fun x =>
    match x.instantReached e with
    | none => x
    | some d => if (x.bellEntry e).due x.sw0.weekday d then x.takeInstant e d .clock else x)

/-- DAY_ROLL: the rolls due are taken (R69, R70). -/
def execDayRoll (s : State) : Host.Outcome State Fault Refusal := .next (s.event State.takeRolls)

/-- DOUBT_END: counting brings plant time to the deadline. Whether doubt is active is computed from plant time, the deadline
and the isolated mark (`State.doubtActive`), so nothing is left to write (R137). -/
def execDoubtEnd (s : State) : Host.Outcome State Fault Refusal := .next s

/-! ## The sounding pattern (R103) -/

/-- The repeat in progress is the last one of the claim (R103). -/
def Sounding.lastRepeat (x : Sounding) (p : Pattern) : Bool :=
  match repeatsOf x.rank p with
  | none => false
  | some n => decide (n ≤ x.repeatNo)

/-- The phase in progress ends the period: an off phase, or an on phase as long as the period (R103). -/
def Sounding.endsPeriod (x : Sounding) (p : Pattern) : Bool := !x.on || decide (p.period ≤ p.on)

/-- The claim after a phase that is not its last: the output turns off for the rest of the period, or the next repeat
begins with the output on (R103). DESIGN CHOICE (assumption 45): the repeat in progress of a claim without end is counted with
no top. -/
def Sounding.nextPhase (x : Sounding) (p : Pattern) : Sounding :=
  if x.endsPeriod p then { x with repeatNo := x.repeatNo + 1, on := true, left := p.on }
  else { x with on := false, left := p.period - p.on }

/-- PATTERN_PHASE_END (R103); the end of the last period is PATTERN_COMPLETE. -/
def execPatternPhaseEnd (s : State) : Host.Outcome State Fault Refusal :=
  .next (s.event fun x =>
    match x.bell.arbiter with
    | none => x
    | some y =>
      if y.endsPeriod (x.pattern y.pattern) && y.lastRepeat (x.pattern y.pattern) then x
      else x.modBell fun b => { b with arbiter := some (y.nextPhase (x.pattern y.pattern)) })

/-- PATTERN_COMPLETE: the last repeat's period ends and the arbiter returns to IDLE (R103). -/
def execPatternComplete (s : State) : Host.Outcome State Fault Refusal :=
  .next (s.event fun x =>
    match x.bell.arbiter with
    | none => x
    | some y =>
      if y.endsPeriod (x.pattern y.pattern) && y.lastRepeat (x.pattern y.pattern) then x.silence else x)

/-! ## Beacon time and the end of JOIN -/

/-- The beacon interval timer started (R118). -/
def State.startBeaconTimer (s : State) : State :=
  s.modLine fun p => { p with beaconTimer := some (sixteenths s.sw3.beaconInterval) }

/-- BEACON_TIME (R118, R82, R83). -/
def execBeaconTime (s : State) : Host.Outcome State Fault Refusal :=
  .next (s.event fun x =>
    if x.station.sending = true ∧ x.line.beaconTimer.isSome = true then
      x.placeBeacon.startBeaconTimer.takeAgreement 2
    else x)

/-- The reason of an evacuation as its CLEAR carries it (R169). -/
def clearReasonOfEvac : EvacReason → ClearReason
  | .input => .input
  | .watch => .watch
  | .terminal => .terminal
  | .frame _ r => r

/-- An entry into EVACUATE at the end of JOIN, with the CLEAR that R169 gives. -/
def State.joinEvacuation (s : State) (reason : EvacReason) (clear : Bool) : State :=
  let entered := s.enterEvacuate reason
  if clear then entered.placeEvac (.clear (clearReasonOfEvac reason)) else entered

/-- The lanes at the end of JOIN outside an evacuation (R179 step 3). -/
def State.joinLane (s : State) (l : Lane) : State :=
  if (s.lane l).kind = .off then s
  else if s.laneFaulted l then s.enterFault l
  else s.reachHold l

/-- The state entered at the end of JOIN, with its lanes (R169, R179 steps 2 and 3). -/
def State.joinState (s : State) : State :=
  let taken := s.modControl fun c => { c with pendingEvac := none, joinTimer := none }
  if s.control.contact then taken.joinEvacuation .input true
  else
    match s.control.pendingEvac with
    | some p => taken.joinEvacuation p.reason p.clearMark
    | none =>
      let entered := taken.modControl fun c => { c with station := if c.stationReasons.isEmpty then .live else .held }
      (Lane.all.foldl (fun s l => s.joinLane l) entered).refreshDrives

/-- JOIN ended, in the order of R179. -/
def State.endJoin (s : State) : State :=
  ((s.takeAgreement 1).joinState.placeBeacon.startBeaconTimer.openDoubt .liveEntry none).settleEvents

/-- END_OF_JOIN (R179). -/
def execEndOfJoin (s : State) : Host.Outcome State Fault Refusal :=
  .next (s.event fun x => if x.station = .join ∧ x.control.joinTimer.isSome = true then x.endJoin else x)

/-! ## Window and clash timers -/

/-- WINDOW_EXPIRY: a first record whose window runs out is cleared (R148). The windows stand still in HOLDOVER (R142). -/
def execWindowExpiry (r : RuleNo) (s : State) : Host.Outcome State Fault Refusal :=
  .next (s.event fun x => if x.station.serving then x.modRule r fun y => { y with first := none } else x)

end Sys2Proof.Machine
end

