-- ==== Sys2Proof/Machine/ControlCommands.lean ====
section
/-! DEFINITION. The control commands: HOLD and RESUME (R151, R153), ARM and DISARM (R145), PASSBACK MODE (R202), EVACUATE
(R163), ALL CLEAR (R165), SHIFT TIME (R89), and a command byte that names no command (R197). -/

namespace Sys2Proof.Machine

/-! ## HOLD and RESUME -/

/-- HOLD: A is 0 for the station and 1 to 4 for a lane (R151). -/
def execHold (a : BitVec 16) (s : State) : Host.Outcome State Fault Refusal :=
  .next (s.command (.hold a) { code := 0x60, a := some a } false .served fun x =>
    if a = 0 then (x.addStationReason .terminal).answer .done
    else
      match Lane.ofNumber a.toNat with
      | some l => (x.addLaneReason l .terminal).answer .done
      | none => x.answer .badValue)

/-- Every hold ended (R153): the reasons and the context are cleared, a sounding alarm stops, and a station in HELD enters
LIVE, each lane stopping being held (R39). In EVACUATE and JOIN the state stays. -/
def State.endHolds (s : State) : State :=
  let cleared := s.stopAlarm.modControl fun c =>
    { c with
      station := if c.station = .held then .live else c.station
      stationReasons := []
      laneReasons := .same []
      context := none }
  match s.station with
  | .join | .live | .held => Lane.all.foldl (fun s l => s.endHold l) cleared
  | _ => cleared

/-- RESUME (R153). -/
def execResume (s : State) : Host.Outcome State Fault Refusal :=
  .next (s.command .resume { code := 0x61 } false .served fun x => x.endHolds.answer .done)

/-! ## ARM and DISARM (R145) -/

/-- ARM (R145). -/
def execArm (a : BitVec 16) (s : State) : Host.Outcome State Fault Refusal :=
  .next (s.command (.arm a) { code := 0x62, a := some a } false .served fun x =>
    match RuleNo.ofNumber a.toNat with
    | none => x.answer .badValue
    | some r =>
      (x.modRule r fun y => { y with armed := true, counter := y.count - 1, first := none }).answer .done)

/-- DISARM (R145). -/
def execDisarm (a : BitVec 16) (s : State) : Host.Outcome State Fault Refusal :=
  .next (s.command (.disarm a) { code := 0x63, a := some a } false .served fun x =>
    match RuleNo.ofNumber a.toNat with
    | none => x.answer .badValue
    | some r => (x.modRule r fun y => { y with armed := false, first := none }).answer .done)

/-! ## PASSBACK MODE (R202) -/

/-- PASSBACK MODE: A is 0 for FOLLOW and 1 for FORCE_SOFT (R202). -/
def execPassbackMode (a : BitVec 16) (s : State) : Host.Outcome State Fault Refusal :=
  .next (s.command (.passbackMode a) { code := 0x64, a := some a } false .served fun x =>
    if a = 0 then (x.modControl fun c => { c with override := .follow }).answer .done
    else if a = 1 then (x.modControl fun c => { c with override := .forceSoft }).answer .done
    else x.answer .badValue)

/-! ## EVACUATE and ALL CLEAR -/

/-- The EVACUATE command's effect by the station state (R163): an entry, or a fresh CLEAR while evacuating. -/
def State.terminalEvacuate (s : State) : State :=
  if s.station = .evacuate then s.placeEvac (.clear .terminal)
  else ((s.enterEvacuate .terminal).placeEvac (.clear .terminal)).settleEvents

/-- EVACUATE (R163). -/
def execEvacuate (s : State) : Host.Outcome State Fault Refusal :=
  .next (s.command .evacuate { code := 0x65 } false .sending fun x => x.terminalEvacuate.answer .done)

/-- ALL CLEAR (R165). -/
def execAllClear (s : State) : Host.Outcome State Fault Refusal :=
  .next (s.command .allClear { code := 0x66 } false .served fun x =>
    if x.station ≠ .evacuate then x.answer .notInState
    else if x.control.contact then x.answer .inputActive
    else (((x.leaveEvacuate none).placeEvac .allClear).settleEvents).answer .done)

/-! ## SHIFT TIME (R89) -/

/-- SHIFT TIME: parameter A is a signed number of minutes (R89, R203). -/
def execShiftTime (a : BitVec 16) (s : State) : Host.Outcome State Fault Refusal :=
  .next (s.command (.shiftTime a) { code := 0x67, a := some a } false .sending fun x =>
    if -180 ≤ a.toInt ∧ a.toInt ≤ 180 then
      (x.changeEra ((x.clock.time : Int) + a.toInt * (ticksPerMinute : Int))).answer .done
    else x.answer .badValue)

/-! ## A command byte that names no command (R197) -/

/-- UNKNOWN_COMMAND: a GO write whose command byte names no command (R197); a byte that names one is its own command. -/
def execUnknownCommand (code : Byte) (s : State) : Host.Outcome State Fault Refusal :=
  .next (if commandCodes.contains code then s
    else s.command (.unknownCommand code) { code } false .anyState fun x => x.answer .unknownCommand)

end Sys2Proof.Machine
end

