-- ==== Sys2Proof/Machine/Admission.lean ====
section
/-! DEFINITION. The admission unit's verdict (R25 to R27) and what the lane unit does with a good read (R22, R28 to R30,
R36, R42). -/

namespace Sys2Proof.Machine

/-- A verdict (R25). -/
inductive Verdict | refuse (r : Reason) | evacAdmit | admitted | flagged
  deriving DecidableEq, Repr

/-! ## The verdict -/

/-- A read time lies inside the entry window of a class with hours (R26). -/
def insideWindow (c : ShiftClass) (roll : Nat) (hours : Nat × Nat) (time : Nat) : Bool :=
  let m := payTicks roll (payDay roll time) time
  let low := minuteTicks (shiftStart roll hours.1 - c.lead)
  let high := minuteTicks (shiftEnd roll hours.1 hours.2)
  [m, m - ticksPerDay, m + ticksPerDay].any fun x => decide (low ≤ x ∧ x ≤ high)

/-- A read on an IN lane is off shift (R25 row 7, R26); a class without hours is open. -/
def State.offShift (s : State) (l : Lane) (e : BadgeEntry) : Bool :=
  let c := s.pay.shiftClass e.cls
  match c.hours with
  | none => false
  | some h => decide ((s.sw1 l).direction = .dirIn) && !insideWindow c s.dayRollMinute h s.clock.time

/-- The badge has expired (R25 row 6). -/
def State.expired (s : State) (e : BadgeEntry) : Bool :=
  match e.expiry with
  | none => false
  | some d => decide (d < s.pay.today)

/-- Passback is found (R27). -/
def State.passbackFound (s : State) (l : Lane) (e : BadgeEntry) : Bool :=
  decide (e.mode ≠ .modeNone) && decide (e.presence.state = presenceOf (s.sw1 l).direction)

/-- The passback result is REFUSE; otherwise it is FLAG (R27). -/
def State.passbackRefuses (s : State) (e : BadgeEntry) : Bool :=
  decide (e.mode = .strict) && !s.doubtActive && decide (s.control.override = .follow)

/-- The verdict on a badge that the table holds, on a lane that is not held in LIVE (R25 rows 5 to 10). -/
def State.judgeEntry (s : State) (l : Lane) (e : BadgeEntry) : Verdict :=
  if e.status = .blocked then .refuse .blocked
  else if s.expired e then .refuse .expired
  else if s.offShift l e then .refuse .offShift
  else if s.passbackFound l e then (if s.passbackRefuses e then .refuse .passback else .flagged)
  else .admitted

/-- The verdict on a read of a badge on a lane, at the present plant time (R25). -/
def State.verdict (s : State) (l : Lane) (badge : Nat) : Verdict :=
  match s.station with
  | .setup | .join | .holdover => .refuse .notLive
  | .evacuate =>
    match (s.sw1 l).direction with
    | .dirIn => .refuse .evac
    | .dirOut => .evacAdmit
  | .live | .held =>
    if s.laneHeld l then .refuse .held
    else
      match s.lookup badge with
      | none => .refuse .unknown
      | some e => s.judgeEntry l e

/-! ## The lane unit on a verdict -/

/-- The pending release of a read taken now (R29). -/
def State.newRelease (s : State) (badge : Nat) (flagged : Bool) : PendingRelease :=
  { badge, readTime := s.clock.time, flagged, rereadUntil := s.clock.realTime + sixteenths s.sw2.reread }

/-- An admission acted on by the lane's state: the release in force closes UNUSED, and the new one runs, or waits behind an
open door (R28, R29, R30, R36). -/
def State.grant (s : State) (l : Lane) (badge : Nat) (flagged : Bool) : State :=
  match (s.lane l).state with
  | .idle | .released =>
    ((s.dropRelease l).modLane l fun u =>
      { u with
        state := .released
        release := some (s.newRelease badge flagged)
        releaseTimer := some (s.releaseTime l) }).refreshDrive l
  | .opened =>
    (s.dropRelease l).modLane l fun u =>
      { u with release := some (s.newRelease badge flagged), releaseTimer := none }
  | .off | .held | .fault => s

/-- An evacuation read written (R42). -/
def State.evacuationRead (s : State) (l : Lane) (badge : Nat) : State :=
  s.modLane l fun u => { u with evacRead := some { badge, readTime := s.clock.time, left := s.releaseTime l } }

/-- A verdict acted on, with its lane event (R28, R42, R46). -/
def State.actOn (s : State) (l : Lane) (badge : Nat) : Verdict → State
  | .refuse r => s.hand (s.laneEvent .refuse l (badge := some badge) (reason := some r))
  | .evacAdmit =>
    (s.evacuationRead l badge).hand (s.laneEvent .admitted l (badge := some badge) (reason := some .evac))
  | .admitted => (s.grant l badge false).hand (s.laneEvent .admitted l (badge := some badge))
  | .flagged =>
    (s.grant l badge true).hand (s.laneEvent .flagged l (badge := some badge) (reason := some .passback))

/-- A read is a repeat of the badge of the pending release, within the re-read window (R22, R30). -/
def State.isRepeat (s : State) (l : Lane) (badge : Nat) : Bool :=
  match (s.lane l).release with
  | none => false
  | some p => decide (p.badge = badge) && decide (s.clock.realTime < p.rereadUntil)

/-- A good read dispatched by the state of its lane and of the station (R22). -/
def State.dispatchRead (s : State) (l : Lane) (badge : Nat) : State :=
  if (s.lane l).state = .fault ∧ s.station ≠ .evacuate then s.actOn l badge (.refuse .fault)
  else if s.isRepeat l badge then s.modLane l fun u => { u with repeats := satAdd max16 u.repeats 1 }
  else s.actOn l badge (s.verdict l badge)

end Sys2Proof.Machine
end

