-- ==== Sys2Proof/Machine/SupplyOps.lean ====
section
/-! DEFINITION. The supply monitor (R180, R181): what it takes from the levels of the supply senses, and what it has to
report. The delays are counted in sixteenths of real time; the failure delay of 20 ms is held as one sixteenth
(assumption 24). -/

namespace Sys2Proof.Machine

/-- The failure delay (R180). -/
abbrev failureDelay : Nat := 1
/-- The return delay of 500 ms (R180). -/
abbrev returnDelay : Nat := 8

/-- The gate supply falls below its failure threshold or rises above it (R180): the failure delay starts or stops, and a
return delay stops with the fall. In HOLDOVER a failure does not arise (R181), and a fall with the backup supply low is a
backup loss. -/
def SupplyMonitor.gateChange (m : SupplyMonitor) (x : StationState) (backupLow low : Bool) : SupplyMonitor :=
  if low then
    { m with
      failing := if x = .holdover then none else some failureDelay
      returning := none
      loss := m.loss || (decide (x = .holdover) && backupLow) }
  else { m with failing := none }

/-- The gate supply rises above its return threshold or falls below it (R180): the return delay starts or stops. A return
does not arise in JOIN, LIVE, HELD and EVACUATE (R181). -/
def SupplyMonitor.returnChange (m : SupplyMonitor) (x : StationState) (good : Bool) : SupplyMonitor :=
  { m with returning := if good = true ∧ x.serving = false then some returnDelay else none }

/-- The backup supply falls below its threshold or rises above it (R180): a fall while the gate supply is below its failure
threshold is a backup loss. -/
def SupplyMonitor.backupChange (m : SupplyMonitor) (gateLow low : Bool) : SupplyMonitor :=
  { m with loss := m.loss || (gateLow && low) }

/-- The supply monitor at the entry into JOIN by READY (R180): with the gate supply below its failure threshold the failure
delay is counted afresh. -/
def SupplyMonitor.joinEntry (m : SupplyMonitor) (gateLow : Bool) : SupplyMonitor :=
  { m with failing := if gateLow then some failureDelay else none, returning := none }

/-- The supply monitor when a reset ends (R172, R180): it looks at the levels afresh. Both supplies below their thresholds are
a backup loss, and the gate supply alone starts the failure delay. -/
def SupplyMonitor.resetEnd (m : SupplyMonitor) (gateLow backupLow : Bool) : SupplyMonitor :=
  { m with failing := if gateLow then some failureDelay else none, returning := none, loss := gateLow && backupLow }

/-- The gate supply is back: above its failure threshold and its return threshold (R180). -/
def Inputs.gateBack (i : Inputs) : Bool := i.gateGood && !i.gateLow

/-- The supply monitor once the station has entered HOLDOVER or returned from it: no delay runs (R181). -/
def SupplyMonitor.reported (m : SupplyMonitor) : SupplyMonitor := { m with failing := none, returning := none }

end Sys2Proof.Machine
end

