-- ==== Sys2Proof/Machine/LaneEvents.lean ====
section
/-! DEFINITION. The events of the lanes: reader frames (R21), input levels and their edges (R18, R19, R161), sense checks
(R20), the lane timers (R32, R38, R42), and the evacuation contact (R161). -/

namespace Sys2Proof.Machine

/-- The inputs and the reader of a lane are watched (R17, R22, R44): the lane is fitted and the station is in JOIN, LIVE,
HELD or EVACUATE. -/
def State.watched (s : State) (l : Lane) : Bool := s.station.serving && decide ((s.lane l).kind ≠ .off)

/-! ## Reader frames (R21, R22) -/

/-- A bad reader frame (R21). -/
def State.badFrame (s : State) (l : Lane) : State :=
  (s.modLane l fun u => { u with readerErrors := satAdd max16 u.readerErrors 1 }).detectLane l .reader

/-- A good reader frame: it is the clearing condition of the lane's READER fault, and its read is then dispatched (R21,
R22). -/
def State.goodFrame (s : State) (l : Lane) (badge : Nat) : State := (s.clearLane l .reader).dispatchRead l badge

/-- A reader frame checked in the order of R21 and taken. -/
def State.takeReaderFrame (s : State) (l : Lane) (chars : List ReaderChar) : State :=
  match readReader chars with
  | none => s.badFrame l
  | some badge => s.goodFrame l badge

/-- READER_FRAME (R21). -/
def execReaderFrame (l : Lane) (chars : List ReaderChar) (s : State) : Host.Outcome State Fault Refusal :=
  .next (s.event fun x => if x.watched l then (x.takeReaderFrame l chars).settleEvents else x)

/-- READER_BREAK_SECOND: a whole second of break counts as one bad frame (R21). -/
def execReaderBreakSecond (l : Lane) (s : State) : Host.Outcome State Fault Refusal :=
  .next (s.event fun x => if x.watched l then (x.badFrame l).settleEvents else x)

/-! ## Raw levels (R18, R161) -/

/-- The debounce timer of an input after a change of its raw level (R18): with no debounced level yet the wait starts
afresh; otherwise it starts when the raw level differs, and stops when it returned. -/
def Debounced.rawChange (d : Debounced) (debounce : Nat) (level : Bool) : Debounced :=
  match d.level with
  | none => { d with timer := some debounce }
  | some x => { d with timer := if level = x then none else some debounce }

/-- The raw level of an input pin. -/
def Inputs.level (i : Inputs) : Input → Bool
  | .aux l => i.aux.get l
  | .sense l => i.sense.get l
  | .strap l => i.strap.get l
  | .contact => i.contact
  | .gateSupply => i.gateLow
  | .gateReturn => i.gateGood
  | .backupSupply => i.backupLow

/-- The input pins with the raw level of one changed. -/
def Inputs.setLevel (i : Inputs) (level : Bool) : Input → Inputs
  | .aux l => { i with aux := i.aux.set l level }
  | .sense l => { i with sense := i.sense.set l level }
  | .strap l => { i with strap := i.strap.set l level }
  | .contact => { i with contact := level }
  | .gateSupply => { i with gateLow := level }
  | .gateReturn => { i with gateGood := level }
  | .backupSupply => { i with backupLow := level }

/-- A change of a raw level as the debounce timer of its input takes it (R18, R161). A strap acts at READY and at a return
(R17), and a supply level is the supply monitor's (R180). -/
def State.followLevel (s : State) (level : Bool) : Input → State
  | .aux l =>
    if s.watched l then s.modLane l fun u => { u with aux := u.aux.rawChange s.sw2.debounce level } else s
  | .sense l =>
    if s.watched l then s.modLane l fun u => { u with sense := u.sense.rawChange s.sw2.debounce level } else s
  | .contact =>
    if s.station.serving then
      s.modControl fun c =>
        { c with
          contactTimer := if c.contactFound = true ∧ level = c.contact then none else some s.sw2.debounce }
    else s
  | .strap _ => s
  | .gateSupply => s.modSupply fun m => m.gateChange s.station s.inputs.backupLow level
  | .gateReturn => s.modSupply fun m => m.returnChange s.station level
  | .backupSupply => s.modSupply fun m => m.backupChange s.inputs.gateLow level

/-- INPUT_LEVEL_CHANGE (R18, R161); a level that is the same is no change. In reset the pins move, and no block takes
them. -/
def execInputLevelChange (i : Input) (level : Bool) (s : State) : Host.Outcome State Fault Refusal :=
  .next (if s.inputs.level i = level then s
    else (s.modInputs fun x => x.setLevel level i).event fun y => y.followLevel level i)

/-! ## Passages (R19, R31, R34, R40, R42) -/

/-- A passage that closes a running release PASSED (R31, R35). -/
def State.passed (s : State) (l : Lane) (p : PendingRelease) : State :=
  let closed := s.modLane l fun u => { u with release := none, releaseTimer := none }
  let moved :=
    if (s.lane l).kind = .door then closed.openDoor l true
    else (closed.modLane l fun u => { u with state := s.restState l }).refreshDrive l
  moved.ownPunch l p.badge (s.sw1 l).direction .passed p.flagged

/-- A forced passage (R34). -/
def State.forced (s : State) (l : Lane) : State :=
  let counted := (s.modLane l fun u => { u with forced := satAdd max16 u.forced 1 }).recordIncident .forced
    (lane := some l)
  let event := counted.hand (s.laneEvent .forced l)
  if (s.lane l).kind = .door then event.openDoor l false else event

/-- A passage in EVACUATE (R41, R42): with an evacuation read present it closes an EVAC punch, otherwise it is anonymous. A
door opening takes its lane to OPEN. -/
def State.evacPassage (s : State) (l : Lane) : State :=
  let moved := s.modLane l fun u => { u with state := if u.kind = .door then .opened else u.state }
  match (s.lane l).evacRead with
  | some r => (moved.modLane l fun u => { u with evacRead := none }).ownPunch l r.badge .dirOut .evac false
  | none => moved.modLane l fun u => { u with evacPassages := satAdd max16 u.evacPassages 1 }

/-- A passage taken by the station state and the lane state (R31, R34, R40, R42). -/
def State.passage (s : State) (l : Lane) : State :=
  if s.station = .evacuate then s.evacPassage l
  else
    match (s.lane l).state, (s.lane l).release with
    | .fault, _ => s.modLane l fun u => { u with openPassages := satAdd max16 u.openPassages 1 }
    | .released, some p => s.passed l p
    | .idle, _ | .held, _ => s.forced l
    | _, _ => s

/-! ## Door closings (R37, R40, R41) -/

/-- A lane that leaves OPEN at a closing (R37, R41): to IDLE in EVACUATE, to RELEASED when a release waits, and to rest
otherwise. -/
def State.closeDoor (s : State) (l : Lane) : State :=
  if s.station = .evacuate then s.modLane l fun u => { u with state := .idle, heldOpen := none }
  else
    match (s.lane l).release with
    | some _ =>
      (s.modLane l fun u =>
        { u with state := .released, heldOpen := none, releaseTimer := some (s.releaseTime l) }).refreshDrive l
    | none => (s.modLane l fun u => { u with state := s.restState l, heldOpen := none }).refreshDrive l

/-- A door closing: a lane in OPEN leaves it, and the closing is reported as the DOOR_HELD clearing condition in every lane
state (R37, R40, R188). -/
def State.doorClosing (s : State) (l : Lane) : State :=
  (if (s.lane l).state = .opened then s.closeDoor l else s).clearLane l .doorHeld

/-! ## Edges (R18, R19, R20, R188) -/

/-- An edge of the auxiliary input, by the lane's kind (R19). -/
def State.auxEdge (s : State) (l : Lane) (level : Bool) : State :=
  if level then s.passage l
  else if (s.lane l).kind = .door then s.doorClosing l
  else s

/-- An edge of the strike sense input (R20, R188): when it brings the sense into agreement with the drive a waiting check
passes, and the edge is the clearing condition of the lane's STRIKE fault. -/
def State.senseEdge (s : State) (l : Lane) : State :=
  if (s.lane l).senseAgrees then (s.modLane l fun u => { u with senseCheck := none }).clearLane l .strike else s

/-- An input whose debounce timer runs out with the raw level still different (R18). -/
def Debounced.ready (d : Debounced) (raw : Bool) : Bool := d.timer.isSome && decide (d.level = some !raw)

/-- An input with no debounced level, whose wait runs (R18). -/
def Debounced.sought (d : Debounced) : Bool := d.timer.isSome && d.level.isNone

/-- A debounce timer of an auxiliary input that runs out. -/
def State.auxExpiry (s : State) (l : Lane) : State :=
  let raw := s.inputs.aux.get l
  if s.watched l = true ∧ (s.lane l).aux.ready raw = true then
    ((s.modLane l fun u => { u with aux := { level := some raw, timer := none } }).auxEdge l raw).settleEvents
  else s

/-- A debounce timer of a strike sense input that runs out. -/
def State.senseExpiry (s : State) (l : Lane) : State :=
  let raw := s.inputs.sense.get l
  if s.watched l = true ∧ (s.lane l).sense.ready raw = true then
    ((s.modLane l fun u => { u with sense := { level := some raw, timer := none } }).senseEdge l).settleEvents
  else s

/-- DEBOUNCE_EXPIRY (R18). -/
def execDebounceExpiry (i : LaneInput) (s : State) : Host.Outcome State Fault Refusal :=
  .next (s.event fun x =>
    match i with
    | .aux l => x.auxExpiry l
    | .sense l => x.senseExpiry l)

/-- A DOOR lane that finds its first level open enters OPEN with its strike locked (R19). A lane in FAULT stays there, and
in EVACUATE the lane is followed as R41 gives. -/
def State.foundOpen (s : State) (l : Lane) : State :=
  if (s.lane l).doorOpen = true ∧ (s.lane l).state ≠ .fault then s.openDoor l false else s

/-- The first level of an auxiliary input found (R18, R19). DEDUCED (assumption 42): a first level is not an edge, so a door
found closed is no closing, and a DOOR_HELD record that waits for one waits on (R187). -/
def State.auxFound (s : State) (l : Lane) : State :=
  if s.watched l = true ∧ (s.lane l).aux.sought = true then
    (s.modLane l fun u => { u with aux := { level := some (s.inputs.aux.get l), timer := none } }).foundOpen l
  else s

/-- The first level of a strike sense input found: it is not an edge (R18). -/
def State.senseFound (s : State) (l : Lane) : State :=
  if s.watched l = true ∧ (s.lane l).sense.sought = true then
    s.modLane l fun u => { u with sense := { level := some (s.inputs.sense.get l), timer := none } }
  else s

/-- The first level of the evacuation contact found: it is not an edge (R161). -/
def State.contactLevelFound (s : State) : State :=
  if s.station.serving = true ∧ s.control.contactFound = false ∧ s.control.contactTimer.isSome = true then
    s.modControl fun c => { c with contact := s.inputs.contact, contactFound := true, contactTimer := none }
  else s

/-- FIRST_LEVEL_FOUND (R18, R161). -/
def execFirstLevelFound (i : DebouncedInput) (s : State) : Host.Outcome State Fault Refusal :=
  .next (s.event fun x =>
    match i with
    | .aux l => x.auxFound l
    | .sense l => x.senseFound l
    | .contact => x.contactLevelFound)

/-! ## The evacuation contact (R161) -/

/-- A debounced edge of the contact to ASSERTED, by the station state (R161). -/
def State.contactAsserted (s : State) : State :=
  match s.station with
  | .live | .held => ((s.enterEvacuate .input).placeEvac (.clear .input)).settleEvents
  | .evacuate => s.placeEvac (.clear .input)
  | _ => s

/-- A debounced edge of the contact (R161): an edge to NORMAL changes no state but the level. -/
def State.contactEdge (s : State) : State :=
  let noted := s.modControl fun c => { c with contact := s.inputs.contact, contactTimer := none }
  if s.inputs.contact then noted.contactAsserted else noted

/-- EVAC_CONTACT_EDGE: the contact's debounce timer runs out with its raw level still different (R161). -/
def execEvacContactEdge (s : State) : Host.Outcome State Fault Refusal :=
  .next (s.event fun x =>
    if x.station.serving = true ∧ x.control.contactFound = true ∧ x.control.contactTimer.isSome = true ∧
        x.inputs.contact ≠ x.control.contact then x.contactEdge
    else x)

/-! ## Lane timers -/

/-- A sense check still waiting a second after its change of drive (R20). -/
def State.senseCheckEnd (s : State) (l : Lane) : State :=
  let y := s.modLane l fun u => { u with senseCheck := none }
  if (s.lane l).senseAgrees then y.clearLane l .strike else y.detectLane l .strike

/-- SENSE_CHECK_EXPIRY (R20). -/
def execSenseCheckExpiry (l : Lane) (s : State) : Host.Outcome State Fault Refusal :=
  .next (s.event fun x =>
    if x.watched l = true ∧ (x.lane l).senseCheck.isSome = true then (x.senseCheckEnd l).settleEvents else x)

/-- RELEASE_TIMER_EXPIRY (R32). -/
def execReleaseTimerExpiry (l : Lane) (s : State) : Host.Outcome State Fault Refusal :=
  .next (s.event fun x =>
    if x.watched l = true ∧ (x.lane l).state = .released ∧ (x.lane l).releaseTimer.isSome = true then
      (x.expireRelease l).settleEvents
    else x)

/-- A held-open timer that runs out (R38): detection, lane event, and the timer started again while the lane stays
OPEN (DEDUCED, assumption 20). -/
def State.heldTooLong (s : State) (l : Lane) : State :=
  ((s.detectLane l .doorHeld).hand (s.laneEvent .doorHeld l)).modLane l fun u =>
    { u with heldOpen := if u.state = .opened then some (s.heldOpenLimit l) else u.heldOpen }

/-- HELD_OPEN_EXPIRY (R38). -/
def execHeldOpenExpiry (l : Lane) (s : State) : Host.Outcome State Fault Refusal :=
  .next (s.event fun x =>
    if x.watched l = true ∧ (x.lane l).state = .opened ∧ (x.lane l).heldOpen.isSome = true then
      (x.heldTooLong l).settleEvents
    else x)

/-- EVAC_READ_EXPIRY: the evacuation read empties when the release time has passed since it (R42). -/
def execEvacReadExpiry (l : Lane) (s : State) : Host.Outcome State Fault Refusal :=
  .next (s.event fun x => x.modLane l fun u => { u with evacRead := none })

end Sys2Proof.Machine
end

