-- ==== Sys2Proof/Machine/LineEvents.lean ====
section
/-! DEFINITION. The events of the gate line: frames taken (R112 to R115), line errors and number clashes, the peers' silence
(R131), the clash timer (R114), and the sending of the own frames (R119 to R124). -/

namespace Sys2Proof.Machine

/-! ## Frames taken -/

/-- PUNCH (R132, R115). -/
def execPunch (f : PunchFrame) (s : State) : Host.Outcome State Fault Refusal :=
  .next (s.event fun x => x.takeFrame (.punch f) fun y => y.takePunch f)

/-- BEACON (R135). -/
def execBeacon (f : BeaconFrame) (s : State) : Host.Outcome State Fault Refusal :=
  .next (s.event fun x => x.takeFrame (.beacon f) fun y => y.takeBeacon f)

/-- BELL_CUE (R101). -/
def execBellCue (f : CueFrame) (s : State) : Host.Outcome State Fault Refusal :=
  .next (s.event fun x => x.takeFrame (.bellCue f) fun y => y.takeCue f)

/-- CLEAR (R164). -/
def execClear (f : ClearFrame) (s : State) : Host.Outcome State Fault Refusal :=
  .next (s.event fun x => x.takeFrame (.clear f) fun y => y.takeClear f)

/-- ALL_CLEAR_FRAME (R166). -/
def execAllClearFrame (source : Station) (s : State) : Host.Outcome State Fault Refusal :=
  .next (s.event fun x => x.takeFrame (.allClear source) fun y => y.takeAllClear source)

/-- A run of characters that the receiver discards: characters after a complete frame are always one (R112); a run from one
quiet gap to the next is one when it is no valid frame (R112, R113). DESIGN CHOICE (assumption 47): a frame of full length
that fails R113, with more characters before the quiet gap, is one run and so one line error. -/
def discardedRun : LineRun → Bool
  | .heard chars => !validRun chars
  | .trailing chars => !chars.isEmpty

/-- LINE_ERROR (R112, R113). -/
def execLineError (run : LineRun) (s : State) : Host.Outcome State Fault Refusal :=
  .next (s.event fun x => if x.listening && discardedRun run then x.countLineError else x)

/-- NUMBER_CLASH: a valid frame carrying the own station number (R114). -/
def execNumberClash (f : Frame) (s : State) : Host.Outcome State Fault Refusal :=
  .next (s.event fun x =>
    if x.listening && frameValid f && decide (frameSource f = x.ownStation) then x.clash else x)

/-! ## Timers of the line and of the peers -/

/-- A peer whose silence timer runs out (R131). -/
def State.losePeer (s : State) (p : Station) : State :=
  ((s.modPeer p fun e => { e with state := .lost, silence := none }).openDoubt .peerLost (some p)).recordIncident
    .peerLost (peer := some p)

/-- PEER_SILENCE (R131). -/
def execPeerSilence (p : Station) (s : State) : Host.Outcome State Fault Refusal :=
  .next (s.event fun x =>
    if x.station.serving = true ∧ (x.peer p).state = .heard ∧ (x.peer p).silence.isSome = true then x.losePeer p
    else x)

/-- CLASH_TIMER_EXPIRY (R114, R188). -/
def execClashTimerExpiry (s : State) : Host.Outcome State Fault Refusal :=
  .next (s.event fun x =>
    if x.line.clashTimer.isSome then (x.modLine fun p => { p with clashTimer := none }).clearLine .clash else x)

/-! ## Sending -/

/-- DEFERRAL_START: a frame is selected and its deferral begins; a frame other than the one in hand starts from attempt 0
(R119, R120). The sender vouches for the quiet gap. -/
def execDeferralStart (s : State) : Host.Outcome State Fault Refusal :=
  .next (s.event fun x =>
    if x.station.sending = true ∧ x.line.deferral = none ∧ x.line.sending = none then
      match x.selection with
      | none => x
      | some h =>
        let attempt := if x.line.inHand = some h then x.line.attempt else 0
        x.modLine fun p =>
          { p with
            inHand := some h
            attempt := attempt
            deferral := some (deferralSlots x.ownStation.val attempt) }
    else x)

/-- YIELD: a start bit heard ends the deferral; the frame in hand and its attempt count stay (R120). -/
def execYield (s : State) : Host.Outcome State Fault Refusal :=
  .next (s.event fun x => x.modLine fun p => { p with deferral := none })

/-- DEFERRAL_END: the station begins to send the frame in hand, as it is at that moment (R118, R120, R121). A frame in hand
that was replaced or removed during the deferral is not sent (R117). -/
def execDeferralEnd (s : State) : Host.Outcome State Fault Refusal :=
  .next (s.event fun x =>
    match x.line.deferral, x.line.inHand with
    | some _, some h =>
      x.modLine fun p =>
        { p with deferral := none, sending := (x.frameInHand h).map fun f => { hand := h, frame := f } }
    | _, _ => x)

/-- SENT_WHOLE (R122, R124). -/
def execSentWhole (s : State) : Host.Outcome State Fault Refusal :=
  .next (s.event fun x =>
    match x.line.sending with
    | none => x
    | some y => x.sentWhole y)

/-- COLLISION (R122, R124). -/
def execCollision (s : State) : Host.Outcome State Fault Refusal :=
  .next (s.event fun x =>
    match x.line.sending with
    | none => x
    | some y => x.collide y)

end Sys2Proof.Machine
end

