-- ==== Sys2Proof/Machine/PayCommands.lean ====
section
/-! DEFINITION. The pay commands: PAY READ (R72) and PERIOD CLOSE (R73). -/

namespace Sys2Proof.Machine

/-- The pay record of a badge, when its entry links one here (R72). -/
def State.payRecord (s : State) (badge : Nat) : Option PayRecord :=
  match s.lookup badge with
  | some { paySlot := some slot, .. } => s.pay.record slot
  | _ => none

/-- The bytes of one part of a pay record: 0 CURRENT, 1 PREVIOUS, 2 PERIOD, 3 LAST (R72, R203, R206). -/
def payPart (u : Nat → Byte) (r : PayRecord) (part : Nat) : List Byte :=
  if part = 0 then slotBlock u r.current ++ openBlock r
  else if part = 1 then slotBlock u r.previous
  else if part = 2 then periodBlock r.period
  else periodBlock r.last

/-- PAY READ (R72). -/
def execPayRead (a : BitVec 16) (badge : BitVec 24) (s : State) : Host.Outcome State Fault Refusal :=
  .next (s.command (.payRead a badge) { code := 0x30, a := some a, data := leBytes 3 badge.toNat } false .served fun x =>
    if a.toNat < 4 ∧ isBadge badge.toNat = true then
      match x.payRecord badge.toNat with
      | none => x.answer .noEntry
      | some r => x.answerData .done (payPart x.freeBytes r a.toNat)
    else x.answer .badValue)

/-- A record's period closed (R73). -/
def PayRecord.closePeriod (r : PayRecord) : PayRecord := { r with last := r.period, period := .zero }

/-- PERIOD CLOSE (R73). -/
def execPeriodClose (s : State) : Host.Outcome State Fault Refusal :=
  .next (s.command .periodClose { code := 0x31 } false .served fun x =>
    (x.modPay fun p => { p with records := p.records.map fun r => (r.1, r.2.closePeriod) }).answer .done)

end Sys2Proof.Machine
end

