-- ==== Sys2Proof/Machine/PortEvents.lean ====
section
/-! DEFINITION. The transactions of the terminal port: MAILBOX_WRITE and the read transactions (R196), and OVERRUN (R198). -/

namespace Sys2Proof.Machine

/-- A write to a port address while GO is clear: the address of GO takes bit 0, every other address of the mailbox stores
the byte (R196, R203). -/
def State.writePort (s : State) (addr : Nat) (b : Byte) : State :=
  if addr = 0x01 then (if b.getLsbD 0 then s.modPort fun p => { p with go := true } else s)
  else s.modPort fun p => p.store addr b

/-- A write to a port address while GO is set is discarded and sets OVERRUN, when the address is one of the mailbox
(R198). -/
def State.overrunWrite (s : State) (addr : Nat) : State :=
  if addr < 0x06 ∨ (0x10 ≤ addr ∧ addr < 0x50) then s.modPort fun p => { p with overrun := true } else s

/-- One byte written to a port address, taken as the GO mark stands (R196, R198). -/
def State.takeWrite (s : State) (addr : Nat) (b : Byte) : State :=
  if s.port.go then s.overrunWrite addr else s.writePort addr b

/-- The data bytes of a write transaction, each a separate write, the address rising by 1 after each (R196). -/
def State.writeBytes (s : State) (addr : Nat) : List Byte → State
  | [] => s
  | b :: rest => (s.takeWrite addr b).writeBytes (addr + 1) rest

/-- The first address that an address byte gives, in its low seven bits (R196). -/
def firstAddress (address : Byte) : Nat := address.toNat % 128

/-- An address byte begins a read: its top bit is 1 (R196). -/
def isRead (address : Byte) : Bool := address.getLsbD 7

/-- The bytes that a read transaction gives: the mailbox as it stands, the address rising by 1 after each (R196). -/
def State.readBytes (s : State) (address : Byte) (count : Nat) : List Byte :=
  (List.range count).map fun i => s.readPort (firstAddress address + i)

/-- MAILBOX_WRITE: a transaction of the terminal, from its select to its release: the address byte and the data bytes after
it. A read changes nothing; the bytes after a GO write overrun (R196, R198). DESIGN CHOICE (assumption 43): the address that
rises past 0x7F is outside the mailbox. -/
def execMailboxWrite (address : Byte) (bytes : List Byte) (s : State) : Host.Outcome State Fault Refusal :=
  .next (s.event fun x => if isRead address then x else x.writeBytes (firstAddress address) bytes)

/-- OVERRUN: a terminal write that came while GO was set is discarded and sets the OVERRUN mark (R198). With GO clear no
write is an overrun. -/
def execOverrun (addr : BitVec 7) (_byte : Byte) (s : State) : Host.Outcome State Fault Refusal :=
  .next (s.event fun x => if x.port.go then x.overrunWrite addr.toNat else x)

end Sys2Proof.Machine
end

