-- ==== Sys2Proof/Machine/SetupCommands.lean ====
section
/-! DEFINITION. The commands of SETUP: SET WORD (R173, R174), LOAD CLASS (R49), LOAD BELL (R94), LOAD PATTERN (R95), LOAD
RULE (R143), SET TIME (R79, R90) and READY (R177). -/

namespace Sys2Proof.Machine

/-- The result of a setting taken: DONE_CLAMPED when what was stored is not what was sent (R173). -/
def takenResult {α : Type} [DecidableEq α] (sent stored : α) : ResultCode :=
  if sent = stored then .done else .doneClamped

/-- A list of codes with none undefined. -/
def allDefined {α : Type} : List (Option α) → Option (List α)
  | [] => some []
  | none :: _ => none
  | some x :: rest => (allDefined rest).map (x :: ·)

/-! ## Set words (R173, R174) -/

/-- SW0 with its codes checked (R174). -/
def readSW0 (w : Word0) : Option SW0 :=
  match w.rate with
  | none => none
  | some rate =>
    if h : w.station < 16 ∧ w.weekday < 7 then some { station := ⟨w.station, h.1⟩, weekday := w.weekday, rate }
    else none

/-- The SW1 codes of one lane checked (R174). -/
def readLaneCodes (c : LaneCodes) : Option LaneSetting :=
  match c.kind, c.direction, c.failMode with
  | some kind, some direction, some failMode => some { kind, direction, failMode }
  | _, _, _ => none

/-- SW1 with its codes checked (R174). -/
def readSW1 (w : Word1) : Option (PerLane LaneSetting) :=
  match readLaneCodes w.lane1, readLaneCodes w.lane2, readLaneCodes w.lane3, readLaneCodes w.lane4 with
  | some lane1, some lane2, some lane3, some lane4 => some { lane1, lane2, lane3, lane4 }
  | _, _, _, _ => none

/-- The SW2 limits of one lane clamped (R174). -/
def clampLimits (w : LaneLimits) : LaneLimits :=
  { release := clamp 1 30 w.release, heldOpen := clamp 5 300 w.heldOpen }

/-- SW2 clamped (R174). -/
def clampWord2 (w : Word2) : Word2 :=
  { lane1 := clampLimits w.lane1, lane2 := clampLimits w.lane2, lane3 := clampLimits w.lane3,
    lane4 := clampLimits w.lane4, debounce := clamp 1 16 w.debounce, reread := clamp 0 10 w.reread }

/-- SW2 as it is stored. -/
def storeSW2 (w : Word2) : SW2 :=
  { limits := { lane1 := w.lane1, lane2 := w.lane2, lane3 := w.lane3, lane4 := w.lane4 }, debounce := w.debounce,
    reread := w.reread }

/-- SW3 clamped (R174). -/
def clampWord3 (w : Word3) : Word3 :=
  { beaconInterval := clamp 4 64 w.beaconInterval, silenceLimit := clamp 10 600 w.silenceLimit,
    joinPeriod := clamp 2 60 w.joinPeriod, doubtHold := clamp 1 120 w.doubtHold, latency := clamp 0 15 w.latency }

/-- The quantities of SW4 clamped (R174). -/
def clampWord4 (w : Word4) : Word4 :=
  { w with
    stepThreshold := clamp 16 4800 w.stepThreshold
    dayRoll := clamp 0 1439 w.dayRoll
    bellAdvance := clamp 0 160 w.bellAdvance
    cueWindow := clamp 1 120 w.cueWindow }

/-- SW4 as it is stored, its pattern numbers checked (R174). -/
def readSW4 (w : Word4) : Option SW4 :=
  if h : w.evacPattern < 8 ∧ w.alarmPattern < 8 then
    some { stepThreshold := w.stepThreshold, dayRoll := w.dayRoll, bellAdvance := w.bellAdvance,
           cueWindow := w.cueWindow, evacPattern := ⟨w.evacPattern, h.1⟩, alarmPattern := ⟨w.alarmPattern, h.2⟩ }
  else none

/-- The filter of a fault kind clamped (R174). -/
def clampChoice (c : FaultChoice) : FaultChoice := { c with filter := clamp 1 8 c.filter }

/-- The quantities of SW5 clamped (R174). -/
def clampWord5 (w : Word5) : Word5 :=
  { reader := clampChoice w.reader, strike := clampChoice w.strike, doorHeld := clampChoice w.doorHeld,
    line := clampChoice w.line, clock := clampChoice w.clock, retention := w.retention,
    journalThreshold := clamp 1 64 w.journalThreshold }

/-- The action of a fault kind checked (R174). -/
def readChoice (c : FaultChoice) : Option FaultSetting := c.action.map fun action => { filter := c.filter, action }

/-- SW5 as it is stored, its codes checked (R174). -/
def readSW5 (w : Word5) : Option SW5 :=
  match readChoice w.reader, readChoice w.strike, readChoice w.doorHeld, readChoice w.line, readChoice w.clock,
      w.retention with
  | some reader, some strike, some doorHeld, some line, some clock, some retention =>
    some { reader, strike, doorHeld, line, clock, retention, journalThreshold := w.journalThreshold }
  | _, _, _, _, _, _ => none

/-- The word number that parameter A gives (R173). -/
def setWordNumber : SetWordBlock → BitVec 16
  | .sw0 _ => 0
  | .sw1 _ => 1
  | .sw2 _ => 2
  | .sw3 _ => 3
  | .sw4 _ => 4
  | .sw5 _ => 5
  | .undefined a => a

/-- A word stored and marked with its result, or refused BAD_VALUE (R173). -/
def State.storeWord {α : Type} (s : State) (w : Option α) (put : Control → α → Control) (c : ResultCode) : State :=
  match w with
  | none => s.answer .badValue
  | some x => (s.modControl fun k => put k x).answer c

/-- A set word checked, clamped and stored (R173). -/
def State.setWord (s : State) : SetWordBlock → State
  | .sw0 w => s.storeWord (readSW0 w) (fun k x => { k with sw0 := some x }) .done
  | .sw1 w => s.storeWord (readSW1 w) (fun k x => { k with sw1 := some x }) .done
  | .sw2 w => s.storeWord (some (storeSW2 (clampWord2 w))) (fun k x => { k with sw2 := some x })
      (takenResult w (clampWord2 w))
  | .sw3 w => s.storeWord (some (clampWord3 w)) (fun k x => { k with sw3 := some x }) (takenResult w (clampWord3 w))
  | .sw4 w => s.storeWord (readSW4 (clampWord4 w)) (fun k x => { k with sw4 := some x }) (takenResult w (clampWord4 w))
  | .sw5 w => s.storeWord (readSW5 (clampWord5 w)) (fun k x => { k with sw5 := some x }) (takenResult w (clampWord5 w))
  | .undefined _ => s.answer .badValue

/-- SET WORD (R173, R174). -/
def execSetWord (w : SetWordBlock) (s : State) : Host.Outcome State Fault Refusal :=
  .next (s.command (.setWord w)
    { code := 0x10, a := some (setWordNumber w), data := Config.writtenBlock (.setWord w) } true .setup
    fun x => x.setWord w)

/-! ## LOAD CLASS (R49) -/

/-- A pair of minutes of day clamped (R49). -/
def clampPair : PairCode → PairCode
  | .present a b => .present (clamp 0 1439 a) (clamp 0 1439 b)
  | p => p

/-- A class block clamped, with a T2 below T1 raised to T1 (R48, R49). -/
def clampClass (c : ClassBlock) : ClassBlock :=
  { hours := clampPair c.hours, lead := clamp 0 240 c.lead, graceIn := clamp 0 60 c.graceIn,
    graceLate := clamp 0 60 c.graceLate, graceOut := clamp 0 60 c.graceOut, quantum := c.quantum,
    breakAfter := clamp 0 720 c.breakAfter, breakMinutes := clamp 0 90 c.breakMinutes, t1 := clamp 0 1440 c.t1,
    t2 := clamp (clamp 0 1440 c.t1) 1440 c.t2, dayMax := clamp 60 1440 c.dayMax, weekly := clamp 0 65535 c.weekly,
    night := clampPair c.night }

/-- A pair of minutes of day, its presence code checked (R49). -/
def readPair : PairCode → Option (Option (Nat × Nat))
  | .undefined => none
  | .absent => some none
  | .present a b => some (some (a, b))

/-- The quanta a class may have (R48). -/
def quanta : List Nat := [1, 5, 6, 10, 15, 30]

/-- A class record as it is stored, its codes and its quantum checked (R49). -/
def readClassBlock (c : ClassBlock) : Option ShiftClass :=
  match readPair c.hours, readPair c.night with
  | some hours, some night =>
    if quanta.contains c.quantum then
      some { hours, lead := c.lead, graceIn := c.graceIn, graceLate := c.graceLate, graceOut := c.graceOut,
             quantum := c.quantum, breakAfter := c.breakAfter, breakMinutes := c.breakMinutes, t1 := c.t1, t2 := c.t2,
             dayMax := c.dayMax, weekly := c.weekly, night }
    else none
  | _, _ => none

/-- LOAD CLASS (R49). -/
def execLoadClass (a : BitVec 16) (c : ClassBlock) (s : State) : Host.Outcome State Fault Refusal :=
  .next (s.command (.loadClass a c) { code := 0x11, a := some a, data := Config.writtenBlock (.loadClass a c) } true
    .setup fun x =>
    if a.toNat < 8 then
      match readClassBlock (clampClass c) with
      | none => x.answer .badValue
      | some k =>
        (x.modPay fun p => { p with classes := modAt (fun _ => k) a.toNat p.classes }).answer
          (takenResult c (clampClass c))
    else x.answer .badValue)

/-! ## LOAD BELL and LOAD PATTERN (R94, R95) -/

/-- A schedule entry clamped (R94). -/
def clampBell (e : BellBlock) : BellBlock := { e with minute := clamp 0 1439 e.minute, second := clamp 0 59 e.second }

/-- A schedule entry as it is stored, with no day mark, its pattern and its role checked (R94). -/
def readBellBlock (e : BellBlock) : Option BellEntry :=
  match e.role with
  | none => none
  | some role =>
    if h : e.pattern < 8 then
      some { minute := e.minute, second := e.second, mask := e.mask, pattern := ⟨e.pattern, h⟩, role, mark := none }
    else none

/-- LOAD BELL (R94). -/
def execLoadBell (a : BitVec 16) (e : BellBlock) (s : State) : Host.Outcome State Fault Refusal :=
  .next (s.command (.loadBell a e) { code := 0x12, a := some a, data := Config.writtenBlock (.loadBell a e) } true
    .setup fun x =>
    if h : a.toNat < 48 then
      match readBellBlock (clampBell e) with
      | none => x.answer .badValue
      | some k => (x.modBellEntry ⟨a.toNat, h⟩ fun _ => k).answer (takenResult e (clampBell e))
    else x.answer .badValue)

/-- A pattern clamped: the on time first, then the period to the range from the on time up (R95). -/
def clampPattern (p : PatternBlock) : PatternBlock :=
  { p with on := clamp 1 160 p.on, period := clamp (clamp 1 160 p.on) 320 p.period }

/-- LOAD PATTERN (R95). -/
def execLoadPattern (a : BitVec 16) (p : PatternBlock) (s : State) : Host.Outcome State Fault Refusal :=
  .next (s.command (.loadPattern a p) { code := 0x13, a := some a, data := Config.writtenBlock (.loadPattern a p) } true
    .setup fun x =>
    if a.toNat < 8 then
      let k := clampPattern p
      (x.modBell fun b =>
        { b with
          patterns := modAt (fun _ => { on := k.on, period := k.period, repeats := k.repeats.toNat }) a.toNat
            b.patterns }).answer (takenResult p k)
    else x.answer .badValue)

/-! ## LOAD RULE (R143) -/

/-- A condition as it is stored, its codes checked (R143). -/
def readCondition (c : ConditionBlock) : Option Condition :=
  match allDefined c.kinds, allDefined c.lanes, c.test with
  | some kinds, some lanes, some test => some { kinds, lanes, test, limit := c.limit.toNat }
  | _, _, _ => none

/-- The window and the count of a rule clamped (R143). -/
def clampRule (r : RuleBlock) : RuleBlock := { r with window := clamp 1 3600 r.window, count := clamp 1 255 r.count }

/-- A rule as it is stored, its codes checked: disarmed, with counter 0, no first record and trip count 0 (R143). -/
def readRuleBlock (r : RuleBlock) : Option Rule :=
  match readCondition r.a, readCondition r.b, r.combine, r.action with
  | some a, some b, some combine, some action =>
    some { a, b, combine, window := r.window, sameBadge := r.sameBadge, count := r.count, action, armed := false,
           counter := 0, first := none, trips := 0 }
  | _, _, _, _ => none

/-- LOAD RULE (R143). -/
def execLoadRule (a : BitVec 16) (r : RuleBlock) (s : State) : Host.Outcome State Fault Refusal :=
  .next (s.command (.loadRule a r) { code := 0x14, a := some a, data := Config.writtenBlock (.loadRule a r) } true
    .setup fun x =>
    match RuleNo.ofNumber a.toNat, readRuleBlock (clampRule r) with
    | some n, some k => (x.modRule n fun _ => k).answer (takenResult r (clampRule r))
    | _, _ => x.answer .badValue)

/-! ## SET TIME (R79, R90) -/

/-- Plant time and era set in SETUP (R79). -/
def State.setClock (s : State) (time : Nat) (era : BitVec 8) : State :=
  (s.stepTo time).modClock fun c => { c with era, clockSet := true }

/-- SET TIME: in SETUP it sets the clock (R79); after READY it is an era change in LIVE, HELD and EVACUATE, and the era
field is not used (R90). -/
def execSetTime (time : BitVec 32) (era : BitVec 8) (s : State) : Host.Outcome State Fault Refusal :=
  .next (s.command (.setTime time era) { code := 0x15, data := Config.writtenBlock (.setTime time era) } false
    .notJoin fun x =>
    if x.station = .setup then (x.setClock time.toNat era).answer .done
    else (x.changeEra (time.toNat : Int)).answer .done)

/-! ## READY (R177) -/

/-- The six written marks and the clock-set mark (R177). -/
def State.marks (s : State) : WrittenMarks :=
  { sw0 := s.control.sw0.isSome, sw1 := s.control.sw1.isSome, sw2 := s.control.sw2.isSome,
    sw3 := s.control.sw3.isSome, sw4 := s.control.sw4.isSome, sw5 := s.control.sw5.isSome,
    clockSet := s.clock.clockSet }

/-- Every mark READY needs is set (R177). -/
def WrittenMarks.complete (m : WrittenMarks) : Bool :=
  m.sw0 && m.sw1 && m.sw2 && m.sw3 && m.sw4 && m.sw5 && m.clockSet

/-- An input whose first level is sought: it has no level, and its wait starts for the debounce time (R18). -/
def State.seek (s : State) : Debounced := { level := none, timer := some s.sw2.debounce }

/-- A lane at READY: its effective kind is found from its strap, and a fitted lane enters IDLE with its first levels sought
(R17, R18, R23, R177). -/
def State.startLane (s : State) (l : Lane) : State :=
  s.modLane l fun u =>
    if s.inputs.strap.get l = true ∧ (s.sw1 l).kind ≠ .off then
      { u with kind := (s.sw1 l).kind, state := .idle, aux := s.seek, sense := s.seek }
    else { u with kind := .off, state := .off, aux := .reset, sense := .reset }

/-- The first level of the evacuation contact is sought (R161). -/
def State.seekContact (s : State) : State :=
  s.modControl fun c => { c with contactFound := false, contactTimer := some s.sw2.debounce }

/-- JOIN entered, with its timer for a full join period (R178). -/
def State.enterJoin (s : State) : State :=
  s.modControl fun c => { c with station := .join, joinTimer := some (sixteenths s.sw3.joinPeriod) }

/-- READY taken, in the order of R177. Plant time as it stands counts as already reached, so that instants already past are
not taken (R97); a failure delay is counted afresh (R180). -/
def State.getReady (s : State) : State :=
  let lanes := (Lane.all.foldl (fun s l => s.startLane l) s).seekContact
  let pay := lanes.modPay fun p => { p with today := payDay s.dayRollMinute s.clock.time }
  let bells := pay.modClock fun c => { c with countedFrom := c.time }
  let journal := (bells.modJournal fun j => { j with next := 0 }).clearOffsets
  ((journal.modLine fun p => { p with fresh := true }).modSupply fun m => m.joinEntry s.inputs.gateLow).enterJoin

/-- READY (R177). -/
def execReady (s : State) : Host.Outcome State Fault Refusal :=
  .next (s.command .ready { code := 0x16 } true .setup fun x =>
    if x.marks.complete then x.getReady.answer .done else x.answerReply .incomplete (.incomplete x.marks))

end Sys2Proof.Machine
end

