-- ==== Sys2Proof/Machine/RecordCommands.lean ====
section
/-! DEFINITION. The record and status commands: TRACE MARK and TRACE READ (R158), INCIDENT TAKE (R156), STATUS READ (R200),
PEER READ (R201) and ATTENTION READ (R199). -/

namespace Sys2Proof.Machine

/-! ## The gate trace (R158) -/

/-- The position of the oldest entry (R158). -/
def WatchUnit.oldest (w : WatchUnit) : Nat := if (w.trace.getD w.writePos none).isSome then w.writePos else 0

/-- TRACE MARK (R158). -/
def execTraceMark (s : State) : Host.Outcome State Fault Refusal :=
  .next (s.command .traceMark { code := 0x40 } false .served fun x =>
    (x.modWatch fun w => { w with readPtr := w.oldest }).answer .done)

/-- TRACE READ: the position at the read pointer is returned, and the pointer advances (R158, R207). -/
def execTraceRead (s : State) : Host.Outcome State Fault Refusal :=
  .next (s.command .traceRead { code := 0x41 } false .served fun x =>
    let moved := x.modWatch fun w => { w with readPtr := (w.readPtr + 1) % traceLength }
    match x.watch.trace.getD x.watch.readPtr none with
    | some e => moved.answerData .done (traceBlock x.freeBytes e x.watch.nextEvent)
    | none => moved.answerData .empty (List.replicate 16 0 ++ leBytes 2 x.watch.nextEvent.toNat))

/-! ## INCIDENT TAKE (R156) -/

/-- INCIDENT TAKE: the oldest incident is returned and removed; when none is left, the lost count is returned and set to 0
(R156, R207). -/
def execIncidentTake (s : State) : Host.Outcome State Fault Refusal :=
  .next (s.command .incidentTake { code := 0x42 } false .served fun x =>
    match x.watch.incidents with
    | i :: rest =>
      (x.modWatch fun w => { w with incidents := rest, lost := if rest.isEmpty then 0 else w.lost }).answerData .done
        (incidentBlock x.freeBytes i rest.length x.watch.lost)
    | [] =>
      (x.modWatch fun w => { w with lost := 0 }).answerData .empty (List.replicate 6 0 ++ [byteOf x.watch.lost]))

/-! ## STATUS READ (R200) -/

/-- The STATION part (R200): the elapsed real time is given while the station is in HOLDOVER. -/
def State.stationStatus (s : State) : StationStatus :=
  { state := s.station, marks := s.marks, holdoverCount := s.control.holdoverCount,
    elapsed := if s.station = .holdover then some (s.clock.realTime - s.control.holdoverEntry) else none,
    backupLow := s.inputs.backupLow, contact := s.control.contact, evacRecord := s.control.evacRecord,
    pendingEvac := s.control.pendingEvac, reasons := s.control.stationReasons, override := s.control.override,
    deadline := s.peers.deadline, isolated := s.peers.isolated, doubt := s.doubtActive }

/-- The CLOCK part (R200). -/
def State.clockStatus (s : State) : ClockStatus :=
  { time := s.clock.time, era := s.clock.era, remainder := s.clock.remainder, degraded := s.clock.degraded,
    endMark := s.clock.endMark, agreement := s.clock.agreement }

/-- The LANE part (R200). -/
def State.laneStatus (s : State) (l : Lane) : LaneStatus :=
  let u := s.lane l
  { written := s.control.sw1.map fun w => (w.get l).kind,
    heldOpenLimit := s.control.sw2.map fun w => (w.limits.get l).heldOpen, kind := u.kind, state := u.state,
    reasons := s.control.laneReasons.get l, drive := u.drive,
    pending := u.release.map fun p => (p.badge, u.releaseTimer.isSome), readerErrors := u.readerErrors,
    repeats := u.repeats, forced := u.forced, openPassages := u.openPassages, evacPassages := u.evacPassages,
    faults := s.faults.lanes.get l }

/-- The TABLES part (R200). -/
def State.tablesStatus (s : State) : TablesStatus :=
  { entries := s.badges.entries.length, muster := s.badges.muster, ownStale := s.badges.ownStale,
    ownStranger := s.badges.ownStranger, freeRecords := payCapacity - s.pay.records.length, today := s.pay.today,
    earlyRolls := s.pay.earlyRolls }

/-- The number of peers in a state (R129, R200). DESIGN CHOICE (assumption 37): all sixteen entries are counted, the unused
entry of the own number, which stays NEVER, among them. -/
def State.peersIn (s : State) (x : PeerState) : Nat := (s.peers.entries.filter fun e => decide (e.state = x)).length

/-- The LINE part (R200). -/
def State.lineStatus (s : State) : LineStatus :=
  { errors := s.line.errors, collisions := s.line.collisions, dropped := s.line.dropped, clashes := s.line.clashes,
    cues := s.line.cues.length, evacHeld := s.line.evac.isSome, beaconHeld := s.line.beacon.isSome,
    inHand := s.line.inHand.map (·.kind), attempt := s.line.attempt, drops := s.line.drops, fresh := s.line.fresh,
    level := s.journal.entries.length, next := s.journal.next, full := s.journal.full, leftOut := s.journal.leftOut,
    never := s.peersIn .never, heard := s.peersIn .heard, lost := s.peersIn .lost, line := s.faults.line,
    clock := s.faults.clock }

/-- The BELL part (R200). -/
def State.bellStatus (s : State) : BellStatus :=
  { arbiter := s.bell.arbiter, output := s.bellOutput, missed := s.bell.missed, cut := s.bell.cut,
    suppressed := s.bell.suppressed, earlyCue := s.bell.earlyCue }

/-- The BELL MARKS part: up to 32 day marks from an entry on, an absent mark given as 65,535 (R200). -/
def State.bellMarks (s : State) (first : Nat) : List Nat :=
  ((s.bell.entries.drop first).take 32).map fun e => e.mark.getD 65535

/-- The WATCH part for one rule (R200). -/
def Rule.status (r : Rule) : RuleStatus := { armed := r.armed, counter := r.counter, trips := r.trips, first := r.first }

/-- The part of the status that parameters A and B name, when they name one (R200, R203). -/
def State.statusPart (s : State) (a b : Nat) : Option StatusReply :=
  if a = 0 then some (.station s.stationStatus)
  else if a = 1 then some (.clock s.clockStatus)
  else if a = 2 then (Lane.ofNumber b).map fun l => .lane (s.laneStatus l)
  else if a = 3 then some (.context s.control.context)
  else if a = 4 then some (.tables s.tablesStatus)
  else if a = 5 then some (.line s.lineStatus)
  else if a = 6 then some (.bell s.bellStatus)
  else if a = 7 then some (.bellTrace s.bell.trace s.bell.trace.length)
  else if a = 8 then (if b < 48 then some (.bellMarks (s.bellMarks b)) else none)
  else if a = 9 then some (.watch (s.watch.rules.map Rule.status) s.watch.lost)
  else none

/-- STATUS READ (R200). -/
def execStatusRead (a b : BitVec 16) (s : State) : Host.Outcome State Fault Refusal :=
  .next (s.command (.statusRead a b) { code := 0x50, a := some a, b := some b } false .anyState fun x =>
    match x.statusPart a.toNat b.toNat with
    | none => x.answer .badValue
    | some r => x.answerReply .done (.status r))

/-! ## PEER READ and ATTENTION READ (R201, R199) -/

/-- PEER READ (R201). -/
def execPeerRead (a : BitVec 16) (s : State) : Host.Outcome State Fault Refusal :=
  .next (s.command (.peerRead a) { code := 0x51, a := some a } false .anyState fun x =>
    if h : a.toNat < 16 then x.answerReply .done (.peer (x.peer ⟨a.toNat, h⟩)) else x.answer .badValue)

/-- ATTENTION READ (R199, R203). -/
def execAttentionRead (s : State) : Host.Outcome State Fault Refusal :=
  .next (s.command .attentionRead { code := 0x70 } false .anyState fun x =>
    (x.modPort fun p => { p with payFlag := false }).answerData .done [x.attention])

end Sys2Proof.Machine
end

