-- ==== Sys2Proof/Machine/SupplyEvents.lean ====
section
/-! DEFINITION. Reset and supply: FULL_RESET and RESET_RELEASE (R172), SUPPLY_FAILURE (R182, R183), SUPPLY_RETURN (R185) and
BACKUP_LOSS (R181, R186). -/

namespace Sys2Proof.Machine

/-! ## Full reset (R172) -/

/-- Every block at its full-reset values (R172); the levels outside the part and the waiting commands are not state of its
blocks. -/
def State.fullReset (s : State) : State :=
  { State.reset with inputs := s.inputs, inReset := true, pending := s.pending }

/-- The end of a reset (R172): with the reset line released and the part under power, the part leaves reset and enters SETUP,
its clock counting from 0 and its supply monitor looking at the levels (R180). Otherwise it stays in reset. -/
def State.endReset (s : State) : State :=
  if s.inReset = true ∧ s.inputs.resetLine = false ∧ s.supply.unpowered = false then
    ({ s with inReset := false }).modSupply fun m => m.resetEnd s.inputs.gateLow s.inputs.backupLow
  else s

/-- FULL_RESET: power-on or the assertion of the reset line holds the part at its full-reset values until RESET_RELEASE
(R172). DESIGN CHOICE (assumption 8): for a part without power it is the power-on when the gate supply is back, and otherwise
the reset line alone. -/
def execFullReset (s : State) : Host.Outcome State Fault Refusal :=
  .next (((s.modInputs fun i => { i with resetLine := true }).fullReset).modSupply fun m =>
    { m with unpowered := s.supply.unpowered && !s.inputs.gateBack })

/-- RESET_RELEASE: the reset line is released, or power-on completes (R172). A part without power stays in reset until its
power-on reset (R186). -/
def execResetRelease (s : State) : Host.Outcome State Fault Refusal :=
  .next (s.modInputs fun i => { i with resetLine := false }).endReset

/-- A backup loss (R172, R181, R186): every block at its full-reset values, and the part without power until the gate supply
returns. The reset line stands. -/
def State.losePower (s : State) : State := s.fullReset.modSupply fun m => { m with unpowered := true }

/-- The power-on reset of a part without power, when the gate supply returns: it enters SETUP, unless the reset line is held
asserted (R172, R186). -/
def State.powerOn (s : State) : State := s.fullReset.endReset

/-- BACKUP_LOSS: a full reset whatever the state (R181, R186). The report says that both supplies are below their
thresholds (R180). -/
def execBackupLoss (s : State) : Host.Outcome State Fault Refusal :=
  .next (s.modInputs fun i => { i with gateLow := true, gateGood := false, backupLow := true }).losePower

/-! ## Entry into HOLDOVER (R182, R183) -/

/-- A station in EVACUATE turns its evacuation record into a pending evacuation with the CLEAR mark clear (R170). -/
def State.keepEvacuation (s : State) : State :=
  if s.station = .evacuate then
    s.modControl fun c =>
      { c with
        pendingEvac := c.evacRecord.map fun r => { reason := r.reason, clearMark := false }
        evacRecord := none }
  else s

/-- A fitted lane at entry into HOLDOVER (R44): a pending release closes UNUSED, the evacuation read empties and every lane
timer stops. A lane whose release was running is at rest; the other states stand. -/
def State.stopLane (s : State) (l : Lane) : State :=
  (s.dropRelease l).modLane l fun u =>
    { u with
      state := if u.state = .released then s.restState l else u.state
      heldOpen := none
      aux := { u.aux with timer := none }
      sense := { u.sense with timer := none }
      senseCheck := none
      evacRead := none }

/-- The line at entry into HOLDOVER (R109, R123): a frame being sent is cut, its attempt count set to 0, a deferral ends
without sending, and the line timers stop. -/
def State.stopLine (s : State) : State :=
  (s.modLine fun p =>
    { p with
      sending := none
      attempt := if p.sending.isSome then 0 else p.attempt
      deferral := none
      beaconTimer := none
      clashTimer := none }).modPeers fun t => { t with entries := t.entries.map fun e => { e with silence := none } }

/-- What retention ESSENTIAL empties (R183); under FULL everything is kept. DESIGN CHOICE (assumption 36): the frame in hand
stays named, with attempt count, when its place is emptied, until the next selection (R123). -/
def State.retain (s : State) : State :=
  match s.sw5.retention with
  | .full => s
  | .essential =>
    ((s.modWatch fun w =>
      { w with
        trace := List.replicate traceLength none
        writePos := 0
        readPtr := 0
        incidents := []
        rules := w.rules.map fun r => { r with first := none } }).modBell fun b => { b with trace := [] }).modLine
      fun p => { p with cues := [], evac := none, beacon := none }

/-- HOLDOVER entered, in the order of R182. The UNUSED closings are traced and matched against no rule (R141). -/
def State.enterHoldover (s : State) : State :=
  let evac := s.keepEvacuation
  let lanes := Lane.all.foldl (fun s l => s.stopLane l) evac
  let entered := (lanes.modControl fun c =>
    { c with
      station := .holdover
      holdoverCount := satAdd max16 c.holdoverCount 1
      holdoverEntry := s.clock.realTime
      joinTimer := none
      contactTimer := none }).refreshDrives
  entered.settleEvents.stopBell.stopLine.retain.modSupply SupplyMonitor.reported

/-- SUPPLY_FAILURE, by the station state (R180, R181): in SETUP it is not taken, and in HOLDOVER it does not arise; with the
backup supply below its threshold it is a backup loss. -/
def execSupplyFailure (s : State) : Host.Outcome State Fault Refusal :=
  .next (
    let x := s.modInputs fun i => { i with gateLow := true, gateGood := false }
    x.event fun y =>
      if y.station = .holdover then y.modSupply SupplyMonitor.reported
      else if y.inputs.backupLow then y.losePower
      else if y.station = .setup then y.modSupply SupplyMonitor.reported
      else y.enterHoldover)

/-! ## Return from HOLDOVER (R185) -/

/-- The state a fitted lane takes at a return, before its contact is found (R44). -/
def State.returnState (s : State) (l : Lane) : LaneState :=
  if s.laneFaulted l then .fault else s.restState l

/-- A lane at a return (R17, R18, R44): its strap is read again and its first levels are sought. -/
def State.returnLane (s : State) (l : Lane) : State :=
  s.modLane l fun u =>
    if s.inputs.strap.get l = true ∧ (s.sw1 l).kind ≠ .off then
      { u with kind := (s.sw1 l).kind, state := s.returnState l, aux := s.seek, sense := s.seek }
    else { u with kind := .off, state := .off, aux := .reset, sense := .reset }

/-- The duration of a holdover in whole seconds of real time (R185). -/
def State.holdoverSeconds (s : State) : Nat :=
  satAdd 2147483647 ((s.clock.realTime - s.control.holdoverEntry) / ticksPerSecond) 0

/-- The line and the peers at a return (R114, R131, R190). -/
def State.returnLine (s : State) : State :=
  (s.modPeers fun t =>
    { t with
      entries := t.entries.map fun e =>
        { e with silence := if e.state = .heard then some s.silenceLimit else e.silence } }).clearLine .clash

/-- The station returned from HOLDOVER into JOIN, in the order of R185. -/
def State.leaveHoldover (s : State) : State :=
  let noted := s.recordIncident .holdover (detail := some (s.holdoverSeconds : Int))
  let lanes := (Lane.all.foldl (fun s l => s.returnLane l) noted).seekContact
  (lanes.returnLine.enterJoin.modSupply SupplyMonitor.reported).refreshDrives

/-- SUPPLY_RETURN, by the station state (R181, R185); a part without power takes its power-on reset (R186). -/
def execSupplyReturn (s : State) : Host.Outcome State Fault Refusal :=
  .next (
    let x := s.modInputs fun i => { i with gateLow := false, gateGood := true }
    if x.supply.unpowered then x.powerOn
    else x.event fun y =>
      if y.station = .holdover then y.leaveHoldover else y.modSupply SupplyMonitor.reported)

end Sys2Proof.Machine
end

