-- ==== Sys2Proof/Machine/Dispatch.lean ====
section
/-! DEFINITION. The meaning of every command: one arm per constructor of `Instr`. -/

namespace Sys2Proof.Machine

def exec (i : Instr) (s : State) : Host.Outcome State Fault Refusal :=
  match i with
  | .setWord w => Sys2Proof.Machine.execSetWord w s
  | .loadClass a c => Sys2Proof.Machine.execLoadClass a c s
  | .loadBell a e => Sys2Proof.Machine.execLoadBell a e s
  | .loadPattern a p => Sys2Proof.Machine.execLoadPattern a p s
  | .loadRule a r => Sys2Proof.Machine.execLoadRule a r s
  | .setTime time era => Sys2Proof.Machine.execSetTime time era s
  | .ready => Sys2Proof.Machine.execReady s
  | .badgePut b => Sys2Proof.Machine.execBadgePut b s
  | .badgeDrop force badge => Sys2Proof.Machine.execBadgeDrop force badge s
  | .badgeRead a badge => Sys2Proof.Machine.execBadgeRead a badge s
  | .musterRead a => Sys2Proof.Machine.execMusterRead a s
  | .payRead a badge => Sys2Proof.Machine.execPayRead a badge s
  | .periodClose => Sys2Proof.Machine.execPeriodClose s
  | .traceMark => Sys2Proof.Machine.execTraceMark s
  | .traceRead => Sys2Proof.Machine.execTraceRead s
  | .incidentTake => Sys2Proof.Machine.execIncidentTake s
  | .statusRead a b => Sys2Proof.Machine.execStatusRead a b s
  | .peerRead a => Sys2Proof.Machine.execPeerRead a s
  | .hold a => Sys2Proof.Machine.execHold a s
  | .resume => Sys2Proof.Machine.execResume s
  | .arm a => Sys2Proof.Machine.execArm a s
  | .disarm a => Sys2Proof.Machine.execDisarm a s
  | .passbackMode a => Sys2Proof.Machine.execPassbackMode a s
  | .evacuate => Sys2Proof.Machine.execEvacuate s
  | .allClear => Sys2Proof.Machine.execAllClear s
  | .shiftTime a => Sys2Proof.Machine.execShiftTime a s
  | .attentionRead => Sys2Proof.Machine.execAttentionRead s
  | .unknownCommand code => Sys2Proof.Machine.execUnknownCommand code s
  | .mailboxWrite address bytes => Sys2Proof.Machine.execMailboxWrite address bytes s
  | .overrun addr byte => Sys2Proof.Machine.execOverrun addr byte s
  | .fullReset => Sys2Proof.Machine.execFullReset s
  | .supplyFailure => Sys2Proof.Machine.execSupplyFailure s
  | .supplyReturn => Sys2Proof.Machine.execSupplyReturn s
  | .backupLoss => Sys2Proof.Machine.execBackupLoss s
  | .readerFrame l chars => Sys2Proof.Machine.execReaderFrame l chars s
  | .readerBreakSecond l => Sys2Proof.Machine.execReaderBreakSecond l s
  | .inputLevelChange input level => Sys2Proof.Machine.execInputLevelChange input level s
  | .debounceExpiry input => Sys2Proof.Machine.execDebounceExpiry input s
  | .firstLevelFound input => Sys2Proof.Machine.execFirstLevelFound input s
  | .evacContactEdge => Sys2Proof.Machine.execEvacContactEdge s
  | .senseCheckExpiry l => Sys2Proof.Machine.execSenseCheckExpiry l s
  | .releaseTimerExpiry l => Sys2Proof.Machine.execReleaseTimerExpiry l s
  | .heldOpenExpiry l => Sys2Proof.Machine.execHeldOpenExpiry l s
  | .evacReadExpiry l => Sys2Proof.Machine.execEvacReadExpiry l s
  | .clockSecond => Sys2Proof.Machine.execClockSecond s
  | .clockEndReached => Sys2Proof.Machine.execClockEndReached s
  | .endHoldSecond => Sys2Proof.Machine.execEndHoldSecond s
  | .oscillatorStop => Sys2Proof.Machine.execOscillatorStop s
  | .degradedSecond => Sys2Proof.Machine.execDegradedSecond s
  | .ringInstant entry => Sys2Proof.Machine.execRingInstant entry s
  | .dayRoll => Sys2Proof.Machine.execDayRoll s
  | .doubtEnd => Sys2Proof.Machine.execDoubtEnd s
  | .beaconTime => Sys2Proof.Machine.execBeaconTime s
  | .endOfJoin => Sys2Proof.Machine.execEndOfJoin s
  | .peerSilence peer => Sys2Proof.Machine.execPeerSilence peer s
  | .clashTimerExpiry => Sys2Proof.Machine.execClashTimerExpiry s
  | .windowExpiry r => Sys2Proof.Machine.execWindowExpiry r s
  | .punch f => Sys2Proof.Machine.execPunch f s
  | .beacon f => Sys2Proof.Machine.execBeacon f s
  | .bellCue f => Sys2Proof.Machine.execBellCue f s
  | .clear f => Sys2Proof.Machine.execClear f s
  | .allClearFrame source => Sys2Proof.Machine.execAllClearFrame source s
  | .lineError run => Sys2Proof.Machine.execLineError run s
  | .numberClash f => Sys2Proof.Machine.execNumberClash f s
  | .deferralStart => Sys2Proof.Machine.execDeferralStart s
  | .yield => Sys2Proof.Machine.execYield s
  | .deferralEnd => Sys2Proof.Machine.execDeferralEnd s
  | .sentWhole => Sys2Proof.Machine.execSentWhole s
  | .collision => Sys2Proof.Machine.execCollision s
  | .patternPhaseEnd => Sys2Proof.Machine.execPatternPhaseEnd s
  | .patternComplete => Sys2Proof.Machine.execPatternComplete s
  | .resetRelease => Sys2Proof.Machine.execResetRelease s

end Sys2Proof.Machine
end

