-- ==== Sys2Proof/Machine/TimeOps.lean ====
section
/-! DEFINITION. What the block does when no command waits (assumption 1): the first of the events that have fallen due is
queued, and when none has, a sixteenth of a second of real time passes. One event is queued at a time, so that the timer of
a later one is looked at again after it: an event that stops or restarts a timer takes away the expiry (R148). -/

namespace Sys2Proof.Machine

/-- A command that is queued when a condition holds. -/
def dueWhen (b : Bool) (c : Instr) : List Instr := if b then [c] else []

/-- A timer has run out. -/
def ranOut (t : Option Nat) : Bool := decide (t = some 0)

/-- The events due at a lane. -/
def State.dueLane (s : State) (l : Lane) : List Instr :=
  let u := s.lane l
  if s.watched l then
    dueWhen (ranOut u.senseCheck) (.senseCheckExpiry l) ++
      dueWhen (decide (u.state = .opened) && ranOut u.heldOpen) (.heldOpenExpiry l) ++
      dueWhen (decide (u.state = .released) && ranOut u.releaseTimer) (.releaseTimerExpiry l) ++
      dueWhen (ranOut (u.evacRead.map (·.left))) (.evacReadExpiry l) ++
      dueWhen (ranOut u.aux.timer && u.aux.sought) (.firstLevelFound (.aux l)) ++
      dueWhen (ranOut u.aux.timer && u.aux.ready (s.inputs.aux.get l)) (.debounceExpiry (.aux l)) ++
      dueWhen (ranOut u.sense.timer && u.sense.sought) (.firstLevelFound (.sense l)) ++
      dueWhen (ranOut u.sense.timer && u.sense.ready (s.inputs.sense.get l)) (.debounceExpiry (.sense l))
  else []

/-- The events due at the evacuation contact (R161). -/
def State.dueContact (s : State) : List Instr :=
  if s.station.serving && ranOut s.control.contactTimer then
    dueWhen (!s.control.contactFound) (.firstLevelFound .contact) ++
      dueWhen (s.control.contactFound && decide (s.inputs.contact ≠ s.control.contact)) .evacContactEdge
  else []

/-- The event due on the bell output (R103). -/
def State.dueBell (s : State) : List Instr :=
  match s.bell.arbiter with
  | none => []
  | some y =>
    if y.left = 0 then
      [if y.endsPeriod (s.pattern y.pattern) && y.lastRepeat (s.pattern y.pattern) then .patternComplete
       else .patternPhaseEnd]
    else []

/-- An entry's ring instant was reached by the latest counting, and the entry is due (R97). -/
def State.ringDue (s : State) (e : Fin 48) : Bool :=
  match s.instantReached e with
  | none => false
  | some d => (s.bellEntry e).due s.sw0.weekday d

/-- The ring instant of an entry that the latest counting reached, as bell time (R96, R97); 0 where it reached none. -/
def State.instantTime (s : State) (e : Fin 48) : Nat := ((s.instantReached e).map (ringBellTime (s.bellEntry e))).getD 0

/-- The entries due at the ring instants that the latest counting reached: an earlier instant before a later one, as counting
reaches them, and entries of one instant in ascending number (R97). One CLOCK_SECOND of 17 ticks can reach two instants,
16 ticks apart. DESIGN CHOICE (assumption 33): the entries of both are taken after the whole of it, in this order. -/
def State.ringsDue (s : State) : List (Fin 48) :=
  sortByKey s.instantTime ((List.finRange 48).filter s.ringDue)

/-- The events that plant time brings: the end of range (R77), and after READY the day roll (R69) and the ring instants in
their order (R97). -/
def State.dueClock (s : State) : List Instr :=
  dueWhen (decide (s.clock.time = endOfRange) && !s.clock.endMark) .clockEndReached ++
    (if s.station = .setup then []
     else
      dueWhen (decide (s.pay.today < payDay s.dayRollMinute s.clock.time)) .dayRoll ++
        s.ringsDue.map .ringInstant)

/-- The events due at the station's timers, the windows and the peers. -/
def State.dueStation (s : State) : List Instr :=
  if s.station.serving then
    RuleNo.all.flatMap (fun r =>
      dueWhen (ranOut ((s.watch.rules.get r).first.map (·.left))) (.windowExpiry r)) ++
      dueWhen (ranOut s.line.clashTimer) .clashTimerExpiry ++
      (List.finRange 16).flatMap (fun p =>
        dueWhen (decide ((s.peer p).state = .heard) && ranOut (s.peer p).silence) (.peerSilence p)) ++
      dueWhen (s.station.sending && ranOut s.line.beaconTimer) .beaconTime ++
      dueWhen (decide (s.station = .join) && ranOut s.control.joinTimer) .endOfJoin
  else []

/-- The reports due from the supply monitor (R180). -/
def State.dueSupply (s : State) : List Instr :=
  dueWhen s.supply.loss .backupLoss ++ dueWhen (ranOut s.supply.failing) .supplyFailure ++
    dueWhen (ranOut s.supply.returning) .supplyReturn

/-- Every event due, and the command of a mailbox whose GO is set (R197). -/
def State.due (s : State) : List Instr :=
  s.dueSupply ++ s.dueBell ++ s.dueClock ++ Lane.all.flatMap s.dueLane ++ s.dueContact ++ s.dueStation ++
    dueWhen s.port.go s.port.held

/-- A mark set at a moment of real time has stood through the second that now ends. -/
def Clock.stoodSecond (c : Clock) (from_ : Nat) : Bool := decide (from_ + ticksPerSecond ≤ c.realTime)

/-- The events at the end of a second of real time (R77, R78). A second in which END or DEGRADED was set partway gives no
detection at its end: for END worked case 6 of 04_plant_time.md shows it, and for DEGRADED it is DEDUCED from it
(assumption 41). -/
def State.secondEvents (s : State) : List Instr :=
  dueWhen (s.clock.degraded && s.clock.stoodSecond s.clock.oscFrom && decide (s.station ≠ .holdover)) .degradedSecond ++
    dueWhen (s.clock.endMark && s.clock.stoodSecond s.clock.endFrom) .endHoldSecond

/-- A sixteenth of a second of real time passes; at the end of a second its events are queued (R76, R77, R78). -/
def State.passSixteenth (s : State) : State :=
  let t := (s.modClock fun c => { c with countedFrom := c.time }).sixteenth
  if t.clock.sixteenth = 0 then { t with pending := t.secondEvents } else t

/-- A part held in reset with no command waiting: nothing passes (R172). A part without power takes its power-on reset when
the gate supply has returned (R186). -/
def State.idleInReset (s : State) : State :=
  if s.supply.unpowered && s.inputs.gateBack then { s with pending := [.supplyReturn] } else s

/-- What the step does on an empty queue (assumption 1). -/
def State.idle (s : State) : State :=
  if s.inReset then s.idleInReset
  else if s.due.isEmpty then s.passSixteenth
  else { s with pending := s.due.take 1 }

end Sys2Proof.Machine
end

