-- ==== Sys2Proof/WellFormed.lean ====
section
/-! DEFINITION. The well-formed commands: the operands that the row of the table can carry. `exec` is total all the same; an
ill-formed command names an event that cannot come. -/

namespace Sys2Proof

/-- A SET WORD block has the word its constructor names; `undefined` is a word number above 5 (R173). -/
def SetWordBlock.wellFormed : SetWordBlock → Bool
  | .undefined a => decide (5 < a.toNat)
  | _ => true

/-- A run of characters that the receiver discards (R112, R113). -/
def LineRun.wellFormed : LineRun → Bool
  | .heard chars => !chars.isEmpty && Machine.discardedRun (.heard chars)
  | .trailing chars => Machine.discardedRun (.trailing chars)

/-- A command is well formed: a set word block names its word; UNKNOWN_COMMAND has a byte that names no command (R203); a
reader frame has a character (R205); a PUNCH carries a badge number and so is valid (R113), alone or in a number clash; a
line error is about characters that are discarded (R112); and a MAILBOX_WRITE is a write transaction with a data byte
(R196). -/
def Instr.wellFormed : Instr → Bool
  | .setWord w => w.wellFormed
  | .unknownCommand code => !Machine.commandCodes.contains code
  | .readerFrame _ chars => !chars.isEmpty
  | .punch f => Machine.frameValid (.punch f)
  | .numberClash f => Machine.frameValid f
  | .lineError run => run.wellFormed
  | .mailboxWrite address bytes => !address.getLsbD 7 && !bytes.isEmpty
  | .loadClass _ _ | .loadBell _ _ | .loadPattern _ _ | .loadRule _ _ | .setTime _ _ | .ready | .badgePut _
  | .badgeDrop _ _ | .badgeRead _ _ | .musterRead _ | .payRead _ _ | .periodClose | .traceMark | .traceRead
  | .incidentTake | .statusRead _ _ | .peerRead _ | .hold _ | .resume | .arm _ | .disarm _ | .passbackMode _ | .evacuate
  | .allClear | .shiftTime _ | .attentionRead | .overrun _ _ | .fullReset | .supplyFailure
  | .supplyReturn | .backupLoss | .readerBreakSecond _ | .inputLevelChange _ _ | .debounceExpiry _
  | .firstLevelFound _ | .evacContactEdge | .senseCheckExpiry _ | .releaseTimerExpiry _ | .heldOpenExpiry _
  | .evacReadExpiry _ | .clockSecond | .clockEndReached | .endHoldSecond | .oscillatorStop | .degradedSecond
  | .ringInstant _ | .dayRoll | .doubtEnd | .beaconTime | .endOfJoin | .peerSilence _ | .clashTimerExpiry
  | .windowExpiry _ | .beacon _ | .bellCue _ | .clear _ | .allClearFrame _ | .deferralStart | .yield | .deferralEnd
  | .sentWhole | .collision | .patternPhaseEnd | .patternComplete | .resetRelease => true

end Sys2Proof
end

