-- ==== Sys2Proof/Safety.lean ====
section
/-! DEFINITION. The terms the statements about the block are made in: how a terminal command completes, where a command is
refused (12 section 12.2), when nothing waits to be taken by the watch unit, and the invariants of a run. -/

namespace Sys2Proof.Machine

/-! ## Terminal commands -/

/-- A terminal command completed with a result: the result code over the command byte with the OVERRUN mark of the state
before in bit 7, OVERRUN and GO cleared (R197, R198, R203). -/
def Completed (s t : State) (c : ResultCode) : Prop :=
  t.port.command.toNat = c.code + (if s.port.overrun then 128 else 0) ∧ t.port.overrun = false ∧ t.port.go = false

/-- A terminal command completed with a result, its mailbox the only thing changed. -/
def OnlyAnswered (s t : State) (c : ResultCode) : Prop :=
  t = { s with port := t.port } ∧ t.port.payFlag = s.port.payFlag ∧ Completed s t c

/-- The port takes a terminal command: GO is clear, or the command is the one in flight, whose values the mailbox keeps
(R197, R198). -/
def State.portTakes (s : State) (c : Instr) : Prop := s.port.go = true → s.port.held = c

/-- A command that the terminal puts in the mailbox (12 section 12.2); a byte that names a command is no unknown one. -/
def isTerminal : Instr → Prop
  | .setWord _ | .loadClass _ _ | .loadBell _ _ | .loadPattern _ _ | .loadRule _ _ | .setTime _ _ | .ready
  | .badgePut _ | .badgeDrop _ _ | .badgeRead _ _ | .musterRead _ | .payRead _ _ | .periodClose | .traceMark | .traceRead
  | .incidentTake | .statusRead _ _ | .peerRead _ | .hold _ | .resume | .arm _ | .disarm _ | .passbackMode _ | .evacuate
  | .allClear | .shiftTime _ | .attentionRead => True
  | .unknownCommand code => code ∉ commandCodes
  | .mailboxWrite _ _ | .overrun _ _ | .fullReset | .resetRelease | .supplyFailure | .supplyReturn | .backupLoss
  | .readerFrame _ _ | .readerBreakSecond _ | .inputLevelChange _ _ | .debounceExpiry _ | .firstLevelFound _
  | .evacContactEdge | .senseCheckExpiry _ | .releaseTimerExpiry _ | .heldOpenExpiry _ | .evacReadExpiry _ | .clockSecond
  | .clockEndReached | .endHoldSecond | .oscillatorStop | .degradedSecond | .ringInstant _ | .dayRoll | .doubtEnd
  | .beaconTime | .endOfJoin | .peerSilence _ | .clashTimerExpiry | .windowExpiry _ | .punch _ | .beacon _ | .bellCue _
  | .clear _ | .allClearFrame _ | .lineError _ | .numberClash _ | .deferralStart | .yield | .deferralEnd | .sentWhole
  | .collision | .patternPhaseEnd | .patternComplete => False

/-- A port address that the mailbox occupies (R203). -/
abbrev inMailbox (addr : Nat) : Prop := addr < 0x06 ∨ (0x10 ≤ addr ∧ addr < 0x50)

/-- What a badge block spells, when every value of it is good (R3, R206). -/
def Spells (b : BadgeBlock) (f : BadgeFields) : Prop :=
  (f.number = b.number.toNat ∧ 1 ≤ f.number ∧ f.number ≤ 16777214) ∧ f.cls.val = b.cls.toNat ∧
  ((b.status = 1 ∧ f.status = .active) ∨ (b.status = 2 ∧ f.status = .blocked)) ∧
  ((b.mode = 1 ∧ f.mode = .strict) ∨ (b.mode = 2 ∧ f.mode = .soft) ∨ (b.mode = 3 ∧ f.mode = .modeNone)) ∧
  f.home.val = b.home.toNat ∧
  ((b.expiryPresent = 0 ∧ f.expiry = none) ∨
    (b.expiryPresent = 1 ∧ f.expiry = some b.expiry.toNat ∧ b.expiry.toNat ≤ 3106))

/-- An entry with the fields of a badge block, a pay slot and a presence record. -/
def BadgeFields.entry (f : BadgeFields) (slot : Option Nat) (presence : Presence) : BadgeEntry :=
  { number := f.number, cls := f.cls, status := f.status, expiry := f.expiry, mode := f.mode, home := f.home,
    paySlot := slot, presence }

/-- A pay record as allocation leaves it for a current pay day number (R50). -/
def newRecord (today : Nat) : PayRecord :=
  { openIn := none, orphan := none, current := .empty today, previous := .empty (today - 1), period := .zero,
    last := .zero }

/-- The pay unit with the free record of the lowest number allocated, and that number (R50). -/
def Allocated (s t : State) (slot : Nat) : Prop :=
  slot < 1024 ∧ s.pay.record slot = none ∧ (∀ k < slot, (s.pay.record k).isSome = true) ∧
  t.pay.record slot = some (newRecord s.pay.today) ∧ (∀ k, k ≠ slot → t.pay.record k = s.pay.record k) ∧
  t.pay.today = s.pay.today ∧ t.pay.classes = s.pay.classes ∧ t.pay.earlyRolls = s.pay.earlyRolls

/-- The pay unit with a record freed (R50). -/
def Freed (s t : State) (slot : Nat) : Prop :=
  t.pay.record slot = none ∧ (∀ k, k ≠ slot → t.pay.record k = s.pay.record k) ∧
  t.pay.today = s.pay.today ∧ t.pay.classes = s.pay.classes ∧ t.pay.earlyRolls = s.pay.earlyRolls

/-- The badge table with the entry of one number replaced, put in or removed: every other number is looked up as before, and
the cursor and the own counts stand. -/
def TableChanged (s t : State) (badge : Nat) (e : Option BadgeEntry) : Prop :=
  t.lookup badge = e ∧ (∀ n, n ≠ badge → t.lookup n = s.lookup n) ∧ t.badges.cursor = s.badges.cursor ∧
  t.badges.ownStale = s.badges.ownStale ∧ t.badges.ownStranger = s.badges.ownStranger

/-- The part is out of reset and in SETUP. -/
def State.inSetup (s : State) : Prop := s.inReset = false ∧ s.station = .setup

/-- The part is out of reset, in JOIN, LIVE, HELD or EVACUATE. -/
def State.served (s : State) : Prop := s.inReset = false ∧ s.station.serving = true

/-- The part is out of reset, in LIVE, HELD or EVACUATE. -/
def State.sends (s : State) : Prop := s.inReset = false ∧ s.station.sending = true

/-- The result that 12 section 12.2 gives a terminal command refused in a station state; `none` for a command taken there,
and for what is no terminal command. -/
def refusedIn : Instr → StationState → Option ResultCode
  | .setWord _, x | .loadClass _ _, x | .loadBell _ _, x | .loadPattern _ _, x | .loadRule _ _, x | .ready, x =>
    if x = .setup then none else some .locked
  | .setTime _ _, x => if x = .join ∨ x = .holdover then some .notInState else none
  | .badgePut _, x | .badgeDrop _ _, x | .badgeRead _ _, x | .musterRead _, x | .payRead _ _, x | .periodClose, x
  | .traceMark, x | .traceRead, x | .incidentTake, x | .hold _, x | .resume, x | .arm _, x | .disarm _, x
  | .passbackMode _, x => if x = .setup ∨ x = .holdover then some .notInState else none
  | .evacuate, x | .shiftTime _, x => if x = .setup ∨ x = .join ∨ x = .holdover then some .notInState else none
  | .allClear, x => if x = .evacuate then none else some .notInState
  | .statusRead _ _, _ | .peerRead _, _ | .attentionRead, _ | .unknownCommand _, _ | .mailboxWrite _ _, _
  | .overrun _ _, _ | .fullReset, _ | .supplyFailure, _ | .supplyReturn, _ | .backupLoss, _ | .readerFrame _ _, _
  | .readerBreakSecond _, _ | .inputLevelChange _ _, _ | .debounceExpiry _, _ | .firstLevelFound _, _
  | .evacContactEdge, _ | .senseCheckExpiry _, _ | .releaseTimerExpiry _, _ | .heldOpenExpiry _, _
  | .evacReadExpiry _, _ | .clockSecond, _ | .clockEndReached, _ | .endHoldSecond, _ | .oscillatorStop, _
  | .degradedSecond, _ | .ringInstant _, _ | .dayRoll, _ | .doubtEnd, _ | .beaconTime, _ | .endOfJoin, _
  | .peerSilence _, _ | .clashTimerExpiry, _ | .windowExpiry _, _ | .punch _, _ | .beacon _, _ | .bellCue _, _
  | .clear _, _ | .allClearFrame _, _ | .lineError _, _ | .numberClash _, _ | .deferralStart, _ | .yield, _
  | .deferralEnd, _ | .sentWhole, _ | .collision, _ | .patternPhaseEnd, _ | .patternComplete, _ | .resetRelease, _ => none

/-! ## The watch unit at rest -/

/-- Nothing waits to be taken by the watch unit, and no rule is armed. -/
def State.calm (s : State) : Prop := s.watch.handed = [] ∧ ∀ r, (s.watch.rules.get r).armed = false

/-- The incident queue after an incident: at its tail, or lost when the queue is full (R155). -/
def WatchUnit.queue (w : WatchUnit) (i : Incident) : WatchUnit :=
  if w.incidents.length < 16 then { w with incidents := w.incidents ++ [i] } else { w with lost := min 255 (w.lost + 1) }

/-- The trace entry at a position is the admission whose release an UNUSED event closes: outcome ADMIT or FLAGGED, the same
lane and badge, and the read time that the event carries (R157). -/
def isAdmission (w : WatchUnit) (l : Lane) (e : LaneEvent) (k : Nat) : Prop :=
  ∃ x, w.trace.getD k none = some x ∧ (x.outcome = .admitted ∨ x.outcome = .flagged) ∧ x.lane = l ∧
    x.badge = e.badge ∧ e.readTime = some x.time

/-- An own-lane event entered in the gate trace (R157): it takes the write position and the next event number, an UNUSED
event marks the newest entry of its admission that is still held, and every other position stands. -/
def EventTraced (w v : WatchUnit) (l : Lane) (e : LaneEvent) : Prop :=
  let age (k : Nat) : Nat := (w.writePos + 32 - k) % 32
  v = { w with trace := v.trace, writePos := (w.writePos + 1) % 32, nextEvent := w.nextEvent + 1 } ∧
  v.trace.length = 32 ∧
  v.trace.getD w.writePos none = some
    { number := w.nextEvent, time := e.time, lane := l, badge := e.badge, outcome := e.kind, reason := e.reason,
      unused := decide (e.kind = .unused) } ∧
  ∀ k, k < 32 → k ≠ w.writePos →
    let newest : Prop := e.kind = .unused ∧ isAdmission w l e k ∧
      ∀ j, j < 32 → j ≠ w.writePos → age j < age k → ¬ isAdmission w l e j
    (newest → v.trace.getD k none = (w.trace.getD k none).map fun x => { x with unused := true }) ∧
    (¬ newest → v.trace.getD k none = w.trace.getD k none)

/-- Own-lane events entered in the gate trace one after another; a PEER_PUNCH is not traced (R141, R157). -/
def EventsTraced : WatchUnit → List LaneEvent → WatchUnit → Prop
  | w, [], v => v = w
  | w, e :: rest, v =>
    match e.lane with
    | .own l => ∃ u, EventTraced w u l e ∧ EventsTraced u rest v
    | .peer => EventsTraced w rest v

/-- The watch unit took own-lane events and nothing else: no rule moved, nothing waits, the queue of incidents is the one
given, and the gate trace holds the events. -/
def Traced (s t : State) (events : List LaneEvent) (queue : WatchUnit) : Prop :=
  t.watch.rules = s.watch.rules ∧ t.watch.handed = [] ∧ t.watch.readPtr = s.watch.readPtr ∧
  t.watch.incidents = queue.incidents ∧ t.watch.lost = queue.lost ∧
  t.watch.nextEvent = s.watch.nextEvent + BitVec.ofNat 16 events.length ∧
  (events = [] → t.watch.trace = s.watch.trace ∧ t.watch.writePos = s.watch.writePos) ∧
  (s.watch.trace.length = 32 → s.watch.writePos < 32 → ∃ v, EventsTraced s.watch events v ∧
    t.watch.trace = v.trace ∧ t.watch.writePos = v.writePos)

/-- An own-lane event at the plant time of a state (R46). -/
def eventOf (s : State) (kind : EventKind) (l : Lane) (badge : Option Nat) (reason : Option Reason)
    (readTime : Option Nat := none) : LaneEvent :=
  { kind, time := s.clock.time, lane := .own l, badge, reason, readTime, source := none, direction := none,
    outcome := none }

/-- The UNUSED event of a lane's pending release, when it holds one (R32). -/
def unusedOf (s : State) (l : Lane) : List LaneEvent :=
  match (s.lane l).release with
  | none => []
  | some p => [eventOf s .unused l (some p.badge) none (some p.readTime)]

/-! ## Lanes -/

/-- The lane and its inputs are watched: the part is out of reset, the station in JOIN, LIVE, HELD or EVACUATE, and the lane
fitted (R17, R18). -/
def State.watches (s : State) (l : Lane) : Prop := s.served ∧ (s.lane l).kind ≠ .off

/-- An input's debounce timer has run with a debounced level found and its raw level different from it (R18). -/
def EdgeReady (d : Debounced) (raw : Bool) : Prop := d.timer.isSome = true ∧ d.level = some (!raw)

/-- A lane is held: by a reason of its own, or with the station in HELD (R23). -/
def heldLane (s : State) (l : Lane) : Prop := s.control.laneReasons.get l ≠ [] ∨ s.station = .held

/-- A fitted lane with its strike driven, outside HOLDOVER (R20, R24): a change of the drive starts a sense check of one second,
or starts it anew. -/
def drivenLane (u : LaneUnit) (drive : Bool) : LaneUnit :=
  { u with drive, senseCheck := if u.drive = drive then u.senseCheck else some 16 }

/-- The drive of a lane in LIVE and HELD, by its state (R24). -/
def liveDrive (u : LaneUnit) : Bool :=
  match u.state with
  | .released | .fault => true
  | .opened => u.openDrive
  | .off | .idle | .held => false

/-- A lane put in OPEN with no release running and its strike LOCKED, but in EVACUATE (R19, R34, R39, R40): its held-open timer
starts, outside EVACUATE. -/
def doorOpened (s : State) (l : Lane) (u : LaneUnit) : LaneUnit :=
  drivenLane
    { u with
      state := .opened
      openDrive := false
      releaseTimer := none
      heldOpen := if s.station = .evacuate then none else some (16 * (s.sw2.limits.get l).heldOpen) }
    (decide (s.station = .evacuate))

/-- The reason for which a read of a badge is refused on a lane, at the plant time of the state, by the first of the rows of
R25 whose condition holds; `none` for a read that is admitted. -/
def refusalRow (s : State) (l : Lane) (badge : Nat) : Option Reason :=
  if s.station = .setup ∨ s.station = .join ∨ s.station = .holdover then some .notLive
  else if s.station = .evacuate then (if (s.sw1 l).direction = .dirIn then some .evac else none)
  else if s.control.laneReasons.get l ≠ [] ∨ s.station = .held then some .held
  else
    match s.lookup badge with
    | none => some .unknown
    | some e =>
      if e.status = .blocked then some .blocked
      else if (match e.expiry with | some d => decide (d < s.pay.today) | none => false) then some .expired
      else if (s.sw1 l).direction = .dirIn ∧
          (match (s.pay.shiftClass e.cls).hours with
            | some (start, stop) =>
              let m := payTicks s.dayRollMinute (payDay s.dayRollMinute s.clock.time) s.clock.time
              let low := 960 * (shiftStart s.dayRollMinute start - (s.pay.shiftClass e.cls).lead)
              let high := 960 * shiftEnd s.dayRollMinute start stop
              decide (¬ (low ≤ m ∧ m ≤ high) ∧ ¬ (low ≤ m - 1382400 ∧ m - 1382400 ≤ high) ∧
                ¬ (low ≤ m + 1382400 ∧ m + 1382400 ≤ high))
            | none => false) = true then some .offShift
      else if e.mode = .strict ∧ e.presence.state = presenceOf (s.sw1 l).direction ∧ s.doubtActive = false ∧
          s.control.override = .follow then some .passback
      else none

/-- A read that is admitted is flagged: passback is found (R27). -/
def flaggedRead (s : State) (l : Lane) (badge : Nat) : Prop :=
  ∃ e, s.lookup badge = some e ∧ e.mode ≠ .modeNone ∧ e.presence.state = presenceOf (s.sw1 l).direction

/-- A presence update (R10 to R14): applied to the entry of the badge when the passage is not earlier than its change time,
and otherwise counted stale, or as a stranger when the badge is not in the table. `own` is an own punch. -/
def PresenceTaken (s t : State) (badge : Nat) (dir : Direction) (time : Nat) (source : Station) (own : Bool) : Prop :=
  (∀ n, n ≠ badge → t.lookup n = s.lookup n) ∧ t.badges.cursor = s.badges.cursor ∧
  (∀ e, s.lookup badge = some e → e.presence.time ≤ time →
    t.lookup badge = some { e with presence := { state := presenceOf dir, time, source := some source } } ∧
    t.badges.muster =
      (if dir = .dirIn ∧ e.presence.state ≠ .isIn then s.badges.muster + 1
       else if dir = .dirOut ∧ e.presence.state = .isIn then s.badges.muster - 1 else s.badges.muster) ∧
    t.badges.ownStale = s.badges.ownStale ∧ t.badges.ownStranger = s.badges.ownStranger) ∧
  (∀ e, s.lookup badge = some e → time < e.presence.time →
    t.badges = { s.badges with
      ownStale := if own then min 255 (s.badges.ownStale + 1) else s.badges.ownStale }) ∧
  (s.lookup badge = none →
    t.badges = { s.badges with
      ownStranger := if own then min 255 (s.badges.ownStranger + 1) else s.badges.ownStranger })

/-- An own punch entered in the journal (R127): it takes the next number and joins the tail, or is left out with the journal
full. -/
def Journaled (s t : State) (l : Lane) (badge : Nat) (dir : Direction) (outcome : PunchOutcome) : Prop :=
  t.journal.next = s.journal.next + 1 ∧
  (s.journal.entries.length < 64 →
    ∃ tag, t.journal.entries = s.journal.entries ++
        [{ tag, seq := s.journal.next, badge, lane := l, direction := dir, outcome, time := s.clock.time,
           era := s.clock.era }] ∧
      t.journal.full = s.journal.full ∧ t.journal.leftOut = s.journal.leftOut) ∧
  (64 ≤ s.journal.entries.length →
    t.journal.entries = s.journal.entries ∧ t.journal.full = true ∧
      t.journal.leftOut = min 65535 (s.journal.leftOut + 1))

/-- The flags that a day roll adds from a pay record into its period (R70): those of its previous slot once its open parts
of an earlier pay day are closed there, and EARLY_LEAVE when its last OUT comes before the end of its class. -/
def rolledFlags (s : State) (r : PayRecord) : PayFlags :=
  let c := s.pay.today
  let oldIn : Bool := r.openIn.any fun i => decide (i.day < c)
  let oldOut : Bool := r.orphan.any fun o => decide (payDay s.dayRollMinute o.time < c)
  let early : Bool :=
    match r.previous.lastOut with
    | none => false
    | some (o, cls) => ((s.pay.shiftClass cls).stop s.dayRollMinute).any fun e => decide (o < e)
  r.previous.flags ||| (if oldIn then 0x010 ||| (if r.openIn.any OpenIn.flagged then 0x020 else 0) else 0) |||
    (if oldOut then 0x008 else 0) ||| (if early then 0x004 else 0)

/-- A pay record rolled to the next pay day (R70): its open parts of an earlier pay day closed, its previous slot added into
the period, and its current slot moved to previous. A figure that has reached its top sets SATURATED (R53). -/
def rolledRecord (s : State) (r : PayRecord) : PayRecord :=
  let c := s.pay.today
  let days : Nat := if 0 < r.previous.intervals then 1 else 0
  { openIn := if r.openIn.any fun i => decide (i.day < c) then none else r.openIn
    orphan := if r.orphan.any fun o => decide (payDay s.dayRollMinute o.time < c) then none else r.orphan
    current := .empty (c + 1)
    previous := r.current
    period :=
      { regular := min 65535 (r.period.regular + r.previous.regular)
        ot1 := min 65535 (r.period.ot1 + r.previous.ot1)
        ot2 := min 65535 (r.period.ot2 + r.previous.ot2)
        night := min 65535 (r.period.night + r.previous.night)
        days := min 255 (r.period.days + days)
        flags := r.period.flags ||| rolledFlags s r
        saturated := r.period.saturated || decide (65535 ≤ r.period.regular + r.previous.regular) ||
          decide (65535 ≤ r.period.ot1 + r.previous.ot1) || decide (65535 ≤ r.period.ot2 + r.previous.ot2) ||
          decide (65535 ≤ r.period.night + r.previous.night) || decide (255 ≤ r.period.days + days) }
    last := r.last }

/-- The PAY_FLAG mark after a day roll: set when the roll adds flags into some record's period (R70). -/
def rolledPayFlag (s : State) : Bool :=
  s.port.payFlag || s.pay.records.any fun x => decide (rolledFlags s x.2 ≠ 0)

/-- The state after one roll of every linked record (R69, R70). -/
def rolledOnce (s : State) : State :=
  { s with
    pay := { s.pay with records := s.pay.records.map fun x => (x.1, rolledRecord s x.2), today := s.pay.today + 1 }
    port := { s.port with payFlag := rolledPayFlag s } }

/-- A punch of the pay day `c` or the day before, paired by a record of a badge of class `cls` (R56 to R59). An IN opens,
closing an open IN MISSING_OUT and an earlier orphan MISSING_IN, or pairs with an orphan that is not earlier. An OUT closes
an open IN that is not later, is MISSING_IN before it, and otherwise becomes the orphan; `after` says what the record is
then. DESIGN CHOICE (assumption 23): the flags of a pay day other than `c` go to the previous slot. -/
def PunchPairs (s : State) (c : Nat) (r : PayRecord) (cls : Fin 8) (p : PayPunch) (after : PayRecord → Prop) : Prop :=
  let roll := s.dayRollMinute
  let day := payDay roll p.time
  let arrival : PayFlags := (if p.flagged then 0x020 else 0) ||| (if p.evac then 0x040 else 0)
  let withSlot (x : PayRecord) (d : Nat) (f : DaySlot → DaySlot) : PayRecord :=
    if d = c then { x with current := f x.current } else { x with previous := f x.previous }
  let flagged (x : PayRecord) (d : Nat) (m : PayFlags) : PayRecord := withSlot x d fun y => { y with flags := y.flags ||| m }
  let opened : OpenIn := { time := p.time, day, era := p.era, cls, source := p.source, flagged := p.flagged }
  let orphaned : Orphan := { time := p.time, era := p.era, source := p.source }
  let credited (i : OpenIn) (out : Nat) (era : BitVec 8) : PayRecord :=
    withSlot r i.day fun y =>
      y.credit (s.pay.shiftClass i.cls) i.cls roll (r.period.regular + r.current.regular + r.previous.regular)
        ((i.time : Int) - (i.day * 1382400 + roll * 960 : Nat)) ((out : Int) - (i.day * 1382400 + roll * 960 : Nat))
        ((if i.era ≠ era then 0x080 else 0) ||| arrival)
  (p.direction = .dirIn →
    (r.openIn = none → r.orphan = none → after { flagged r day arrival with openIn := some opened }) ∧
    (∀ i, r.openIn = some i → after
      { flagged (flagged r i.day (0x010 ||| (if i.flagged then 0x020 else 0))) day arrival with openIn := some opened }) ∧
    (∀ o, r.openIn = none → r.orphan = some o → o.time < p.time → after
      { flagged (flagged r (payDay roll o.time) 0x008) day arrival with openIn := some opened, orphan := none }) ∧
    (∀ o, r.openIn = none → r.orphan = some o → p.time ≤ o.time →
      after { credited opened o.time o.era with orphan := none })) ∧
  (p.direction = .dirOut →
    (∀ i, r.openIn = some i → i.time ≤ p.time → after { credited i p.time p.era with openIn := none }) ∧
    (∀ i, r.openIn = some i → p.time < i.time → after (flagged r day (0x008 ||| arrival))) ∧
    (r.openIn = none → r.orphan = none → after { flagged r day arrival with orphan := some orphaned }) ∧
    (∀ o, r.openIn = none → r.orphan = some o →
      after { flagged (flagged r (payDay roll o.time) 0x008) day arrival with orphan := some orphaned }))

/-- A punch taken by the pay record of a badge of class `cls` (R55 to R59, R71): an old one is STALE and one beyond the next
pay day FUTURE, each a flag alone; one of the next pay day first rolls every record early and is then paired; any other is
paired. -/
def PunchPaid (s t : State) (k : Nat) (r : PayRecord) (cls : Fin 8) (p : PayPunch) : Prop :=
  let c := s.pay.today
  let day := payDay s.dayRollMinute p.time
  let after (x : PayRecord) : Prop := t.pay.record k = some x
  t.pay.classes = s.pay.classes ∧
  (day ≠ c + 1 → t.pay = { s.pay with records := t.pay.records } ∧ t.port = s.port ∧
    ∀ j, j ≠ k → t.pay.record j = s.pay.record j) ∧
  (day + 2 ≤ c → after { r with previous := { r.previous with flags := r.previous.flags ||| 0x100 } }) ∧
  (c + 2 ≤ day → after { r with current := { r.current with flags := r.current.flags ||| 0x200 } }) ∧
  (day = c + 1 → t.pay.today = c + 1 ∧ t.pay.earlyRolls = min 255 (s.pay.earlyRolls + 1) ∧
    t.port = { s.port with payFlag := rolledPayFlag s } ∧
    (∀ j, j ≠ k → t.pay.record j = (s.pay.record j).map (rolledRecord s)) ∧
    PunchPairs s (c + 1) (rolledRecord s r) cls p after) ∧
  (day ≤ c → c < day + 2 → PunchPairs s c r cls p after)

/-- The incident queue after an own punch: JOURNAL_FULL joins it when the punch is the first left out of relay (R127). -/
def journalQueue (s : State) (l : Lane) (badge : Nat) : WatchUnit :=
  if 64 ≤ s.journal.entries.length ∧ s.journal.full = false then
    s.watch.queue { kind := .journalFull, time := s.clock.time, lane := some l, badge := some badge, rule := none,
                    peer := none, detail := some s.journal.next.toNat }
  else s.watch

/-- An own punch closed on a lane and handed on in the order of R45: presence, the pay record of a badge homed here, journal,
and the lane event, which is the newest entry of the gate trace. `flagged` is the flagged mark of its release. -/
def PunchClosed (s t : State) (l : Lane) (badge : Nat) (dir : Direction) (outcome : PunchOutcome) (flagged : Bool) : Prop :=
  PresenceTaken s t badge dir s.clock.time s.ownStation true ∧
  ((∀ e, s.lookup badge = some e → e.paySlot = none) → t.pay = s.pay ∧ t.port = s.port) ∧
  (∀ e k r, s.lookup badge = some e → e.paySlot = some k → s.pay.record k = some r →
    PunchPaid s t k r e.cls
      { direction := dir, time := s.clock.time, era := s.clock.era, source := s.ownStation, flagged,
        evac := decide (outcome = .evac) }) ∧
  Journaled s t l badge dir outcome ∧
  Traced s t [eventOf s (if outcome = .passed then .passed else .evac) l (some badge) none] (journalQueue s l badge)

/-! ## Doubt and evacuation -/

/-- The doubt deadline after doubt is opened (R138). -/
def doubtDeadline (s : State) : Nat := max s.peers.deadline (min 4294967295 (s.clock.time + 960 * s.sw3.doubtHold))

/-- The incident queue after doubt is opened with a cause: a DOUBT_BEGIN joins it when no doubt was active (R138). -/
def doubtQueue (s : State) (w : WatchUnit) (cause : DoubtCause) (peer : Option Station) : WatchUnit :=
  if s.clock.time < s.peers.deadline ∨ s.peers.isolated = true then w
  else w.queue { kind := .doubtBegin, time := s.clock.time, lane := none, badge := none, rule := none, peer,
                 detail := some cause.code }

/-- A claim that sounds from its first repeat (R103). -/
def claimOf (s : State) (rank : Rank) (p : Fin 8) (e : Option (Fin 48)) : Sounding :=
  { rank, pattern := p, entry := e, repeatNo := 1, on := true, left := (s.pattern p).on }

/-- A SCHEDULED claim of an entry sounds. -/
def scheduledSounds (s : State) : Bool :=
  match s.bell.arbiter with
  | some x => decide (x.rank = .scheduled) && x.entry.isSome
  | none => false

/-- The bell trace when the sounding entry is cut (R107): its record becomes CUT, which is the newest RUNG record of the
entry (DEDUCED, assumption 30). -/
def cutTrace (s : State) : List BellRecord :=
  let ofSounding (r : BellRecord) : Bool :=
    decide (r.outcome = .rung) && s.bell.arbiter.any fun x => decide (x.entry = some r.entry)
  s.bell.trace.mapIdx fun k r =>
    if ofSounding r && !(s.bell.trace.drop (k + 1)).any ofSounding then { r with outcome := .cut } else r

/-- The bell unit with the output taken from whatever sounds (R104, R105, R107): a SCHEDULED claim that sounds is counted CUT
and its record changed; at entry into HOLDOVER too, where the record is the model's choice (DESIGN CHOICE, assumption 48). -/
def bellTaken (s : State) (arbiter : Option Sounding) : BellUnit :=
  { s.bell with
    arbiter := arbiter
    cut := if scheduledSounds s then min 65535 (s.bell.cut + 1) else s.bell.cut
    trace := if scheduledSounds s then cutTrace s else s.bell.trace }

/-- The EVAC_BEGIN incident of an entry into EVACUATE (R162). -/
def evacBegin (s : State) (reason : EvacReason) : Incident :=
  { kind := .evacBegin, time := s.clock.time, lane := none, badge := none, rule := none,
    peer := (match reason with | .frame p _ => some p | _ => none),
    detail := some (match reason with
      | .input => 1
      | .watch => 2
      | .terminal => 3
      | .frame _ .input => 1
      | .frame _ .watch => 2
      | .frame _ .terminal => 3
      | .frame _ .relay => 5) }

/-- The UNUSED events that an entry into EVACUATE brings: one for each fitted lane with a pending release, in the order of
the lanes (R41; the order is DEDUCED, assumption 31). -/
def evacEvents (s : State) : List LaneEvent :=
  Lane.all.flatMap fun l => if (s.lane l).kind = .off then [] else unusedOf s l

/-- EVACUATE entered from `s` with a reason (R41, R162), but for the evac slot and the watch unit: the record made, every
pending release of a fitted lane closed, each such lane IDLE or OPEN, every strike RELEASED with a sense check where it was
not, and the EVACUATION claim sounding. -/
def EvacuationEntered (s t : State) (reason : EvacReason) : Prop :=
  t.control = { s.control with station := .evacuate, evacRecord := some { reason, time := s.clock.time } } ∧
  t.bell = bellTaken s (some (claimOf s .evacuation s.sw4.evacPattern none)) ∧
  ∀ l, let u := s.lane l
    t.lane l =
      if u.kind = .off then { u with drive := true }
      else
        { u with
          state := if u.kind = .door ∧ u.aux.level = some true then .opened else .idle
          drive := true
          openDrive := false
          release := none
          releaseTimer := if u.release.isSome then none else u.releaseTimer
          heldOpen := none
          evacRead := none
          senseCheck := if u.drive then u.senseCheck else some 16 }

/-- The evac slot holds an ALL CLEAR that is not being sent, which an entry into EVACUATE removes (R117, R162). -/
def unsentAllClear (s : State) (e : EvacSlot) : Bool :=
  decide (e.frame = .allClear) && !s.line.sending.any fun x => decide (x.hand = { kind := .allClear, tag := e.tag })

/-- EVACUATE entered and its UNUSED events taken, with EVAC_BEGIN recorded; `later` is what the incident queue takes after
it. -/
def EvacuationBegun (s t : State) (reason : EvacReason) (later : WatchUnit → WatchUnit := id) : Prop :=
  EvacuationEntered s t reason ∧ Traced s t (evacEvents s) (later (s.watch.queue (evacBegin s reason)))

/-- One of a lane's own faults is ACTIVE under action OPEN (R40). -/
def openFault (s : State) (l : Lane) : Prop :=
  ∃ k, ((s.faults.lanes.get l).get k).state = .active ∧ ((s.faults.lanes.get l).get k).action = some .actOpen

/-- A fitted lane that the clearing of one of its records left in the state it has in `t` (R40, R193): a lane in FAULT with
no other of its faults ACTIVE under action OPEN goes to OPEN with its strike LOCKED behind an open door, and otherwise to
HELD when it is held and to IDLE; any other lane stands. `s` is the state with the record cleared. -/
def FaultLeft (s t : State) (l : Lane) : Prop :=
  ((s.lane l).state ≠ .fault ∨ openFault s l → t = s) ∧
  ((s.lane l).state = .fault → ¬ openFault s l →
    let doorOpen : Prop := (s.lane l).kind = .door ∧ (s.lane l).aux.level = some true
    let rest (x : LaneState) : LaneUnit :=
      drivenLane { s.lane l with state := x, heldOpen := none } (decide (s.station = .evacuate))
    (doorOpen → t = { s with lanes := s.lanes.set l (doorOpened s l (s.lane l)) }) ∧
    (¬ doorOpen → (heldLane s l → t = { s with lanes := s.lanes.set l (rest .held) }) ∧
      (¬ heldLane s l → t = { s with lanes := s.lanes.set l (rest .idle) })))

/-- EVACUATE left from `s` (R43, R167), but for the evac slot: HELD or LIVE by the station reasons, no record, each fitted
lane in FAULT, OPEN, HELD or IDLE, the bell silent, doubt opened with EVAC_END, and EVAC_END recorded. -/
def EvacuationEnded (s t : State) (source : Option Station) : Prop :=
  t.control =
    { s.control with
      station := if s.control.stationReasons = [] then .live else .held
      evacRecord := none } ∧
  (∀ l, let u : LaneUnit := { s.lane l with evacRead := none }
    let doorOpen : Prop := u.kind = .door ∧ u.aux.level = some true
    (u.kind = .off → t.lane l = { u with drive := liveDrive u }) ∧
    (u.kind ≠ .off → openFault s l →
      t.lane l = drivenLane
        { u with state := .fault, heldOpen := if u.state = .fault then u.heldOpen else none } true) ∧
    (u.kind ≠ .off → ¬ openFault s l → doorOpen →
      t.lane l = drivenLane
        { u with
          state := .opened
          openDrive := false
          releaseTimer := none
          heldOpen := some (16 * (s.sw2.limits.get l).heldOpen) } false) ∧
    (u.kind ≠ .off → ¬ openFault s l → ¬ doorOpen →
      t.lane l = drivenLane
        { u with
          state := if s.control.stationReasons = [] ∧ s.control.laneReasons.get l = [] then .idle else .held
          heldOpen := none } false)) ∧
  t.bell = { s.bell with arbiter := none } ∧
  t.peers = { s.peers with deadline := doubtDeadline s } ∧
  t.watch = (doubtQueue s s.watch .evacEnd none).queue
    { kind := .evacEnd, time := s.clock.time, lane := none, badge := none, rule := none, peer := source,
      detail := some (if source.isSome then 4 else 3) }

/-- A peer marked as heard (R130): its entry alone is changed, and the doubt deadline and the isolated mark stand. -/
def Heard (s t : State) (p : Station) : Prop :=
  t.peer p = { s.peer p with state := .heard, lastFrame := some s.clock.time, silence := some (16 * s.sw3.silenceLimit) } ∧
  (∀ q, q ≠ p → t.peer q = s.peer q) ∧ t.peers = { s.peers with entries := t.peers.entries }

/-! ## Holds, alarms and faults -/

/-- No hold reason is set, so that the next one is a hold entry (R152). -/
def noReason (s : State) : Prop := s.control.stationReasons = [] ∧ ∀ l, s.control.laneReasons.get l = []

/-- The hold context taken at a hold entry, which stands while some reason is set (R152). -/
def ContextTaken (s t : State) (r : HoldReason) (l : Option Lane) : Prop :=
  (noReason s → t.control.context = some
    { time := s.clock.time, reason := r, lane := l,
      lanes := s.lanes.map fun u => { state := u.state, badge := u.release.map PendingRelease.badge } }) ∧
  (¬ noReason s → t.control.context = s.control.context)

/-- A reason added to a lane (R39, R151, R152): one already set changes nothing; a new one takes the context at a hold entry,
and takes the lane from IDLE to HELD in JOIN, LIVE and HELD. -/
def LaneHeldBy (s t : State) (l : Lane) (r : HoldReason) : Prop :=
  (r ∈ s.control.laneReasons.get l → t.control = s.control ∧ t.lanes = s.lanes) ∧
  (r ∉ s.control.laneReasons.get l →
    t.control =
      { s.control with
        laneReasons := s.control.laneReasons.set l (s.control.laneReasons.get l ++ [r])
        context := t.control.context } ∧
    ContextTaken s t r (some l) ∧
    ∀ k, t.lane k =
      if k = l ∧ (s.lane k).state = .idle ∧ (s.station = .join ∨ s.station = .live ∨ s.station = .held)
      then { s.lane k with state := .held } else s.lane k)

/-- A reason added to the station (R39, R151, R152): one already set changes nothing; a new one takes the context at a hold
entry, and takes LIVE to HELD with every IDLE lane. -/
def StationHeldBy (s t : State) (r : HoldReason) : Prop :=
  (r ∈ s.control.stationReasons → t.control = s.control ∧ t.lanes = s.lanes) ∧
  (r ∉ s.control.stationReasons →
    t.control =
      { s.control with
        stationReasons := s.control.stationReasons ++ [r]
        station := if s.station = .live then .held else s.station
        context := t.control.context } ∧
    ContextTaken s t r none ∧
    ∀ l, t.lane l =
      if s.station = .live ∧ (s.lane l).state = .idle then { s.lane l with state := .held } else s.lane l)

/-- An ALARM claim made (R104): it is set aside in SETUP, in HOLDOVER and by the evacuation pattern, and otherwise takes the
output. -/
def AlarmClaimed (s t : State) : Prop :=
  let aside : Prop := s.station.serving = false ∨ ∃ x, s.bell.arbiter = some x ∧ x.rank = .evacuation
  (aside → t.bell = s.bell) ∧
  (¬ aside → t.bell = bellTaken s (some (claimOf s .alarm s.sw4.alarmPattern none)))

/-- A lane put in FAULT in JOIN, LIVE or HELD (R24, R40): its pending release closed, its held-open timer stopped, its strike
RELEASED but in JOIN; one already there stands. -/
def faultLane (s : State) (u : LaneUnit) : LaneUnit :=
  let drive : Bool := decide (s.station ≠ .join)
  if u.state = .fault then u
  else
    { u with
      state := .fault
      drive := drive
      release := none
      releaseTimer := if u.release.isSome then none else u.releaseTimer
      heldOpen := none
      senseCheck := if u.drive = drive then u.senseCheck else some 16 }

/-- A detection of a fitted lane's fault in JOIN, LIVE, HELD or EVACUATE (R189, R191, R192), the own-lane events in `events`
taken after it: with the record ACTIVE it changes nothing, below the filter it is counted, and at the filter the action is
taken and the incident recorded. OPEN puts the lane in FAULT outside EVACUATE, its waiting release closed UNUSED. -/
def LaneDetected (s t : State) (l : Lane) (k : LaneFaultKind) (events : List LaneEvent := []) : Prop :=
  let r := (s.faults.lanes.get l).get k
  let w := s.sw5.laneSetting k
  let counted (r' : FaultRecord) : FaultMonitor :=
    { s.faults with lanes := s.faults.lanes.set l ((s.faults.lanes.get l).set k r') }
  let queue : WatchUnit := s.watch.queue
    { kind := k.incident, time := s.clock.time, lane := some l, badge := none, rule := none, peer := none,
      detail := some (actionCode w.action) }
  t = { s with lanes := t.lanes, bell := t.bell, watch := t.watch, faults := t.faults, control := t.control } ∧
  (r.state = .active → t = { s with watch := t.watch } ∧ Traced s t events s.watch) ∧
  (r.state ≠ .active → r.count + 1 < w.filter →
    t = { s with watch := t.watch, faults := counted { r with state := .counting, count := r.count + 1 } } ∧
    Traced s t events s.watch) ∧
  (r.state ≠ .active → w.filter ≤ r.count + 1 →
    t.faults = counted { r with state := .active, count := r.count + 1, action := some w.action } ∧
    (w.action = .actNote → t.lanes = s.lanes ∧ t.control = s.control ∧ t.bell = s.bell ∧ Traced s t events queue) ∧
    (w.action = .actAlarm → t.lanes = s.lanes ∧ t.control = s.control ∧ AlarmClaimed s t ∧ Traced s t events queue) ∧
    (w.action = .actHold → t.bell = s.bell ∧ LaneHeldBy s t l (.fault k.kind) ∧ Traced s t events queue) ∧
    (w.action = .actOpen → t.bell = s.bell ∧ t.control = s.control ∧
      (s.station = .evacuate → t.lanes = s.lanes ∧ Traced s t events queue) ∧
      (s.station ≠ .evacuate → t.lanes = s.lanes.set l (faultLane s (s.lane l)) ∧
        Traced s t ((if (s.lane l).state = .fault then [] else unusedOf s l) ++ events) queue)))

/-- A LINE or CLOCK record after a detection, and what the detection brings (R189, R191): in SETUP nothing, with the record
ACTIVE its cause alone, below the filter a count, and at the filter the action and the incident. -/
def StationDetected (s t : State) (r r' : FaultRecord) (w : FaultSetting) (kind : FaultKind) (incident : IncidentKind)
    (cause : FaultCause) : Prop :=
  let causes := if cause ∈ r.causes then r.causes else r.causes ++ [cause]
  let quiet : Prop := t.watch = s.watch ∧ t.control = s.control ∧ t.lanes = s.lanes ∧ t.bell = s.bell
  (s.station = .setup → r' = r ∧ quiet) ∧
  (s.station ≠ .setup → r.state = .active → r' = { r with causes } ∧ quiet) ∧
  (s.station ≠ .setup → r.state ≠ .active → r.count + 1 < w.filter →
    r' = { r with state := .counting, count := r.count + 1, causes } ∧ quiet) ∧
  (s.station ≠ .setup → r.state ≠ .active → w.filter ≤ r.count + 1 →
    r' = { state := .active, count := r.count + 1, causes, action := some w.action } ∧
    t.watch = s.watch.queue
      { kind := incident, time := s.clock.time, lane := none, badge := none, rule := none, peer := none,
        detail := some ((cause.code * 256 + actionCode w.action : Nat) : Int) } ∧
    (w.action = .actNote → t.control = s.control ∧ t.lanes = s.lanes ∧ t.bell = s.bell) ∧
    (w.action = .actAlarm → t.control = s.control ∧ t.lanes = s.lanes ∧ AlarmClaimed s t) ∧
    (w.action = .actHold ∨ w.action = .actOpen → t.bell = s.bell ∧ StationHeldBy s t (.fault kind)))

/-! ## Watch rules -/

/-- The badge test of a condition (R144): ANY passes with or without a badge, and the others compare the badge of an event
that carries one with the badge limit. -/
def badgePasses (c : Condition) (badge : Option Nat) : Prop :=
  match c.test, badge with
  | .any, _ => True
  | _, none => False
  | .equal, some b => b = c.limit
  | .notEqual, some b => b ≠ c.limit
  | .below, some b => b < c.limit
  | .above, some b => c.limit < b

/-- The action of a tripped rule taken on an event (R150, R163). -/
def ActionTaken (s u : State) (n : RuleNo) (e : LaneEvent) : WatchAction → Prop
  | .note => u = s
  | .alarm => u = { s with bell := u.bell } ∧ AlarmClaimed s u
  | .holdLane => u = { s with lanes := u.lanes, control := u.control } ∧
    match e.lane with
    | .own l => LaneHeldBy s u l (.watch n)
    | .peer => StationHeldBy s u (.watch n)
  | .holdStation => u = { s with lanes := u.lanes, control := u.control } ∧ StationHeldBy s u (.watch n)
  | .evacuate =>
    (s.station = .live ∨ s.station = .held → EvacuationEntered s u .watch ∧
      u = { s with lanes := u.lanes, bell := u.bell, line := u.line, watch := u.watch, control := u.control } ∧
      u.line = { s.line with
        evac := some { tag := s.line.nextTag, frame := .clear .watch }
        nextTag := s.line.nextTag + 1 } ∧
      u.watch = { s.watch.queue (evacBegin s .watch) with handed := s.watch.handed ++ evacEvents s }) ∧
    (s.station = .join →
      u = { s with control := { s.control with pendingEvac := some { reason := .watch, clearMark := true } } }) ∧
    (s.station = .setup ∨ s.station = .evacuate ∨ s.station = .holdover → u = s)

/-- An event matched against rules 0 to 3 in order (R141). -/
def matchedInOrder (s : State) (e : LaneEvent) : State :=
  (((s.matchRule .rule0 e).matchRule .rule1 e).matchRule .rule2 e).matchRule .rule3 e

/-- The state with every watch rule disarmed. -/
def disarmed (s : State) : State :=
  { s with watch := { s.watch with rules := s.watch.rules.map fun r => { r with armed := false } } }

/-! ## A step of plant time in the bell unit and the pay unit (R86, R99) -/

/-- The ring instant of an entry for a bell day, as bell time (R96). -/
def instantOf (s : State) (p : Fin 48 × Nat) : Nat :=
  p.2 * 1382400 + ((s.bellEntry p.1).minute * 60 + (s.bellEntry p.1).second) * 16

/-- A step from plant time `t0` to `x` takes an entry for a bell day: it passes the instant, and the entry is due
(R96, R99). -/
def stepTakes (s : State) (t0 x : Nat) (p : Fin 48 × Nat) : Prop :=
  t0 + s.sw4.bellAdvance < instantOf s p ∧ instantOf s p ≤ x + s.sw4.bellAdvance ∧
  (s.bellEntry p.1).mask.getLsbD ((p.2 + s.sw0.weekday) % 7) = true ∧
  ∀ m, (s.bellEntry p.1).mark = some m → m < p.2

/-- An entry taken for a bell day by a step to `x` (R99, R107): it is marked. Within the cue window it is caught up, and so
sounds on a free output, or is counted SUPPRESSED on a busy one and in EVACUATE, with its cue placed in LIVE and HELD; earlier
than the window it is counted MISSED. A record of origin CATCH_UP joins the trace. -/
def caughtUp (x : Nat) (s : State) (p : Fin 48 × Nat) : State :=
  let y := s.bellEntry p.1
  let window : Bool := decide (x + s.sw4.bellAdvance ≤ instantOf s p + 16 * s.sw4.cueWindow)
  let sounds : Bool := window && decide (s.station ≠ .evacuate) && s.bell.arbiter.isNone
  { s with
    bell :=
      { s.bell with
        entries := s.bell.entries.set p.1 { y with mark := some p.2 }
        arbiter := if sounds then some (claimOf s .scheduled y.pattern (some p.1)) else s.bell.arbiter
        missed := if window then s.bell.missed else min 65535 (s.bell.missed + 1)
        suppressed := if window && !sounds then min 65535 (s.bell.suppressed + 1) else s.bell.suppressed
        trace := (if s.bell.trace.length < 8 then s.bell.trace else s.bell.trace.drop 1) ++
          [{ entry := p.1, role := y.role, day := p.2, time := x, origin := .catchUp,
             outcome := if sounds then .rung else if window then .suppressed else .missed }] }
    line :=
      if window && decide (s.station = .live ∨ s.station = .held) then
        { s.line with
          cues := (if s.line.cues.length < 4 then s.line.cues else s.line.cues.drop 1) ++
            [{ tag := s.line.nextTag, entry := p.1, day := p.2 }]
          nextTag := s.line.nextTag + 1 }
      else s.line }

/-- What a step from plant time `t0` to `x` leaves of `v` in the bell unit and the bell-cue list of `t` (R98, R99): every
instant stepped over whose entry is due is taken, in ascending order of instant and, for one instant, of entry number. -/
def BellStepped (t0 : Nat) (v t : State) (x : Nat) : Prop :=
  ∃ taken : List (Fin 48 × Nat), (∀ p, p ∈ taken ↔ stepTakes v t0 x p) ∧
    taken.Pairwise (fun p q => instantOf v p < instantOf v q ∨ (instantOf v p = instantOf v q ∧ p.1 < q.1)) ∧
    t.bell = (taken.foldl (caughtUp x) v).bell ∧ t.line.cues = (taken.foldl (caughtUp x) v).line.cues

/-- The day rolls that a step of `s` to plant time `x` brings, one after another until the current pay day number is not less
than the pay day of `x` (R69, R70, R86). -/
def RollsTaken (s t : State) (x : Nat) : Prop :=
  let u := rolledOnce^[payDay s.dayRollMinute x - s.pay.today] s
  t.pay = u.pay ∧ t.port.payFlag = u.port.payFlag ∧ t.pay.today = max s.pay.today (payDay s.dayRollMinute x)

/-- The clock of `s` at plant time `x` after a step, with no time left to slew; END is set at the end of the range (R77,
R85). DESIGN CHOICE (assumptions 5, 25): END is set by a step that lands exactly on it, and counting goes on from `x`. -/
def steppedClock (c : Clock) (x : Nat) : Clock :=
  { c with
    time := x, remainder := 0, countedFrom := x, endMark := decide (x = 4294967295)
    endFrom := if x = 4294967295 ∧ c.endMark = false then c.realTime else c.endFrom }

/-- A fault record with a cause cleared: with no cause left it returns to NORMAL (R190). -/
def causeCleared (r : FaultRecord) (c : FaultCause) : FaultRecord :=
  let left := r.causes.filter fun x => decide (x ≠ c)
  if c ∉ r.causes then r
  else if left = [] then { state := .normal, count := 0, causes := [], action := none }
  else { r with causes := left }

/-- The clock of `s` stepped to `x`, with the END mark and what it brings (R77, R85): a step that lands on the end of the range
with the mark clear hands one CLOCK detection of cause END, one that leaves the end clears that cause, and any other changes
the clock alone. -/
def EndMarked (s v : State) (x : Nat) : Prop :=
  let moved : State := { s with clock := steppedClock s.clock x }
  v = { moved with lanes := v.lanes, bell := v.bell, watch := v.watch, control := v.control,
                   faults := { s.faults with clock := v.faults.clock } } ∧
  (x = 4294967295 → s.clock.endMark = false →
    StationDetected moved v s.faults.clock v.faults.clock s.sw5.clock .clock .clock .endOfTime) ∧
  (x ≠ 4294967295 → s.clock.endMark = true →
    v = { moved with faults := { s.faults with clock := causeCleared s.faults.clock .endOfTime } }) ∧
  ((x = 4294967295 ↔ s.clock.endMark = true) → v = moved)

/-- A step of `s` to plant time `x` taken after READY (R77, R85, R86): the END mark, the day rolls and the bells, with the
incident of the step behind what the END mark brings. The clock and the offsets are said by the statement. DESIGN CHOICE
(assumption 34): END with its detection or clearing comes first, so that the bells meet what it leaves. -/
def Stepped (s t : State) (x : Nat) (incident : Incident) : Prop :=
  RollsTaken s t x ∧
  ∃ v, EndMarked s v x ∧ BellStepped s.clock.time v t x ∧ t.lanes = v.lanes ∧ t.faults = v.faults ∧
    t.control = v.control ∧ t.watch = v.watch.queue incident

/-! ## The agreement (R82, R83) -/

/-- The offset a peer entry gives an agreement: of a HEARD peer whose last beacon was of the own era and no more than two
beacon intervals old (R82). -/
def contributes (s : State) (e : PeerEntry) : Option Int :=
  match e.offset with
  | none => none
  | some o =>
    if e.state = .heard ∧ e.era = some s.clock.era ∧ s.clock.realTime ≤ o.takenAt + 32 * s.sw3.beaconInterval then
      some o.ticks
    else none

/-- An agreement taken from `s`, where a step needs `needed` contributors: a slew or a clamp sets the remainder alone, and a
step moves the clock, lowers every stored offset by the amount taken, takes the rolls and the bells it brings, and records
CLOCK_STEP (R82, R83, R85, R86). DESIGN CHOICE (assumption 38): a slew or a clamp replaces the remainder while END is set
too. -/
def Agreed (s u : State) (needed : Nat) : Prop :=
  let offsets := s.peers.entries.filterMap (contributes s)
  let m := medianOf (sortInts (0 :: offsets))
  let threshold := s.sw4.stepThreshold
  let target := max 0 (min 4294967295 ((s.clock.time : Int) + m))
  let record (action : AgreementAction) : Agreement :=
    { time := s.clock.time, contributors := offsets.length, median := m, action }
  (m.natAbs ≤ threshold →
    u = { s with clock := { s.clock with remainder := m, agreement := some (record .slew) } }) ∧
  (threshold < m.natAbs → offsets.length < needed →
    u = { s with clock := { s.clock with remainder := (if 0 < m then (threshold : Int) else -(threshold : Int)),
                                         agreement := some (record .clampTo) } }) ∧
  (threshold < m.natAbs → needed ≤ offsets.length →
    u.clock = { steppedClock s.clock target.toNat with agreement := some (record .step) } ∧
    u.port = { s.port with payFlag := u.port.payFlag } ∧
    u.line = { s.line with cues := u.line.cues, nextTag := u.line.nextTag } ∧ u.supply = s.supply ∧
    u.peers = { s.peers with
      entries := s.peers.entries.map fun e =>
        { e with offset := e.offset.map fun o => { o with ticks := o.ticks - (target - s.clock.time) } } } ∧
    u.badges = s.badges ∧ u.inputs = s.inputs ∧ u.journal = s.journal ∧ u.inReset = s.inReset ∧
    u.pending = s.pending ∧
    Stepped s u target.toNat
      { kind := .clockStep, time := target.toNat, lane := none, badge := none, rule := none, peer := none,
        detail := some (max (-2147483648) (min 2147483647 (target - s.clock.time))) })

/-! ## Invariants of a run -/

/-- Every table kept by number has the size its rule gives it: 8 classes, 48 schedule entries, 8 patterns, 16 peer entries,
32 trace positions with the write and read positions among them, and a data block of 64 bytes (R48, R93, R95, R129, R157,
R158, R196). -/
def TablesSized (s : State) : Prop :=
  s.pay.classes.length = 8 ∧ s.bell.entries.length = 48 ∧ s.bell.patterns.length = 8 ∧ s.peers.entries.length = 16 ∧
  s.watch.trace.length = 32 ∧ s.watch.writePos < 32 ∧ s.watch.readPtr < 32 ∧ s.port.data.length = 64

/-- Every ring time of the schedule is a time of day (R93). -/
def ScheduleInRange (s : State) : Prop := ∀ e ∈ s.bell.entries, e.minute ≤ 1439 ∧ e.second ≤ 59

/-- Every strike output is driven as R24 gives. -/
def DrivesFollow (s : State) : Prop := ∀ l, (s.lane l).drive = s.driveOf l

/-- A pending release stands only in LIVE and HELD, on a fitted lane that is RELEASED or OPEN; a lane in RELEASED has one, its
timer running (R29, R32, R36, R41, R44). -/
def ReleasesPlaced (s : State) : Prop :=
  ∀ l, ((s.lane l).release.isSome = true →
      (s.lane l).kind ≠ .off ∧ (s.station = .live ∨ s.station = .held) ∧
      ((s.lane l).state = .released ∨ (s.lane l).state = .opened)) ∧
    ((s.lane l).state = .released → (s.lane l).release.isSome = true ∧ (s.lane l).releaseTimer.isSome = true)

/-- An entry is present and IN. -/
def BadgeEntry.present (e : BadgeEntry) : Bool := decide (e.presence.state = .isIn)

/-- The badge table holds badge numbers in ascending order, none twice, within its capacity, and its muster count is the
number of entries that are IN (R1, R14). -/
def TableOrdered (s : State) : Prop :=
  s.badges.entries.length ≤ 4096 ∧
  (s.badges.entries.map BadgeEntry.number).Pairwise (· < ·) ∧
  (∀ e ∈ s.badges.entries, 1 ≤ e.number ∧ e.number ≤ 16777214) ∧
  s.badges.muster = s.badges.entries.countP BadgeEntry.present

/-- The linked pay records are listed by ascending number, none twice, and each is one of the 1024 (R50). -/
def RecordsOrdered (s : State) : Prop :=
  (s.pay.records.map Prod.fst).Pairwise (· < ·) ∧ ∀ x ∈ s.pay.records, x.1 < 1024

/-- No pay record holds an open IN and an orphan OUT at once (R51). -/
def RecordsSingle (s : State) : Prop := ∀ x ∈ s.pay.records, x.2.openIn = none ∨ x.2.orphan = none

end Sys2Proof.Machine
end

