-- ==== Sys2Proof/Certificates/Slice0/Obligations.lean ====
section
/-! DEFINITION. The statements for the provers, in the terms of Sys2Proof/Safety.lean. A statement with `State.calm` among
its hypotheses is made with no event waiting and no watch rule armed, so that the effect it gives is the command's own; what
an armed rule does with an event is `Obligations.RuleMatches`. The model's own choices in the form of the statements are: a
terminal command of the queue stands for the writes that bring it (assumption 7), an expiry is taken whenever its timer runs
(assumption 6), real time is one count of sixteenths (assumption 3), and a frame placed has a tag (assumption 9). -/

open Sys2Proof Sys2Proof.Machine

/-! ## Steps, reset and the terminal port -/

/-- A step runs the command at the front of the queue, on the state with the queue's rest; on an empty queue the block
idles (assumption 1, the model's choice). -/
def Obligations.StepRunsFront : Prop :=
  ∀ (c : Instr) (rest : List Instr) (s : State),
    step { s with pending := c :: rest } = exec c { s with pending := rest } ∧
    step { s with pending := [] } = .next { s with pending := [] }.idle

/-- What the manual gives each block after a full reset (R172 and the rules it gathers): station control, the lanes,
the badge table, the pay unit, the plant clock, the bell unit, the line port, the journal, every peer entry, the watch
unit with the plain rule, every fault record and the mailbox. -/
def Obligations.ResetValues : Prop :=
  let normal : FaultRecord := { state := .normal, count := 0, causes := [], action := none }
  State.reset.station = .setup ∧
  (State.reset.control.sw0 = none ∧ State.reset.control.sw1 = none ∧ State.reset.control.sw2 = none ∧
    State.reset.control.sw3 = none ∧ State.reset.control.sw4 = none ∧ State.reset.control.sw5 = none) ∧
  (State.reset.control.stationReasons = [] ∧ State.reset.control.context = none ∧
    State.reset.control.evacRecord = none ∧ State.reset.control.pendingEvac = none ∧
    State.reset.control.contact = false ∧ State.reset.control.holdoverCount = 0 ∧
    State.reset.control.override = .follow) ∧
  (∀ l, (State.reset.lane l).kind = .off ∧ (State.reset.lane l).state = .off ∧ (State.reset.lane l).drive = false ∧
    (State.reset.lane l).release = none ∧ (State.reset.lane l).evacRead = none ∧
    (State.reset.lane l).readerErrors = 0 ∧ (State.reset.lane l).repeats = 0 ∧ (State.reset.lane l).forced = 0 ∧
    (State.reset.lane l).openPassages = 0 ∧ (State.reset.lane l).evacPassages = 0 ∧
    State.reset.control.laneReasons.get l = []) ∧
  State.reset.badges = { entries := [], muster := 0, cursor := 0, ownStale := 0, ownStranger := 0 } ∧
  (State.reset.pay.classes = List.replicate 8
      { hours := none, lead := 0, graceIn := 0, graceLate := 0, graceOut := 0, quantum := 1, breakAfter := 0,
        breakMinutes := 0, t1 := 1440, t2 := 1440, dayMax := 1440, weekly := 0, night := none } ∧
    State.reset.pay.records = [] ∧ State.reset.pay.today = 0 ∧ State.reset.pay.earlyRolls = 0) ∧
  (State.reset.clock.time = 0 ∧ State.reset.clock.era = 0 ∧ State.reset.clock.remainder = 0 ∧
    State.reset.clock.clockSet = false ∧ State.reset.clock.degraded = false ∧ State.reset.clock.endMark = false ∧
    State.reset.clock.agreement = none) ∧
  (State.reset.bell.arbiter = none ∧ State.reset.bellOutput = false ∧ State.reset.bell.missed = 0 ∧
    State.reset.bell.cut = 0 ∧ State.reset.bell.suppressed = 0 ∧ State.reset.bell.earlyCue = 0 ∧
    State.reset.bell.trace = [] ∧
    State.reset.bell.entries =
      List.replicate 48 { minute := 0, second := 0, mask := 0, pattern := 0, role := .signal, mark := none } ∧
    State.reset.bell.patterns = List.replicate 8 { on := 16, period := 16, repeats := 1 }) ∧
  (State.reset.line.evac = none ∧ State.reset.line.cues = [] ∧ State.reset.line.beacon = none ∧
    State.reset.line.inHand = none ∧ State.reset.line.attempt = 0 ∧ State.reset.line.sending = none ∧
    State.reset.line.drops = 0 ∧ State.reset.line.fresh = false ∧ State.reset.line.clashTimer = none ∧
    State.reset.line.errors = 0 ∧ State.reset.line.collisions = 0 ∧ State.reset.line.dropped = 0 ∧
    State.reset.line.clashes = 0) ∧
  State.reset.journal = { entries := [], next := 0, full := false, leftOut := 0 } ∧
  (∀ p, State.reset.peer p =
    { state := .never, lastFrame := none, silence := none, era := none, reported := none, reportedIsolated := false,
      offset := none, expected := none, gap := 0, late := 0, stale := 0, stranger := 0, behindEra := 0 }) ∧
  (State.reset.peers.deadline = 0 ∧ State.reset.peers.isolated = false ∧ State.reset.doubtActive = false) ∧
  (State.reset.watch.incidents = [] ∧ State.reset.watch.lost = 0 ∧ State.reset.watch.trace = List.replicate 32 none ∧
    State.reset.watch.writePos = 0 ∧ State.reset.watch.nextEvent = 0 ∧ State.reset.watch.readPtr = 0 ∧
    ∀ r, let x := State.reset.watch.rules.get r
      (∀ c : Condition, c = x.a ∨ c = x.b → c.kinds = [] ∧ c.lanes = [] ∧ c.test = .any) ∧
      x.combine = .either ∧ x.window = 1 ∧ x.sameBadge = false ∧ x.count = 1 ∧ x.action = .note ∧ x.armed = false ∧
      x.counter = 0 ∧ x.first = none ∧ x.trips = 0) ∧
  (State.reset.faults.line = normal ∧ State.reset.faults.clock = normal ∧
    ∀ l k, (State.reset.faults.lanes.get l).get k = normal) ∧
  (State.reset.port.go = false ∧ State.reset.port.overrun = false ∧ State.reset.port.payFlag = false ∧
    (∀ a, State.reset.readPort a = 0)) ∧
  State.reset.attention = 0 ∧ State.reset.attentionLine = false

/-- FULL_RESET and BACKUP_LOSS bring every block to its full-reset values whatever the state. FULL_RESET asserts the
reset line, BACKUP_LOSS leaves the part without power, and SUPPLY_RETURN is then its power-on reset. The part stays in
reset while the line is held asserted or it has no power. With the line released, by RESET_RELEASE or before the power
came back, it runs, and the supply monitor looks at the levels. These are the model's choices: that RESET_RELEASE ends
every FULL_RESET, and that FULL_RESET brings power back to a part whose gate supply is good (assumption 8), that the
levels of the input pins are not state of its blocks (assumption 2), that BACKUP_LOSS and SUPPLY_RETURN set the supply
pins, and that the levels count afresh at the end of a reset, both supplies low as a backup loss (assumption 24).
While the part is held in reset no command changes anything but an input pin, and none the reset line, every read of
the mailbox gives 0 and the attention line is low; the reset commands themselves apart. -/
def Obligations.ResetCommands : Prop :=
  (∀ s : State,
     let line (level : Bool) : Inputs := { s.inputs with resetLine := level }
     let monitor (i : Inputs) : SupplyMonitor :=
       { failing := if i.gateLow then some 1 else none, returning := none, loss := i.gateLow && i.backupLow,
         unpowered := false }
     exec .fullReset s = .next
       { State.reset with
         inputs := line true
         supply := { failing := none, returning := none, loss := false,
                     unpowered := s.supply.unpowered && !(s.inputs.gateGood && !s.inputs.gateLow) }
         inReset := true
         pending := s.pending } ∧
     exec .backupLoss s = .next
       { State.reset with
         inputs := { s.inputs with gateLow := true, gateGood := false, backupLow := true }
         supply := { failing := none, returning := none, loss := false, unpowered := true }
         inReset := true
         pending := s.pending } ∧
     (s.inReset = false ∨ s.supply.unpowered = true →
       exec .resetRelease s = .next { s with inputs := line false }) ∧
     (s.inReset = true → s.supply.unpowered = false →
       exec .resetRelease s = .next { s with inputs := line false, inReset := false, supply := monitor s.inputs }) ∧
     (s.supply.unpowered = true → exec .supplyReturn s = .next
       { State.reset with
         inputs := { s.inputs with gateLow := false, gateGood := true }
         inReset := s.inputs.resetLine
         pending := s.pending })) ∧
  (∀ (c : Instr) (s : State), s.inReset = true → c ≠ .fullReset → c ≠ .resetRelease → c ≠ .backupLoss →
     (c = .supplyReturn → s.supply.unpowered = false) →
     (∃ t, exec c s = .next t ∧ t = { s with inputs := t.inputs } ∧ t.inputs.resetLine = s.inputs.resetLine) ∧
     (∀ a, s.readPort a = 0) ∧ s.attentionLine = false)

/-- A terminal command that 12 section 12.2 refuses in the station state changes nothing but the mailbox, which takes
the result the table gives, when the port takes the command. UNKNOWN_COMMAND: a command byte that names no command is
refused in every state and changes nothing else. A command that comes while another is in flight has its writes
discarded, and OVERRUN is set; that the command in the mailbox sent again is taken as that command is the model's
choice (assumption 7). -/
def Obligations.RefusedByState : Prop :=
  (∀ (c : Instr) (s : State) (r : ResultCode), s.inReset = false → s.portTakes c → refusedIn c s.station = some r →
     ∃ t, exec c s = .next t ∧ OnlyAnswered s t r) ∧
  (∀ (code : Byte) (s : State), s.inReset = false → s.portTakes (.unknownCommand code) → code ∉ commandCodes →
     ∃ t, exec (.unknownCommand code) s = .next t ∧ OnlyAnswered s t .unknownCommand) ∧
  (∀ (c : Instr) (s : State), s.inReset = false → isTerminal c → ¬ s.portTakes c →
     exec c s = .next { s with port := { s.port with overrun := true } })

/-- MAILBOX_WRITE and OVERRUN. A transaction that reads changes nothing. The bytes of one that writes are taken one
after another, the address rising by 1. With GO clear, a write to the address of GO sets GO when bit 0 is set, and a
write to any other address is read back from there when the mailbox occupies it, every other address reading as
before; with GO set, a write to a mailbox address is discarded and sets OVERRUN, and one outside the mailbox is
ignored. These are the model's choices: that an address rising past 0x7F is outside the mailbox (assumption 43), that
the write is of the kind the GO mark gives it (assumption 7), and that OVERRUN with GO clear has no effect (assumption
14). OVERRUN alone, and the result that reports it: after a write while GO is set, the command in flight, here
ATTENTION READ, completes with bit 7 of its result set, and the mark is then clear. -/
def Obligations.MailboxWrites : Prop :=
  (∀ (address b : Byte) (rest : List Byte) (s : State), s.inReset = false → s.port.data.length = 64 →
     let first := address.toNat % 128
     (address.getLsbD 7 = true → exec (.mailboxWrite address rest) s = .next s) ∧
     exec (.mailboxWrite address []) s = .next s ∧
     (address.getLsbD 7 = false →
       (∃ t, exec (.mailboxWrite address [b]) s = .next t ∧ t = { s with port := t.port } ∧
         (first < 127 → exec (.mailboxWrite address (b :: rest)) s = exec (.mailboxWrite (address + 1) rest) t) ∧
         (first = 127 → exec (.mailboxWrite address (b :: rest)) s = .next s) ∧
         (s.port.go = true → t.port = { s.port with overrun := s.port.overrun || decide (inMailbox first) }) ∧
         (s.port.go = false → t.port.overrun = s.port.overrun ∧ t.port.payFlag = s.port.payFlag ∧
           (first = 0x01 → t.port = { s.port with go := b.getLsbD 0 }) ∧
           (first ≠ 0x01 → t.port.go = false ∧ (inMailbox first → t.readPort first = b) ∧
             ∀ a, a ≠ first ∨ ¬ inMailbox first → t.readPort a = s.readPort a)))) ∧
     (∀ addr : BitVec 7,
       (s.port.go = true → exec (.overrun addr b) s = .next { s with
         port := { s.port with overrun := s.port.overrun || decide (inMailbox addr.toNat) } }) ∧
       (s.port.go = false → exec (.overrun addr b) s = .next s))) ∧
  (∀ (addr : BitVec 7) (b : Byte) (s : State), s.inReset = false → s.port.go = true → s.port.command = 0x70 →
     addr.toNat < 0x06 →
     ∃ t u, exec (.overrun addr b) s = .next t ∧ exec .attentionRead t = .next u ∧
       u.port.command.toNat = 128 ∧ u.port.overrun = false ∧ u.port.go = false)

/-! ## The commands of SETUP -/

/-- SET WORD of SW0 and SW1, whose fields are all codes: a word with every code defined replaces the stored word
whole, and any undefined code refuses it; so is a word number above 5. SET WORD of SW2 and SW3, whose fields are all
quantities: each is stored clamped to its range, and the result says whether any was. SET WORD of SW4 and SW5, which
mix codes and quantities: an undefined code refuses the word whatever its quantities, and with every code defined the
quantities are clamped. -/
def Obligations.SetWords : Prop :=
  (∀ (s : State), s.inSetup →
     (∀ (rate : LineRate) (station weekday : Nat) (h : station < 16), weekday < 7 →
       s.portTakes (.setWord (.sw0 { station, weekday, rate := some rate })) →
       ∃ t, exec (.setWord (.sw0 { station, weekday, rate := some rate })) s = .next t ∧ Completed s t .done ∧
         t = { s with control := t.control, port := t.port } ∧ t.port.payFlag = s.port.payFlag ∧
         t.control = { s.control with sw0 := some { station := ⟨station, h⟩, weekday, rate } }) ∧
     (∀ w : Word0, s.portTakes (.setWord (.sw0 w)) → (w.rate = none ∨ 16 ≤ w.station ∨ 7 ≤ w.weekday) →
       ∃ t, exec (.setWord (.sw0 w)) s = .next t ∧ OnlyAnswered s t .badValue) ∧
     (∀ lanes : PerLane LaneSetting,
       let codes (x : LaneSetting) : LaneCodes :=
         { kind := some x.kind, direction := some x.direction, failMode := some x.failMode }
       let word : Word1 := ⟨codes lanes.lane1, codes lanes.lane2, codes lanes.lane3, codes lanes.lane4⟩
       s.portTakes (.setWord (.sw1 word)) →
       ∃ t, exec (.setWord (.sw1 word)) s = .next t ∧ Completed s t .done ∧
         t = { s with control := t.control, port := t.port } ∧ t.port.payFlag = s.port.payFlag ∧
         t.control = { s.control with sw1 := some lanes }) ∧
     (∀ w : Word1, s.portTakes (.setWord (.sw1 w)) → (∃ c ∈ [w.lane1, w.lane2, w.lane3, w.lane4],
         c.kind = none ∨ c.direction = none ∨ c.failMode = none) →
       ∃ t, exec (.setWord (.sw1 w)) s = .next t ∧ OnlyAnswered s t .badValue) ∧
     (∀ a : BitVec 16, s.portTakes (.setWord (.undefined a)) → 5 < a.toNat →
       ∃ t, exec (.setWord (.undefined a)) s = .next t ∧ OnlyAnswered s t .badValue)) ∧
  (∀ (s : State), s.inSetup →
     (∀ w : Word2, s.portTakes (.setWord (.sw2 w)) →
       let limits (x : LaneLimits) : LaneLimits :=
         { release := max 1 (min 30 x.release), heldOpen := max 5 (min 300 x.heldOpen) }
       let inRange (x : LaneLimits) : Prop := (1 ≤ x.release ∧ x.release ≤ 30) ∧ 5 ≤ x.heldOpen ∧ x.heldOpen ≤ 300
       let good : Prop := (inRange w.lane1 ∧ inRange w.lane2 ∧ inRange w.lane3 ∧ inRange w.lane4) ∧
         (1 ≤ w.debounce ∧ w.debounce ≤ 16) ∧ w.reread ≤ 10
       let stored : SW2 :=
         { limits :=
             { lane1 := limits w.lane1, lane2 := limits w.lane2, lane3 := limits w.lane3, lane4 := limits w.lane4 },
           debounce := max 1 (min 16 w.debounce), reread := min 10 w.reread }
       ∃ t, exec (.setWord (.sw2 w)) s = .next t ∧
         t = { s with control := t.control, port := t.port } ∧ t.port.payFlag = s.port.payFlag ∧
         t.control = { s.control with sw2 := some stored } ∧
         (good → Completed s t .done) ∧ (¬ good → Completed s t .doneClamped)) ∧
     (∀ w : Word3, s.portTakes (.setWord (.sw3 w)) →
       let good : Prop := (4 ≤ w.beaconInterval ∧ w.beaconInterval ≤ 64) ∧
         (10 ≤ w.silenceLimit ∧ w.silenceLimit ≤ 600) ∧ (2 ≤ w.joinPeriod ∧ w.joinPeriod ≤ 60) ∧
         (1 ≤ w.doubtHold ∧ w.doubtHold ≤ 120) ∧ w.latency ≤ 15
       let stored : Word3 :=
         { beaconInterval := max 4 (min 64 w.beaconInterval), silenceLimit := max 10 (min 600 w.silenceLimit),
           joinPeriod := max 2 (min 60 w.joinPeriod), doubtHold := max 1 (min 120 w.doubtHold),
           latency := min 15 w.latency }
       ∃ t, exec (.setWord (.sw3 w)) s = .next t ∧
         t = { s with control := t.control, port := t.port } ∧ t.port.payFlag = s.port.payFlag ∧
         t.control = { s.control with sw3 := some stored } ∧
         (good → Completed s t .done) ∧ (¬ good → Completed s t .doneClamped))) ∧
  (∀ (s : State), s.inSetup →
     (∀ w : Word4, s.portTakes (.setWord (.sw4 w)) → (8 ≤ w.evacPattern ∨ 8 ≤ w.alarmPattern) →
       ∃ t, exec (.setWord (.sw4 w)) s = .next t ∧ OnlyAnswered s t .badValue) ∧
     (∀ (w : Word4) (he : w.evacPattern < 8) (ha : w.alarmPattern < 8), s.portTakes (.setWord (.sw4 w)) →
       let good : Prop := (16 ≤ w.stepThreshold ∧ w.stepThreshold ≤ 4800) ∧ w.dayRoll ≤ 1439 ∧ w.bellAdvance ≤ 160 ∧
         1 ≤ w.cueWindow ∧ w.cueWindow ≤ 120
       let stored : SW4 :=
         { stepThreshold := max 16 (min 4800 w.stepThreshold), dayRoll := min 1439 w.dayRoll,
           bellAdvance := min 160 w.bellAdvance, cueWindow := max 1 (min 120 w.cueWindow),
           evacPattern := ⟨w.evacPattern, he⟩, alarmPattern := ⟨w.alarmPattern, ha⟩ }
       ∃ t, exec (.setWord (.sw4 w)) s = .next t ∧
         t = { s with control := t.control, port := t.port } ∧ t.port.payFlag = s.port.payFlag ∧
         t.control = { s.control with sw4 := some stored } ∧
         (good → Completed s t .done) ∧ (¬ good → Completed s t .doneClamped)) ∧
     (∀ w : Word5, s.portTakes (.setWord (.sw5 w)) → (w.retention = none ∨
         ∃ c ∈ [w.reader, w.strike, w.doorHeld, w.line, w.clock], c.action = none) →
       ∃ t, exec (.setWord (.sw5 w)) s = .next t ∧ OnlyAnswered s t .badValue) ∧
     (∀ (reader strike doorHeld line clock : FaultSetting) (retention : Retention) (threshold : Nat),
       let sent (c : FaultSetting) : FaultChoice := { filter := c.filter, action := some c.action }
       let kept (c : FaultSetting) : FaultSetting := { filter := max 1 (min 8 c.filter), action := c.action }
       let good : Prop := (∀ c ∈ [reader, strike, doorHeld, line, clock], 1 ≤ c.filter ∧ c.filter ≤ 8) ∧
         1 ≤ threshold ∧ threshold ≤ 64
       let stored : SW5 :=
         { reader := kept reader, strike := kept strike, doorHeld := kept doorHeld, line := kept line,
           clock := kept clock, retention, journalThreshold := max 1 (min 64 threshold) }
       let word : Word5 := ⟨sent reader, sent strike, sent doorHeld, sent line, sent clock, some retention, threshold⟩
       s.portTakes (.setWord (.sw5 word)) →
       ∃ t, exec (.setWord (.sw5 word)) s = .next t ∧
         t = { s with control := t.control, port := t.port } ∧ t.port.payFlag = s.port.payFlag ∧
         t.control = { s.control with sw5 := some stored } ∧
         (good → Completed s t .done) ∧ (¬ good → Completed s t .doneClamped)))

/-- LOAD CLASS: a class number above 7, an undefined presence code or a quantum the pay unit has not refuses it;
otherwise the record is replaced with its quantities clamped, T2 to no less than T1. -/
def Obligations.LoadClass : Prop :=
  ∀ (a : BitVec 16) (c : ClassBlock) (s : State), s.inSetup → s.portTakes (.loadClass a c) →
    let pair : PairCode → Option (Nat × Nat)
      | .present x y => some (min 1439 x, min 1439 y)
      | _ => none
    let pairGood : PairCode → Prop
      | .present x y => x ≤ 1439 ∧ y ≤ 1439
      | _ => True
    let bad : Prop := 8 ≤ a.toNat ∨ c.hours = .undefined ∨ c.night = .undefined ∨ c.quantum ∉ [1, 5, 6, 10, 15, 30]
    let good : Prop := pairGood c.hours ∧ c.lead ≤ 240 ∧ c.graceIn ≤ 60 ∧ c.graceLate ≤ 60 ∧ c.graceOut ≤ 60 ∧
      c.breakAfter ≤ 720 ∧ c.breakMinutes ≤ 90 ∧ (c.t1 ≤ c.t2 ∧ c.t2 ≤ 1440) ∧ (60 ≤ c.dayMax ∧ c.dayMax ≤ 1440) ∧
      c.weekly ≤ 65535 ∧ pairGood c.night
    (bad → ∃ t, exec (.loadClass a c) s = .next t ∧ OnlyAnswered s t .badValue) ∧
    (¬ bad → TablesSized s →
      ∃ t, exec (.loadClass a c) s = .next t ∧ t = { s with pay := t.pay, port := t.port } ∧
        t.port.payFlag = s.port.payFlag ∧
        (good → Completed s t .done) ∧ (¬ good → Completed s t .doneClamped) ∧
        t.pay = { s.pay with classes := t.pay.classes } ∧ t.pay.classes.length = 8 ∧
        ∀ n : Fin 8, t.pay.shiftClass n =
          if n.val = a.toNat then
            { hours := pair c.hours, lead := min 240 c.lead, graceIn := min 60 c.graceIn,
              graceLate := min 60 c.graceLate, graceOut := min 60 c.graceOut, quantum := c.quantum,
              breakAfter := min 720 c.breakAfter, breakMinutes := min 90 c.breakMinutes, t1 := min 1440 c.t1,
              t2 := max (min 1440 c.t1) (min 1440 c.t2), dayMax := max 60 (min 1440 c.dayMax),
              weekly := min 65535 c.weekly, night := pair c.night }
          else s.pay.shiftClass n)

/-- LOAD BELL: an entry number above 47, an undefined role or a pattern number above 7 refuses it; otherwise the entry
is replaced, its time clamped, with no day mark. LOAD PATTERN: a pattern number above 7 refuses it; otherwise the
pattern is replaced, the on time clamped first and the period then to no less than it. -/
def Obligations.LoadBells : Prop :=
  (∀ (a : BitVec 16) (e : BellBlock) (s : State), s.inSetup → s.portTakes (.loadBell a e) →
     (48 ≤ a.toNat ∨ e.role = none ∨ 8 ≤ e.pattern →
       ∃ t, exec (.loadBell a e) s = .next t ∧ OnlyAnswered s t .badValue) ∧
     (∀ (role : BellRole) (hp : e.pattern < 8), a.toNat < 48 → e.role = some role → TablesSized s →
       ∃ t, exec (.loadBell a e) s = .next t ∧ t = { s with bell := t.bell, port := t.port } ∧
         t.port.payFlag = s.port.payFlag ∧
         (e.minute ≤ 1439 ∧ e.second ≤ 59 → Completed s t .done) ∧
         (¬ (e.minute ≤ 1439 ∧ e.second ≤ 59) → Completed s t .doneClamped) ∧
         t.bell = { s.bell with entries := t.bell.entries } ∧ t.bell.entries.length = 48 ∧
         ∀ n : Fin 48, t.bellEntry n =
           if n.val = a.toNat then
             { minute := min 1439 e.minute, second := min 59 e.second, mask := e.mask, pattern := ⟨e.pattern, hp⟩,
               role, mark := none }
           else s.bellEntry n)) ∧
  (∀ (a : BitVec 16) (p : PatternBlock) (s : State), s.inSetup → s.portTakes (.loadPattern a p) →
     let on := max 1 (min 160 p.on)
     let good : Prop := (1 ≤ p.on ∧ p.on ≤ 160) ∧ p.on ≤ p.period ∧ p.period ≤ 320
     (8 ≤ a.toNat → ∃ t, exec (.loadPattern a p) s = .next t ∧ OnlyAnswered s t .badValue) ∧
     (a.toNat < 8 → TablesSized s →
       ∃ t, exec (.loadPattern a p) s = .next t ∧ t = { s with bell := t.bell, port := t.port } ∧
         t.port.payFlag = s.port.payFlag ∧
         (good → Completed s t .done) ∧ (¬ good → Completed s t .doneClamped) ∧
         t.bell = { s.bell with patterns := t.bell.patterns } ∧ t.bell.patterns.length = 8 ∧
         ∀ n : Fin 8, t.pattern n =
           if n.val = a.toNat then { on, period := max on (min 320 p.period), repeats := p.repeats.toNat }
           else s.pattern n))

/-- LOAD RULE: a rule number above 3 or an undefined code refuses it; otherwise the rule's settings are replaced,
window and count clamped, and it starts disarmed, with counter 0, no first record and no trips. -/
def Obligations.LoadRule : Prop :=
  ∀ (a : BitVec 16) (s : State), s.inSetup →
    (∀ r : RuleBlock, s.portTakes (.loadRule a r) → (4 ≤ a.toNat ∨ r.combine = none ∨ r.action = none ∨
        ∃ c ∈ [r.a, r.b], none ∈ c.kinds ∨ none ∈ c.lanes ∨ c.test = none) →
      ∃ t, exec (.loadRule a r) s = .next t ∧ OnlyAnswered s t .badValue) ∧
    (∀ (n : RuleNo) (kindsA kindsB : List EventKind) (lanesA lanesB : List EventLane) (testA testB : BadgeTest)
        (limitA limitB : BitVec 24) (combine : Combine) (window count : Nat) (same : Bool) (action : WatchAction),
      a.toNat = n.number →
      let good : Prop := (1 ≤ window ∧ window ≤ 3600) ∧ 1 ≤ count ∧ count ≤ 255
      let block : RuleBlock :=
        { a := { kinds := kindsA.map some, lanes := lanesA.map some, test := some testA, limit := limitA },
          b := { kinds := kindsB.map some, lanes := lanesB.map some, test := some testB, limit := limitB },
          combine := some combine, window, sameBadge := same, count, action := some action }
      s.portTakes (.loadRule a block) →
      let stored : Rule :=
        { a := { kinds := kindsA, lanes := lanesA, test := testA, limit := limitA.toNat },
          b := { kinds := kindsB, lanes := lanesB, test := testB, limit := limitB.toNat },
          combine, window := max 1 (min 3600 window), sameBadge := same, count := max 1 (min 255 count), action,
          armed := false, counter := 0, first := none, trips := 0 }
      ∃ t, exec (.loadRule a block) s = .next t ∧
        t = { s with watch := t.watch, port := t.port } ∧ t.port.payFlag = s.port.payFlag ∧
        (good → Completed s t .done) ∧ (¬ good → Completed s t .doneClamped) ∧
        t.watch = { s.watch with rules := s.watch.rules.set n stored })

/-- SET TIME in SETUP sets plant time, era and the clock-set mark, drops the remainder, and sets END just when the
time given is the end of the range. SET TIME after READY and SHIFT TIME: a step to the time given, or by 960 ticks a
minute within the range of plant time, and a new era; the remainder is 0, every stored offset is cleared, a beacon is
placed, the END mark, the day rolls and the bells that the step brings are taken, and ERA_CHANGE is recorded behind
them. That END is set by a step that lands exactly on the end (assumption 25), that END comes before the rolls and the
bells (assumption 34), that counting goes on from the new time (assumption 5), and, where an alarm cuts a ring, the
record that a cut changes being the newest RUNG record of its entry (assumption 30), are the model's choices. -/
def Obligations.SetTime : Prop :=
  (∀ (time : BitVec 32) (era : BitVec 8) (s : State), s.inSetup → s.portTakes (.setTime time era) →
     ∃ t, exec (.setTime time era) s = .next t ∧ t = { s with clock := t.clock, port := t.port } ∧
       Completed s t .done ∧ t.port.payFlag = s.port.payFlag ∧
       t.clock = { steppedClock s.clock time.toNat with era := era, clockSet := true }) ∧
  (∀ s : State, s.sends → TablesSized s → ScheduleInRange s →
     let target (c : Instr) : Option Nat :=
       match c with
       | .setTime time _ => some time.toNat
       | .shiftTime a =>
         if -180 ≤ a.toInt ∧ a.toInt ≤ 180 then
           some (max 0 (min 4294967295 ((s.clock.time : Int) + 960 * a.toInt))).toNat
         else none
       | _ => none
     (∀ a : BitVec 16, s.portTakes (.shiftTime a) → target (.shiftTime a) = none →
       ∃ t, exec (.shiftTime a) s = .next t ∧ OnlyAnswered s t .badValue) ∧
     (∀ (c : Instr) (x : Nat), s.portTakes c → target c = some x →
       ∃ t, exec c s = .next t ∧ Completed s t .done ∧
         t.clock = { steppedClock s.clock x with era := s.clock.era + 1 } ∧
         (∀ e ∈ t.peers.entries, e.offset = none) ∧
         t.peers = { s.peers with entries := s.peers.entries.map fun e => { e with offset := none } } ∧
         (∃ tag, s.line.nextTag ≤ tag ∧ t.line.beacon = some tag ∧ t.line.nextTag = tag + 1) ∧
         t.line = { s.line with cues := t.line.cues, beacon := t.line.beacon, nextTag := t.line.nextTag } ∧
         t.supply = s.supply ∧ t.badges = s.badges ∧ t.inputs = s.inputs ∧ t.journal = s.journal ∧ t.inReset = s.inReset ∧
         t.pending = s.pending ∧
         Stepped s t x
           { kind := .eraChange, time := x, lane := none, badge := none, rule := none, peer := none,
             detail := some (max (-2147483648) (min 2147483647 ((x : Int) - s.clock.time))) }))

/-- READY: with a mark missing it is refused INCOMPLETE, its marks are returned, and nothing else changes. With every
mark set the station enters JOIN, each lane fitted and not written OFF becomes IDLE with its first levels sought, the
pay day is that of plant time, the next punch number is 0, every stored offset is cleared, and the line is FRESH. With
the gate supply low the failure delay is counted afresh. That it is counted as one sixteenth of a second (assumption
24) and that counting goes on from the present time (assumption 5) are the model's choices. -/
def Obligations.Ready : Prop :=
  ∀ s : State, s.inSetup → s.portTakes .ready →
    let marks : WrittenMarks :=
      { sw0 := s.control.sw0.isSome, sw1 := s.control.sw1.isSome, sw2 := s.control.sw2.isSome,
        sw3 := s.control.sw3.isSome, sw4 := s.control.sw4.isSome, sw5 := s.control.sw5.isSome,
        clockSet := s.clock.clockSet }
    let complete : Prop := marks = ⟨true, true, true, true, true, true, true⟩
    (¬ complete → ∃ t, exec .ready s = .next t ∧ OnlyAnswered s t .incomplete ∧ t.port.reply = .incomplete marks) ∧
    (complete → ∃ t, exec .ready s = .next t ∧ Completed s t .done ∧ t.port.payFlag = s.port.payFlag ∧
      (∀ l, let fitted : Prop := s.inputs.strap.get l = true ∧ (s.sw1 l).kind ≠ .off
        let sought : Debounced := { level := none, timer := some s.sw2.debounce }
        t.lane l =
          { s.lane l with
            kind := if fitted then (s.sw1 l).kind else .off
            state := if fitted then .idle else .off
            aux := if fitted then sought else .reset
            sense := if fitted then sought else .reset }) ∧
      t.control =
        { s.control with
          station := .join
          joinTimer := some (16 * s.sw3.joinPeriod)
          contactFound := false
          contactTimer := some s.sw2.debounce } ∧
      t.pay = { s.pay with today := payDay s.dayRollMinute s.clock.time } ∧
      t.clock = { s.clock with countedFrom := s.clock.time } ∧
      t.journal = { s.journal with next := 0 } ∧
      t.peers = { s.peers with entries := s.peers.entries.map fun e => { e with offset := none } } ∧
      t.line = { s.line with fresh := true } ∧
      t.badges = s.badges ∧ t.inputs = s.inputs ∧ t.bell = s.bell ∧ t.watch = s.watch ∧ t.faults = s.faults ∧
      t.inReset = s.inReset ∧ t.pending = s.pending ∧
      t.supply = { s.supply with failing := if s.inputs.gateLow then some 1 else none, returning := none })

/-! ## Badges and pay records -/

/-- BADGE PUT of a badge not in the table: BAD_VALUE for a value that is not good, FULL with 4096 entries or with no
pay record to allocate, and otherwise a new entry, its presence UNKNOWN, with a fresh pay record just when it is homed
here. BADGE PUT of a badge in the table keeps its presence; its pay record is kept, freed or allocated by the old and
the new home, a pay slot being present when the old home is this station. -/
def Obligations.BadgePut : Prop :=
  (∀ (b : BadgeBlock) (s : State), s.served → s.portTakes (.badgePut b) → RecordsOrdered s →
     ((∀ f, ¬ Spells b f) → ∃ t, exec (.badgePut b) s = .next t ∧ OnlyAnswered s t .badValue) ∧
     (∀ f, Spells b f → s.lookup f.number = none →
       (4096 ≤ s.badges.entries.length ∨ (f.home = s.ownStation ∧ 1024 ≤ s.pay.records.length) →
         ∃ t, exec (.badgePut b) s = .next t ∧ OnlyAnswered s t .full) ∧
       (s.badges.entries.length < 4096 → (f.home = s.ownStation → s.pay.records.length < 1024) →
         ∃ t slot, exec (.badgePut b) s = .next t ∧ Completed s t .done ∧
           t = { s with badges := t.badges, pay := t.pay, port := t.port } ∧ t.port.payFlag = s.port.payFlag ∧
           TableChanged s t f.number (some (f.entry slot { state := .unknown, time := 0, source := none })) ∧
           t.badges.entries.length = s.badges.entries.length + 1 ∧ t.badges.muster = s.badges.muster ∧
           (f.home = s.ownStation → ∃ k, slot = some k ∧ Allocated s t k) ∧
           (f.home ≠ s.ownStation → slot = none ∧ t.pay = s.pay)))) ∧
  (∀ (b : BadgeBlock) (f : BadgeFields) (e : BadgeEntry) (s : State), s.served → s.portTakes (.badgePut b) →
     RecordsOrdered s → Spells b f →
     s.lookup f.number = some e →
     let busy (slot : Nat) : Prop := ∃ r, s.pay.record slot = some r ∧ (r.openIn.isSome = true ∨ r.orphan.isSome = true)
     let replaced (t : State) (slot : Option Nat) : Prop :=
       Completed s t .done ∧ t = { s with badges := t.badges, pay := t.pay, port := t.port } ∧
       t.port.payFlag = s.port.payFlag ∧ TableChanged s t f.number (some (f.entry slot e.presence)) ∧
       t.badges.muster = s.badges.muster ∧ t.badges.entries.length = s.badges.entries.length
     (∀ slot, e.paySlot = some slot → f.home = s.ownStation →
       ∃ t, exec (.badgePut b) s = .next t ∧ replaced t (some slot) ∧ t.pay = s.pay) ∧
     (∀ slot, e.paySlot = some slot → f.home ≠ s.ownStation → busy slot →
       ∃ t, exec (.badgePut b) s = .next t ∧ OnlyAnswered s t .stillOpen) ∧
     (∀ slot, e.paySlot = some slot → f.home ≠ s.ownStation → ¬ busy slot →
       ∃ t, exec (.badgePut b) s = .next t ∧ replaced t none ∧ Freed s t slot) ∧
     (e.paySlot = none → f.home ≠ s.ownStation →
       ∃ t, exec (.badgePut b) s = .next t ∧ replaced t none ∧ t.pay = s.pay) ∧
     (e.paySlot = none → f.home = s.ownStation → 1024 ≤ s.pay.records.length →
       ∃ t, exec (.badgePut b) s = .next t ∧ OnlyAnswered s t .full) ∧
     (e.paySlot = none → f.home = s.ownStation → s.pay.records.length < 1024 →
       ∃ t slot, exec (.badgePut b) s = .next t ∧ replaced t (some slot) ∧ Allocated s t slot))

/-- BADGE DROP: BAD_VALUE, NO_ENTRY, OPEN for an open IN without force; otherwise the entry leaves with its pay
record, and the muster count falls by 1 when it was IN. -/
def Obligations.BadgeDrop : Prop :=
  ∀ (force : BitVec 16) (badge : BitVec 24) (s : State), s.served → s.portTakes (.badgeDrop force badge) →
    let n := badge.toNat
    let good : Prop := 1 ≤ n ∧ n ≤ 16777214 ∧ force.toNat ≤ 1
    let openHere (e : BadgeEntry) : Prop :=
      ∃ slot r, e.paySlot = some slot ∧ s.pay.record slot = some r ∧ r.openIn.isSome = true
    (¬ good → ∃ t, exec (.badgeDrop force badge) s = .next t ∧ OnlyAnswered s t .badValue) ∧
    (good → s.lookup n = none → ∃ t, exec (.badgeDrop force badge) s = .next t ∧ OnlyAnswered s t .noEntry) ∧
    (∀ e, good → s.lookup n = some e →
      (force = 0 → openHere e → ∃ t, exec (.badgeDrop force badge) s = .next t ∧ OnlyAnswered s t .stillOpen) ∧
      (force = 1 ∨ ¬ openHere e →
        ∃ t, exec (.badgeDrop force badge) s = .next t ∧ Completed s t .done ∧
          t = { s with badges := t.badges, pay := t.pay, port := t.port } ∧ t.port.payFlag = s.port.payFlag ∧
          TableChanged s t n none ∧
          t.badges.muster = (if e.presence.state = .isIn then s.badges.muster - 1 else s.badges.muster) ∧
          (e.paySlot = none → t.pay = s.pay) ∧ ∀ slot, e.paySlot = some slot → Freed s t slot))

/-- BADGE READ returns an entry whole in the bytes of R206, those of an absent expiry zero, EXACT the entry of the
number given and NEXT the first one beyond it, or NO_ENTRY; it changes nothing but the mailbox. MUSTER READ returns
the muster count, up to 7 IN badges beyond the cursor in the table's order, and END when no IN entry lies beyond the
last; the cursor takes the last badge returned. -/
def Obligations.BadgeReads : Prop :=
  (∀ (a : BitVec 16) (badge : BitVec 24) (s : State), s.served → s.portTakes (.badgeRead a badge) → TableOrdered s →
     let n := badge.toNat
     let good : Prop := (a = 0 ∧ 1 ≤ n ∧ n ≤ 16777214) ∨ (a = 1 ∧ n ≤ 16777214)
     let found (e : BadgeEntry) : Prop := e ∈ s.badges.entries ∧
       (a = 0 → e.number = n) ∧ (a = 1 → n < e.number ∧ ∀ x ∈ s.badges.entries, n < x.number → e.number ≤ x.number)
     (¬ good → ∃ t, exec (.badgeRead a badge) s = .next t ∧ OnlyAnswered s t .badValue) ∧
     (good → (∀ e, ¬ found e) → ∃ t, exec (.badgeRead a badge) s = .next t ∧ OnlyAnswered s t .noEntry) ∧
     (∀ e, good → found e →
       ∃ t, exec (.badgeRead a badge) s = .next t ∧ OnlyAnswered s t .done ∧ t.port.data.length = 64 ∧
         leNat (t.port.data.take 3) = e.number ∧
         (t.port.data.getD 4 0).toNat = e.cls.val ∧
         (t.port.data.getD 5 0).toNat = (if e.status = .active then 1 else 2) ∧
         (t.port.data.getD 6 0).toNat = (match e.mode with | .strict => 1 | .soft => 2 | .modeNone => 3) ∧
         (t.port.data.getD 7 0).toNat = e.home.val ∧
         (∀ d, e.expiry = some d → d < 65536 → leNat ((t.port.data.drop 8).take 2) = d) ∧
         (e.expiry = none → leNat ((t.port.data.drop 8).take 2) = 0) ∧
         (t.port.data.getD 10 0).toNat = (if e.expiry.isSome then 1 else 0) ∧
         (t.port.data.getD 11 0).toNat = (if e.paySlot.isSome then 1 else 0) ∧
         (t.port.data.getD 12 0).toNat = (match e.presence.state with | .unknown => 0 | .isIn => 1 | .isOut => 2) ∧
         (t.port.data.getD 13 0).toNat = (match e.presence.source with | some p => p.val | none => 255) ∧
         (e.presence.time < 4294967296 → leNat ((t.port.data.drop 16).take 4) = e.presence.time) ∧
         ∀ k, 20 ≤ k → t.port.data.getD k 0 = 0)) ∧
  (∀ (a : BitVec 16) (s : State), s.served → s.portTakes (.musterRead a) →
     let start := if a = 0 then 0 else s.badges.cursor
     let beyond := (s.badges.entries.filter fun e =>
       decide (e.presence.state = .isIn ∧ start < e.number)).map BadgeEntry.number
     (a ≠ 0 → a ≠ 1 → ∃ t, exec (.musterRead a) s = .next t ∧ OnlyAnswered s t .badValue) ∧
     (a = 0 ∨ a = 1 →
       ∃ t, exec (.musterRead a) s = .next t ∧ Completed s t .done ∧
         t = { s with badges := t.badges, port := t.port } ∧ t.port.payFlag = s.port.payFlag ∧
         t.badges = { s.badges with cursor := (beyond.take 7).getLastD start } ∧
         t.port.reply = .muster
           { muster := s.badges.muster, badges := beyond.take 7, count := min 7 beyond.length,
             atEnd := decide (beyond.drop 7 = []) }))

/-- PAY READ returns one part of a badge's pay record, in the bytes of R206 whole, or NO_ENTRY, and changes nothing
but the mailbox; the fields of an absent part are zero. -/
def Obligations.PayRead : Prop :=
  ∀ (a : BitVec 16) (badge : BitVec 24) (s : State), s.served → s.portTakes (.payRead a badge) →
    let n := badge.toNat
    let good : Prop := a.toNat ≤ 3 ∧ 1 ≤ n ∧ n ≤ 16777214
    let linked (r : PayRecord) : Prop :=
      ∃ e slot, s.lookup n = some e ∧ e.paySlot = some slot ∧ s.pay.record slot = some r
    (¬ good → ∃ t, exec (.payRead a badge) s = .next t ∧ OnlyAnswered s t .badValue) ∧
    (good → (∀ r, ¬ linked r) → ∃ t, exec (.payRead a badge) s = .next t ∧ OnlyAnswered s t .noEntry) ∧
    (∀ r, good → linked r →
      ∃ t, exec (.payRead a badge) s = .next t ∧ OnlyAnswered s t .done ∧ t.port.data.length = 64 ∧
        let byte (k : Nat) : Nat := (t.port.data.getD k 0).toNat
        let word (k : Nat) : Nat := leNat ((t.port.data.drop k).take 2)
        let long (k : Nat) : Nat := leNat ((t.port.data.drop k).take 4)
        let slotPart (d : DaySlot) : Prop :=
          word 0 = d.day % 65536 ∧ word 2 = d.regular % 65536 ∧ word 4 = d.ot1 % 65536 ∧ word 6 = d.ot2 % 65536 ∧
          word 8 = d.night % 65536 ∧ word 10 = d.clamped % 65536 ∧ byte 12 = d.intervals % 256 ∧
          byte 13 = (if d.breakMark then 1 else 0) + (if d.lastOut.isSome then 2 else 0) ∧
          (d.lastOut = none → byte 14 = 0 ∧ word 16 = 0) ∧
          (∀ out cls, d.lastOut = some (out, cls) → byte 14 = cls.val ∧
            (-32768 ≤ out → out ≤ 32767 → (BitVec.ofNat 16 (word 16)).toInt = out)) ∧
          word 18 = d.flags.toNat
        let openPart : Prop :=
          byte 20 = (if r.openIn.isSome then 1 else 0) + (if r.openIn.any OpenIn.flagged then 2 else 0) +
            (if r.orphan.isSome then 4 else 0) ∧
          (∀ i, r.openIn = some i → byte 21 = i.cls.val ∧ byte 22 = i.source.val ∧ byte 23 = i.era.toNat ∧
            long 24 = i.time % 4294967296 ∧ word 28 = i.day % 65536) ∧
          (r.openIn = none → ∀ k, 21 ≤ k → k < 30 → byte k = 0) ∧
          (∀ o, r.orphan = some o → byte 30 = o.era.toNat ∧ byte 31 = o.source.val ∧ long 32 = o.time % 4294967296) ∧
          (r.orphan = none → ∀ k, 30 ≤ k → k < 36 → byte k = 0)
        let periodPart (p : Period) : Prop :=
          word 0 = p.regular % 65536 ∧ word 2 = p.ot1 % 65536 ∧ word 4 = p.ot2 % 65536 ∧ word 6 = p.night % 65536 ∧
          byte 8 = p.days % 256 ∧ byte 9 = (if p.saturated then 1 else 0) ∧ word 10 = p.flags.toNat
        (a = 0 → slotPart r.current ∧ openPart ∧ ∀ k, 36 ≤ k → byte k = 0) ∧
        (a = 1 → slotPart r.previous ∧ ∀ k, 20 ≤ k → byte k = 0) ∧
        (a = 2 → periodPart r.period ∧ ∀ k, 12 ≤ k → byte k = 0) ∧
        (a = 3 → periodPart r.last ∧ ∀ k, 12 ≤ k → byte k = 0))

/-- PERIOD CLOSE: for every linked record the last period takes the period whole and the period becomes zero; the day
slots, the open IN and the orphan OUT stand. -/
def Obligations.PeriodClose : Prop :=
  ∀ s : State, s.inReset = false → s.portTakes .periodClose →
    (s.station.serving = true →
      ∃ t, exec .periodClose s = .next t ∧ Completed s t .done ∧ t = { s with pay := t.pay, port := t.port } ∧
        t.port.payFlag = s.port.payFlag ∧
        t.pay =
          { s.pay with
            records := s.pay.records.map fun x =>
              (x.1, { x.2 with
                last := x.2.period
                period := { regular := 0, ot1 := 0, ot2 := 0, night := 0, days := 0, flags := 0,
                            saturated := false } }) }) ∧
    (s.station = .setup ∨ s.station = .holdover →
      ∃ t, exec .periodClose s = .next t ∧ OnlyAnswered s t .notInState)

/-! ## Records, status and control -/

/-- TRACE MARK sets the read pointer to the oldest entry; TRACE READ returns the entry at the pointer, or EMPTY, with
the next event number, and advances the pointer. INCIDENT TAKE returns the oldest incident and removes it, with the
number left and the lost count, which is then 0 when none is left; on an empty queue it returns EMPTY with the lost
count, which is then 0. -/
def Obligations.RecordReads : Prop :=
  (∀ s : State, s.served →
     (s.portTakes .traceMark →
       ∃ t, exec .traceMark s = .next t ∧ Completed s t .done ∧ t = { s with watch := t.watch, port := t.port } ∧
       t.port.payFlag = s.port.payFlag ∧
       t.watch = { s.watch with
         readPtr := if (s.watch.trace.getD s.watch.writePos none).isSome then s.watch.writePos else 0 }) ∧
     (s.portTakes .traceRead → ∃ t, exec .traceRead s = .next t ∧ t = { s with watch := t.watch, port := t.port } ∧
       t.port.payFlag = s.port.payFlag ∧ t.watch = { s.watch with readPtr := (s.watch.readPtr + 1) % 32 } ∧
       leNat ((t.port.data.drop 16).take 2) = s.watch.nextEvent.toNat ∧
       (s.watch.trace.getD s.watch.readPtr none = none →
         Completed s t .empty ∧ t.port.data.take 16 = List.replicate 16 0) ∧
       ∀ e, s.watch.trace.getD s.watch.readPtr none = some e →
         Completed s t .done ∧ leNat (t.port.data.take 2) = e.number.toNat ∧
         (t.port.data.getD 2 0).toNat = e.lane.number ∧ (t.port.data.getD 3 0).toNat = eventCode e.outcome ∧
         (t.port.data.getD 4 0).toNat = (match e.reason with | some r => r.code | none => 0) ∧
         (t.port.data.getD 5 0).toNat = (if e.badge.isSome then 1 else 0) + (if e.unused then 2 else 0) ∧
         (e.time < 4294967296 → leNat ((t.port.data.drop 8).take 4) = e.time) ∧
         ∀ n, e.badge = some n → n < 16777216 → leNat ((t.port.data.drop 12).take 3) = n)) ∧
  (∀ s : State, s.served → s.portTakes .incidentTake →
     (s.watch.incidents = [] →
       ∃ t, exec .incidentTake s = .next t ∧ Completed s t .empty ∧ t = { s with watch := t.watch, port := t.port } ∧
         t.port.payFlag = s.port.payFlag ∧ t.watch = { s.watch with lost := 0 } ∧
         (s.watch.lost < 256 → (t.port.data.getD 6 0).toNat = s.watch.lost) ∧
         ∀ k, k ≠ 6 → t.port.data.getD k 0 = 0) ∧
     (∀ (i : Incident) (rest : List Incident), s.watch.incidents = i :: rest →
       ∃ t, exec .incidentTake s = .next t ∧ Completed s t .done ∧ t = { s with watch := t.watch, port := t.port } ∧
         t.port.payFlag = s.port.payFlag ∧
         t.watch = { s.watch with incidents := rest, lost := if rest = [] then 0 else s.watch.lost } ∧
         (t.port.data.getD 0 0).toNat = i.kind.code ∧
         (t.port.data.getD 1 0).toNat = (if i.lane.isSome then 1 else 0) + (if i.badge.isSome then 2 else 0) +
           (if i.rule.isSome then 4 else 0) + (if i.peer.isSome then 8 else 0) + (if i.detail.isSome then 16 else 0) ∧
         (∀ l, i.lane = some l → (t.port.data.getD 2 0).toNat = l.number) ∧
         (∀ r, i.rule = some r → (t.port.data.getD 3 0).toNat = r.number) ∧
         (∀ p : Station, i.peer = some p → (t.port.data.getD 4 0).toNat = p.val) ∧
         (rest.length < 256 → (t.port.data.getD 5 0).toNat = rest.length) ∧
         (s.watch.lost < 256 → (t.port.data.getD 6 0).toNat = s.watch.lost) ∧
         (i.time < 4294967296 → leNat ((t.port.data.drop 8).take 4) = i.time) ∧
         (∀ n, i.badge = some n → n < 16777216 → leNat ((t.port.data.drop 12).take 3) = n) ∧
         ∀ d : Int, i.detail = some d → -2147483648 ≤ d → d ≤ 2147483647 →
           (BitVec.ofNat 32 (leNat ((t.port.data.drop 16).take 4))).toInt = d))

/-- STATUS READ returns every field of the part that A names, for the lane or from the entry that B names, in every
state, and changes nothing but the mailbox; a part above 9, a lane outside 1 to 4 and an entry above 47 are refused.
The LANE part carries the held-open limit as well, which R17 has reported. That the peers counted are all sixteen
entries, the own one among them, is the model's choice (assumption 37). PEER READ returns the whole entry of a station
number 0 to 15, in every state, and changes nothing but the mailbox; a number above 15 is refused. -/
def Obligations.StatusReads : Prop :=
  (∀ (a b : BitVec 16) (s : State), s.inReset = false → s.portTakes (.statusRead a b) →
     let bad : Prop := 10 ≤ a.toNat ∨ (a = 2 ∧ ¬ (1 ≤ b.toNat ∧ b.toNat ≤ 4)) ∨ (a = 8 ∧ 48 ≤ b.toNat)
     let peers (x : PeerState) : Nat := s.peers.entries.countP fun e => decide (e.state = x)
     (bad → ∃ t, exec (.statusRead a b) s = .next t ∧ OnlyAnswered s t .badValue) ∧
     (¬ bad → ∃ t r, exec (.statusRead a b) s = .next t ∧ OnlyAnswered s t .done ∧ t.port.reply = .status r ∧
       (a = 0 → r = .station
         { state := s.station
           marks :=
             { sw0 := s.control.sw0.isSome, sw1 := s.control.sw1.isSome, sw2 := s.control.sw2.isSome,
               sw3 := s.control.sw3.isSome, sw4 := s.control.sw4.isSome, sw5 := s.control.sw5.isSome,
               clockSet := s.clock.clockSet }
           holdoverCount := s.control.holdoverCount
           elapsed := if s.station = .holdover then some (s.clock.realTime - s.control.holdoverEntry) else none
           backupLow := s.inputs.backupLow, contact := s.control.contact, evacRecord := s.control.evacRecord
           pendingEvac := s.control.pendingEvac, reasons := s.control.stationReasons, override := s.control.override
           deadline := s.peers.deadline, isolated := s.peers.isolated
           doubt := decide (s.clock.time < s.peers.deadline) || s.peers.isolated }) ∧
       (a = 1 → r = .clock { time := s.clock.time, era := s.clock.era, remainder := s.clock.remainder,
                             degraded := s.clock.degraded, endMark := s.clock.endMark,
                             agreement := s.clock.agreement }) ∧
       (∀ l : Lane, a = 2 → b.toNat = l.number → r = .lane
         { written := s.control.sw1.map fun w => (w.get l).kind
           heldOpenLimit := s.control.sw2.map fun w => (w.limits.get l).heldOpen
           kind := (s.lane l).kind, state := (s.lane l).state, reasons := s.control.laneReasons.get l
           drive := (s.lane l).drive
           pending := (s.lane l).release.map fun p => (p.badge, (s.lane l).releaseTimer.isSome)
           readerErrors := (s.lane l).readerErrors, repeats := (s.lane l).repeats, forced := (s.lane l).forced
           openPassages := (s.lane l).openPassages, evacPassages := (s.lane l).evacPassages
           faults := s.faults.lanes.get l }) ∧
       (a = 3 → r = .context s.control.context) ∧
       (a = 4 → r = .tables { entries := s.badges.entries.length, muster := s.badges.muster,
                              ownStale := s.badges.ownStale, ownStranger := s.badges.ownStranger,
                              freeRecords := 1024 - s.pay.records.length, today := s.pay.today,
                              earlyRolls := s.pay.earlyRolls }) ∧
       (a = 5 → r = .line
         { errors := s.line.errors, collisions := s.line.collisions, dropped := s.line.dropped, clashes := s.line.clashes
           cues := s.line.cues.length, evacHeld := s.line.evac.isSome, beaconHeld := s.line.beacon.isSome
           inHand := s.line.inHand.map InHand.kind, attempt := s.line.attempt, drops := s.line.drops
           fresh := s.line.fresh, level := s.journal.entries.length, next := s.journal.next, full := s.journal.full
           leftOut := s.journal.leftOut, never := peers .never, heard := peers .heard, lost := peers .lost
           line := s.faults.line, clock := s.faults.clock }) ∧
       (a = 6 → r = .bell { arbiter := s.bell.arbiter, output := s.bell.arbiter.any Sounding.on, missed := s.bell.missed,
                            cut := s.bell.cut, suppressed := s.bell.suppressed, earlyCue := s.bell.earlyCue }) ∧
       (a = 7 → r = .bellTrace s.bell.trace s.bell.trace.length) ∧
       (a = 8 → r = .bellMarks (((s.bell.entries.drop b.toNat).take 32).map fun e => e.mark.getD 65535)) ∧
       (a = 9 → r = .watch
         (s.watch.rules.map fun x => { armed := x.armed, counter := x.counter, trips := x.trips, first := x.first })
         s.watch.lost))) ∧
  (∀ (a : BitVec 16) (s : State), s.inReset = false → s.portTakes (.peerRead a) →
     (15 < a.toNat → ∃ t, exec (.peerRead a) s = .next t ∧ OnlyAnswered s t .badValue) ∧
     (∀ p : Station, a.toNat = p.val →
       ∃ t, exec (.peerRead a) s = .next t ∧ OnlyAnswered s t .done ∧ t.port.reply = .peer (s.peer p)))

/-- ATTENTION READ returns the attention word as it stands, in every state, and clears PAY_FLAG alone; each mark of
the word follows its condition, and the attention line is raised while any mark is set. -/
def Obligations.AttentionRead : Prop :=
  ∀ s : State, s.inReset = false →
    (s.portTakes .attentionRead →
      ∃ t, exec .attentionRead s = .next t ∧ Completed s t .done ∧ t = { s with port := t.port } ∧
      t.port.data.getD 0 0 = s.attention ∧ (∀ k, 1 ≤ k → t.port.data.getD k 0 = 0) ∧ t.port.payFlag = false) ∧
    s.attention.getLsbD 0 = !s.watch.incidents.isEmpty ∧
    (∀ w, s.control.sw5 = some w →
      s.attention.getLsbD 1 = decide (w.journalThreshold ≤ s.journal.entries.length)) ∧
    s.attention.getLsbD 2 = (decide (s.clock.time < s.peers.deadline) || s.peers.isolated) ∧
    s.attention.getLsbD 3 = decide (s.station = .evacuate) ∧
    (s.attention.getLsbD 4 = true ↔ s.control.stationReasons ≠ [] ∨ ∃ l, s.control.laneReasons.get l ≠ []) ∧
    (s.attention.getLsbD 5 = true ↔ s.faults.line.state = .active ∨ s.faults.clock.state = .active ∨
      ∃ l k, ((s.faults.lanes.get l).get k).state = .active) ∧
    s.attention.getLsbD 6 = s.port.payFlag ∧ s.attention.getLsbD 7 = false ∧
    (s.attentionLine = true ↔ s.attention ≠ 0)

/-- HOLD adds TERMINAL to the reasons of the station or of a lane. With no reason set before, the hold context is
taken; a station reason takes LIVE to HELD and every IDLE lane with it; a lane reason takes its lane, when IDLE, to
HELD. RESUME clears every reason and the context, stops a sounding alarm, and takes HELD to LIVE. Outside EVACUATE
each lane in HELD goes to IDLE, or to OPEN when it is a DOOR whose contact is open, with its strike LOCKED. -/
def Obligations.HoldAndResume : Prop :=
  (∀ (a : BitVec 16) (s : State), s.served → s.portTakes (.hold a) →
     (4 < a.toNat → ∃ t, exec (.hold a) s = .next t ∧ OnlyAnswered s t .badValue) ∧
     (a.toNat ≤ 4 → ∃ t, exec (.hold a) s = .next t ∧ Completed s t .done ∧
       t = { s with lanes := t.lanes, control := t.control, port := t.port } ∧ t.port.payFlag = s.port.payFlag ∧
       (a = 0 → StationHeldBy s t .terminal) ∧
       ∀ l : Lane, a.toNat = l.number → LaneHeldBy s t l .terminal)) ∧
  (∀ s : State, s.served → s.portTakes .resume →
     ∃ t, exec .resume s = .next t ∧ Completed s t .done ∧
       t = { s with lanes := t.lanes, bell := t.bell, control := t.control, port := t.port } ∧
       t.port.payFlag = s.port.payFlag ∧
       t.control =
         { s.control with
           stationReasons := []
           laneReasons := .same []
           context := none
           station := if s.station = .held then .live else s.station } ∧
       t.bell = { s.bell with arbiter := t.bell.arbiter } ∧
       ((∃ x, s.bell.arbiter = some x ∧ x.rank = .alarm) → t.bell.arbiter = none) ∧
       ((∀ x, s.bell.arbiter = some x → x.rank ≠ .alarm) → t.bell.arbiter = s.bell.arbiter) ∧
       ∀ l, ((s.lane l).state ≠ .held ∨ s.station = .evacuate → t.lane l = s.lane l) ∧
         ((s.lane l).state = .held → s.station ≠ .evacuate →
           ((s.lane l).kind = .door ∧ (s.lane l).aux.level = some true →
             t.lane l = doorOpened s l (s.lane l)) ∧
           ((s.lane l).kind ≠ .off → ¬ ((s.lane l).kind = .door ∧ (s.lane l).aux.level = some true) →
             t.lane l = drivenLane { s.lane l with state := .idle, heldOpen := none } false) ∧
           ((s.lane l).kind = .off → t.lane l = { s.lane l with state := .idle, heldOpen := none, drive := false })))

/-- ARM arms a rule, sets its counter to N − 1 and clears its first record; DISARM disarms it and clears its first
record, its counter standing; the trip count stands through both, a rule number above 3 is refused, and a disarmed
rule matches no event. -/
def Obligations.ArmDisarm : Prop :=
  (∀ r, (State.reset.watch.rules.get r).armed = false) ∧
  ∀ (a : BitVec 16) (s : State), s.inReset = false →
    (s.station = .setup ∨ s.station = .holdover →
      (s.portTakes (.arm a) → ∃ t, exec (.arm a) s = .next t ∧ OnlyAnswered s t .notInState) ∧
      (s.portTakes (.disarm a) → ∃ t, exec (.disarm a) s = .next t ∧ OnlyAnswered s t .notInState)) ∧
    (s.station.serving = true → 3 < a.toNat →
      (s.portTakes (.arm a) → ∃ t, exec (.arm a) s = .next t ∧ OnlyAnswered s t .badValue) ∧
      (s.portTakes (.disarm a) → ∃ t, exec (.disarm a) s = .next t ∧ OnlyAnswered s t .badValue)) ∧
    (∀ n : RuleNo, s.station.serving = true → a.toNat = n.number →
      let x := s.watch.rules.get n
      (s.portTakes (.arm a) →
        ∃ t, exec (.arm a) s = .next t ∧ Completed s t .done ∧ t = { s with watch := t.watch, port := t.port } ∧
        t.port.payFlag = s.port.payFlag ∧
        t.watch = { s.watch with
          rules := s.watch.rules.set n { x with armed := true, counter := x.count - 1, first := none } }) ∧
      (s.portTakes (.disarm a) →
        ∃ t, exec (.disarm a) s = .next t ∧ Completed s t .done ∧ t = { s with watch := t.watch, port := t.port } ∧
        t.port.payFlag = s.port.payFlag ∧
        t.watch = { s.watch with rules := s.watch.rules.set n { x with armed := false, first := none } } ∧
        ∀ e, t.matchRule n e = t))

/-- PASSBACK MODE sets the passback override to FOLLOW or FORCE_SOFT and changes nothing else; an undefined value is
refused, and so is the command in SETUP and HOLDOVER. -/
def Obligations.PassbackMode : Prop :=
  ∀ (a : BitVec 16) (s : State), s.inReset = false → s.portTakes (.passbackMode a) →
    (s.station = .setup ∨ s.station = .holdover →
      ∃ t, exec (.passbackMode a) s = .next t ∧ OnlyAnswered s t .notInState) ∧
    (s.station.serving = true → 1 < a.toNat →
      ∃ t, exec (.passbackMode a) s = .next t ∧ OnlyAnswered s t .badValue) ∧
    (s.station.serving = true → a.toNat ≤ 1 →
      ∃ t, exec (.passbackMode a) s = .next t ∧ Completed s t .done ∧
        t = { s with control := t.control, port := t.port } ∧ t.port.payFlag = s.port.payFlag ∧
        t.control = { s.control with override := if a = 0 then .follow else .forceSoft })

/-! ## Evacuation -/

/-- EVACUATE in LIVE or HELD enters EVACUATE with reason TERMINAL and places a CLEAR; while evacuating it places a
fresh CLEAR alone. Stated with no event waiting and no rule armed, so that no rule acts on the UNUSED closings. The
model's choices: the UNUSED events in ascending order of the lanes (assumption 31), and the record that a cut changes
being the newest RUNG record of its entry (assumption 30). -/
def Obligations.EvacuateCommand : Prop :=
  ∀ s : State, s.sends → s.portTakes .evacuate → s.calm →
    ∃ t tag, exec .evacuate s = .next t ∧ Completed s t .done ∧ t.port.payFlag = s.port.payFlag ∧
      t.line = { s.line with evac := some { tag, frame := .clear .terminal }, nextTag := t.line.nextTag } ∧
      s.line.nextTag ≤ tag ∧ tag < t.line.nextTag ∧
      (s.station ≠ .evacuate → EvacuationBegun s t .terminal ∧
        t = { s with lanes := t.lanes, bell := t.bell, line := t.line, watch := t.watch, control := t.control,
                     port := t.port }) ∧
      (s.station = .evacuate → t = { s with line := t.line, port := t.port })

/-- ALL CLEAR: outside EVACUATE refused NOT_IN_STATE, with the contact ASSERTED refused INPUT_ACTIVE, and otherwise
EVACUATE is left with end cause TERMINAL and an ALL CLEAR placed. -/
def Obligations.AllClearCommand : Prop :=
  ∀ s : State, s.inReset = false → s.portTakes .allClear →
    (s.station ≠ .evacuate → ∃ t, exec .allClear s = .next t ∧ OnlyAnswered s t .notInState) ∧
    (s.station = .evacuate → s.control.contact = true →
      ∃ t, exec .allClear s = .next t ∧ OnlyAnswered s t .inputActive) ∧
    (s.station = .evacuate → s.control.contact = false → s.watch.handed = [] → ReleasesPlaced s →
      ∃ t tag, exec .allClear s = .next t ∧ Completed s t .done ∧ t.port.payFlag = s.port.payFlag ∧
        EvacuationEnded s t none ∧
        t = { s with lanes := t.lanes, bell := t.bell, line := t.line, peers := t.peers, watch := t.watch,
                     control := t.control, port := t.port } ∧
        t.line = { s.line with evac := some { tag, frame := .allClear }, nextTag := t.line.nextTag } ∧
        s.line.nextTag ≤ tag ∧ tag < t.line.nextTag)

/-- EVAC_CONTACT_EDGE: an edge to NORMAL changes the contact level alone; one to ASSERTED enters EVACUATE from LIVE
and HELD with a CLEAR, places a fresh CLEAR while evacuating, and is noted in JOIN. The model's choices: the UNUSED
events in ascending order of the lanes (assumption 31), and the record that a cut changes being the newest RUNG record
of its entry (assumption 30). -/
def Obligations.EvacContactEdge : Prop :=
  ∀ s : State, s.served → s.calm → s.control.contactFound = true → s.control.contactTimer.isSome = true →
    s.inputs.contact ≠ s.control.contact →
    let noted : State := { s with control := { s.control with contact := s.inputs.contact, contactTimer := none } }
    (s.inputs.contact = false ∨ s.station = .join → exec .evacContactEdge s = .next noted) ∧
    (s.inputs.contact = true → s.station = .live ∨ s.station = .held →
      ∃ t tag, exec .evacContactEdge s = .next t ∧ EvacuationBegun noted t .input ∧
        t = { s with lanes := t.lanes, bell := t.bell, line := t.line, watch := t.watch, control := t.control } ∧
        t.line = { s.line with evac := some { tag, frame := .clear .input }, nextTag := tag + 1 }) ∧
    (s.inputs.contact = true → s.station = .evacuate →
      ∃ t tag, exec .evacContactEdge s = .next t ∧ t = { noted with line := t.line } ∧
        t.line = { s.line with evac := some { tag, frame := .clear .input }, nextTag := tag + 1 })

/-- CLEAR from a peer: in LIVE and HELD EVACUATE is entered with reason FRAME, the source and the frame's reason, and
nothing is placed; in JOIN the pending evacuation is made unless one with its CLEAR mark stands; in EVACUATE nothing
but the peer's entry changes. The model's choices: the UNUSED events in ascending order of the lanes (assumption 31),
and the record that a cut changes being the newest RUNG record of its entry (assumption 30). ALL CLEAR from a peer: in
EVACUATE with the contact NORMAL it is left with end cause FRAME, an unsent CLEAR is removed and nothing is placed;
with the contact ASSERTED a CLEAR of reason RELAY is placed; in JOIN the pending evacuation is cleared; in LIVE and
HELD nothing but the peer's entry changes. -/
def Obligations.ClearFrames : Prop :=
  (∀ (f : ClearFrame) (s : State), s.served → s.calm → TablesSized s → s.line.sending = none →
     f.source ≠ s.ownStation →
     ∃ t, exec (.clear f) s = .next t ∧ Heard s t f.source ∧
       (s.station = .live ∨ s.station = .held →
         EvacuationBegun s t (.frame f.source f.reason) ∧
         t.line = { s.line with evac := t.line.evac } ∧
         (∀ e, s.line.evac = some e → e.frame = .allClear → t.line.evac = none) ∧
         ((∀ e, s.line.evac = some e → e.frame ≠ .allClear) → t.line.evac = s.line.evac) ∧
         t = { s with lanes := t.lanes, bell := t.bell, line := t.line, peers := t.peers, watch := t.watch,
                      control := t.control }) ∧
       (s.station = .join →
         t = { s with peers := t.peers, control := t.control } ∧
         t.control =
           { s.control with
             pendingEvac := if s.control.pendingEvac.any PendingEvac.clearMark then s.control.pendingEvac
               else some { reason := .frame f.source f.reason, clearMark := false } }) ∧
       (s.station = .evacuate → t = { s with peers := t.peers })) ∧
  (∀ (source : Station) (s : State), s.served → s.watch.handed = [] → ReleasesPlaced s → TablesSized s →
     s.line.sending = none → source ≠ s.ownStation →
     ∃ t, exec (.allClearFrame source) s = .next t ∧
       (s.station = .evacuate → s.control.contact = false →
         ∃ u, Heard s u source ∧ u = { s with peers := u.peers } ∧ EvacuationEnded u t (some source) ∧
           t = { s with lanes := t.lanes, bell := t.bell, line := t.line, peers := t.peers, watch := t.watch,
                        control := t.control } ∧
           t.line = { s.line with evac := s.line.evac.filter fun e => decide (e.frame = .allClear) }) ∧
       (s.station = .evacuate → s.control.contact = true → Heard s t source ∧
         t = { s with line := t.line, peers := t.peers } ∧
         t.line = { s.line with
           evac := some { tag := s.line.nextTag, frame := .clear .relay }
           nextTag := s.line.nextTag + 1 }) ∧
       (s.station = .join → Heard s t source ∧ t = { s with peers := t.peers, control := t.control } ∧
         t.control = { s.control with pendingEvac := none }) ∧
       (s.station = .live ∨ s.station = .held → Heard s t source ∧ t = { s with peers := t.peers }))

/-! ## Lanes: readers, inputs and passages -/

/-- A reader frame is good just when it is six characters of even parity with their stop bits at mark: the start byte
0x02, a badge number of three bytes, a check byte that brings the sum of the four to 0, and the stop byte 0x03. -/
def Obligations.ReaderFrameChecks : Prop :=
  ∀ (chars : List ReaderChar) (n : Nat),
    readReader chars = some n ↔
      ∃ b0 b1 b2 check : Byte, chars.map ReaderChar.data = [0x02, b0, b1, b2, check, 0x03] ∧
        b0 + b1 + b2 + check = 0 ∧ n = b0.toNat + 256 * b1.toNat + 65536 * b2.toNat ∧ 1 ≤ n ∧ n ≤ 16777214 ∧
        ∀ c ∈ chars, c.stop = true ∧
          ((List.range 8).countP (fun i => c.data.getLsbD i) + (if c.parity then 1 else 0)) % 2 = 0

/-- A bad reader frame, and a whole second of break: the reader error count rises, and the READER record counts one
detection. With the record ACTIVE that is all; at the filter the record becomes ACTIVE, its action is taken and READER
is recorded: HOLD holds the lane, and OPEN puts it in FAULT outside EVACUATE. The model's choice, where an alarm cuts
a ring: the record that a cut changes being the newest RUNG record of its entry (assumption 30). -/
def Obligations.BadReaderFrame : Prop :=
  ∀ (l : Lane) (chars : List ReaderChar) (s : State), s.watches l → s.calm → readReader chars = none →
    ∃ t, exec (.readerFrame l chars) s = .next t ∧ exec (.readerBreakSecond l) s = .next t ∧
      LaneDetected
        { s with lanes := s.lanes.set l { s.lane l with readerErrors := min 65535 ((s.lane l).readerErrors + 1) } }
        t l .reader

/-- A good frame clears the lane's READER record, and a lane that the record alone held in FAULT leaves it. The read
is then a REFUSE event alone on a lane still in FAULT, an uncounted repeat within the re-read window, and otherwise
gets the verdict of the first row that holds: a refusal changes nothing but the gate trace, an admission of an IDLE or
RELEASED lane releases it, one behind an open door waits, a release it replaces closes UNUSED, and an EVAC admission
is the evacuation read. That the record is cleared before the read is dispatched is the model's choice (assumption
18). -/
def Obligations.GoodRead : Prop :=
  ∀ (l : Lane) (chars : List ReaderChar) (n : Nat) (s : State), s.watches l → s.calm → TablesSized s →
    readReader chars = some n →
    let cleared : LaneFaults :=
      { s.faults.lanes.get l with reader := { state := .normal, count := 0, causes := [], action := none } }
    ∃ u t, FaultLeft { s with faults := { s.faults with lanes := s.faults.lanes.set l cleared } } u l ∧
      exec (.readerFrame l chars) s = .next t ∧ t = { u with lanes := t.lanes, watch := t.watch } ∧
      let event (kind : EventKind) (reason : Option Reason) : LaneEvent := eventOf s kind l (some n) reason
      let release (flagged : Bool) : PendingRelease :=
        { badge := n, readTime := s.clock.time, flagged, rereadUntil := s.clock.realTime + 16 * s.sw2.reread }
      let evacRead : EvacRead :=
        { badge := n, readTime := s.clock.time, left := 16 * (s.sw2.limits.get l).release }
      let isRepeat : Prop := ∃ p, (u.lane l).release = some p ∧ p.badge = n ∧ s.clock.realTime < p.rereadUntil
      ((u.lane l).state = .fault → s.station ≠ .evacuate →
        t.lanes = u.lanes ∧ Traced s t [event .refuse (some .fault)] s.watch) ∧
      ((u.lane l).state ≠ .fault → isRepeat →
        t.watch = s.watch ∧
        t.lanes = u.lanes.set l { u.lane l with repeats := min 65535 ((s.lane l).repeats + 1) }) ∧
      (∀ r, ¬ isRepeat → (u.lane l).state ≠ .fault → refusalRow s l n = some r →
        t.lanes = u.lanes ∧ Traced s t [event .refuse (some r)] s.watch) ∧
      (¬ isRepeat → (u.lane l).state ≠ .fault → s.station = .evacuate → refusalRow s l n = none →
        t.lanes = u.lanes.set l { u.lane l with evacRead := some evacRead } ∧
        Traced s t [event .admitted (some .evac)] s.watch) ∧
      (∀ flagged : Bool, ¬ isRepeat → s.station ≠ .evacuate → refusalRow s l n = none →
        (flagged = true ↔ flaggedRead s l n) →
        let events := unusedOf u l ++ [if flagged then event .flagged (some .passback) else event .admitted none]
        ((u.lane l).state = .idle ∨ (u.lane l).state = .released →
          Traced s t events s.watch ∧
          t.lanes = u.lanes.set l (drivenLane
            { u.lane l with
              state := .released
              release := some (release flagged)
              releaseTimer := some (16 * (s.sw2.limits.get l).release) } true)) ∧
        ((u.lane l).state = .opened →
          Traced s t events s.watch ∧
          t.lanes = u.lanes.set l
            { u.lane l with release := some (release flagged), releaseTimer := none }))

/-- INPUT_LEVEL_CHANGE moves its pin. An auxiliary or sense input that is watched starts its debounce timer when the
new level differs from the debounced one, or when no level was found yet, and stops it when the level returned; so
does the evacuation contact. A strap changes its pin alone. A supply level is the supply monitor's: the gate supply
starts and stops the failure delay and, by its return threshold, the return delay, and the backup supply falling while
the gate supply is low is a backup loss. That the failure delay is one sixteenth of a second, and the backup loss of a
gate supply falling again in HOLDOVER, are the model's choices (assumption 24). FIRST_LEVEL_FOUND gives an input that
had no debounced level its raw level, and is not an edge; a DOOR lane whose first level is open enters OPEN with its
strike LOCKED and its held-open timer started, outside EVACUATE. These are the model's choices: that a door found open
keeps a pending release, leaves a lane in FAULT where it is and starts no timer in EVACUATE (assumption 21), that a
door found closed is no closing (assumption 42), and that the contact's level stands while it is sought (assumption
22). -/
def Obligations.InputLevels : Prop :=
  (∀ (i : Input) (level : Bool) (s : State), s.inReset = false → s.inputs.level i ≠ level →
     let timerOf (d : Debounced) : Debounced :=
       { d with timer := if d.level = some level then none else some s.sw2.debounce }
     ∃ t, exec (.inputLevelChange i level) s = .next t ∧
       t = { s with inputs := t.inputs, lanes := t.lanes, control := t.control, supply := t.supply } ∧
       t.inputs.level i = level ∧ (∀ k, k ≠ i → t.inputs.level k = s.inputs.level k) ∧
       t.inputs.resetLine = s.inputs.resetLine ∧
       match i with
       | .aux l =>
         t.control = s.control ∧ t.supply = s.supply ∧ (¬ s.watches l → t.lanes = s.lanes) ∧
         (s.watches l → t.lanes = s.lanes.set l { s.lane l with aux := timerOf (s.lane l).aux })
       | .sense l =>
         t.control = s.control ∧ t.supply = s.supply ∧ (¬ s.watches l → t.lanes = s.lanes) ∧
         (s.watches l → t.lanes = s.lanes.set l { s.lane l with sense := timerOf (s.lane l).sense })
       | .contact =>
         t.lanes = s.lanes ∧ t.supply = s.supply ∧ (s.station.serving = false → t.control = s.control) ∧
         (s.station.serving = true →
           t.control =
             { s.control with
               contactTimer := if s.control.contactFound = true ∧ s.control.contact = level then none
                 else some s.sw2.debounce })
       | .strap _ => t.lanes = s.lanes ∧ t.control = s.control ∧ t.supply = s.supply
       | .gateSupply => t.lanes = s.lanes ∧ t.control = s.control ∧
         (level = false → t.supply = { s.supply with failing := none }) ∧
         (level = true → s.station ≠ .holdover →
           t.supply = { s.supply with failing := some 1, returning := none }) ∧
         (level = true → s.station = .holdover →
           t.supply = { s.supply with
             failing := none, returning := none, loss := s.supply.loss || s.inputs.backupLow })
       | .gateReturn => t.lanes = s.lanes ∧ t.control = s.control ∧
         t.supply = { s.supply with
           returning := if level = true ∧ (s.station = .setup ∨ s.station = .holdover) then some 8 else none }
       | .backupSupply => t.lanes = s.lanes ∧ t.control = s.control ∧
         t.supply = { s.supply with loss := s.supply.loss || (s.inputs.gateLow && level) }) ∧
  (∀ (l : Lane) (s : State), s.served →
     (s.watches l → (s.lane l).aux.level = none → (s.lane l).aux.timer.isSome = true →
       let found : LaneUnit := { s.lane l with aux := { level := some (s.inputs.aux.get l), timer := none } }
       (¬ ((s.lane l).kind = .door ∧ s.inputs.aux.get l = true) ∨ (s.lane l).state = .fault →
         exec (.firstLevelFound (.aux l)) s = .next { s with lanes := s.lanes.set l found }) ∧
       ((s.lane l).kind = .door → s.inputs.aux.get l = true → (s.lane l).state ≠ .fault →
         exec (.firstLevelFound (.aux l)) s = .next { s with lanes := s.lanes.set l (doorOpened s l found) })) ∧
     (s.watches l → (s.lane l).sense.level = none → (s.lane l).sense.timer.isSome = true →
       exec (.firstLevelFound (.sense l)) s = .next { s with
         lanes := s.lanes.set l { s.lane l with sense := { level := some (s.inputs.sense.get l), timer := none } } }) ∧
     (s.control.contactFound = false → s.control.contactTimer.isSome = true →
       exec (.firstLevelFound .contact) s = .next { s with
         control := { s.control with contact := s.inputs.contact, contactFound := true, contactTimer := none } }))

/-- A passage on a lane whose release runs closes it PASSED: the punch is handed on, a TURNSTILE goes to IDLE, or HELD
when held, with its strike LOCKED, and a DOOR to OPEN with its strike RELEASED and its held-open timer started. In the
pay record's pairing, that the flags of a pay day other than the current one go to the previous slot is the model's
choice (assumption 23). -/
def Obligations.PassageReleased : Prop :=
  ∀ (l : Lane) (p : PendingRelease) (s : State), s.watches l → s.calm → s.inputs.aux.get l = true →
    EdgeReady (s.lane l).aux true → s.station = .live ∨ s.station = .held → (s.lane l).state = .released →
    (s.lane l).release = some p → TablesSized s →
    ∃ t, exec (.debounceExpiry (.aux l)) s = .next t ∧
      t = { s with badges := t.badges, lanes := t.lanes, pay := t.pay, line := t.line, journal := t.journal,
                   watch := t.watch, port := t.port } ∧
      t.line = { s.line with nextTag := t.line.nextTag } ∧
      PunchClosed s t l p.badge (s.sw1 l).direction .passed p.flagged ∧
      let edge : LaneUnit :=
        { s.lane l with aux := { level := some true, timer := none }, release := none, releaseTimer := none }
      ((s.lane l).kind = .turnstile → heldLane s l →
        t.lanes = s.lanes.set l (drivenLane { edge with state := .held } false)) ∧
      ((s.lane l).kind = .turnstile → ¬ heldLane s l →
        t.lanes = s.lanes.set l (drivenLane { edge with state := .idle } false)) ∧
      ((s.lane l).kind = .door →
        t.lanes = s.lanes.set l (drivenLane
          { edge with
            state := .opened
            openDrive := true
            heldOpen := some (16 * (s.sw2.limits.get l).heldOpen) } true))

/-- A passage where no release runs: in IDLE or HELD it is forced, counted and recorded, a DOOR going to OPEN with its
strike LOCKED; in FAULT it raises the open-passage count alone. A passage in EVACUATE: with an evacuation read it
closes an EVAC punch of direction OUT and the record empties; without one it raises the evacuation passage count
alone. In the pay record's pairing, that the flags of a pay day other than the current one go to the previous slot is
the model's choice (assumption 23). -/
def Obligations.PassagesUnreleased : Prop :=
  (∀ (l : Lane) (s : State), s.watches l → s.calm → s.inputs.aux.get l = true → EdgeReady (s.lane l).aux true →
     s.station ≠ .evacuate →
     let edge : LaneUnit := { s.lane l with aux := { level := some true, timer := none } }
     let incident : Incident :=
       { kind := .forced, time := s.clock.time, lane := some l, badge := none, rule := none, peer := none, detail := none }
     ((s.lane l).state = .idle ∨ (s.lane l).state = .held →
       ∃ t, exec (.debounceExpiry (.aux l)) s = .next t ∧ t = { s with lanes := t.lanes, watch := t.watch } ∧
         Traced s t [eventOf s .forced l none none] (s.watch.queue incident) ∧
         let counted : LaneUnit := { edge with forced := min 65535 ((s.lane l).forced + 1) }
         ((s.lane l).kind = .turnstile → t.lanes = s.lanes.set l counted) ∧
         ((s.lane l).kind = .door → t.lanes = s.lanes.set l (doorOpened s l counted))) ∧
     ((s.lane l).state = .fault →
       exec (.debounceExpiry (.aux l)) s = .next { s with
         lanes := s.lanes.set l { edge with openPassages := min 65535 ((s.lane l).openPassages + 1) } })) ∧
  (∀ (l : Lane) (s : State), s.watches l → s.calm → s.inputs.aux.get l = true → EdgeReady (s.lane l).aux true →
     s.station = .evacuate → TablesSized s →
     let state : LaneState := if (s.lane l).kind = .door then .opened else (s.lane l).state
     let edge : LaneUnit := { s.lane l with aux := { level := some true, timer := none }, state := state }
     ((s.lane l).evacRead = none →
       exec (.debounceExpiry (.aux l)) s = .next { s with
         lanes := s.lanes.set l { edge with evacPassages := min 65535 ((s.lane l).evacPassages + 1) } }) ∧
     (∀ r, (s.lane l).evacRead = some r →
       ∃ t, exec (.debounceExpiry (.aux l)) s = .next t ∧
         t = { s with badges := t.badges, lanes := t.lanes, pay := t.pay, line := t.line, journal := t.journal,
                      watch := t.watch, port := t.port } ∧
         t.lanes = s.lanes.set l { edge with evacRead := none } ∧
         t.line = { s.line with nextTag := t.line.nextTag } ∧ PunchClosed s t l r.badge .dirOut .evac false))

/-- A door closing clears the lane's DOOR_HELD record, and is neither a lane event nor traced. On a lane in OPEN it
stops the held-open timer: in EVACUATE the lane goes to IDLE; elsewhere a waiting release starts its timer in
RELEASED, and otherwise the lane goes to IDLE, or to HELD when held, with its strike LOCKED. A lane that the record
alone held in FAULT leaves it; any other lane stands. The auxiliary input of a TURNSTILE that returns to its resting
level takes its debounced level and changes nothing else. -/
def Obligations.DoorClosing : Prop :=
  (∀ (l : Lane) (s : State), s.watches l → s.watch.handed = [] → s.inputs.aux.get l = false →
     EdgeReady (s.lane l).aux false →
     (s.lane l).kind = .door →
     let records : PerLane LaneFaults := s.faults.lanes.set l
       { s.faults.lanes.get l with doorHeld := { state := .normal, count := 0, causes := [], action := none } }
     let cleared : State :=
       { s with
         lanes := s.lanes.set l { s.lane l with aux := { level := some false, timer := none } }
         faults := { s.faults with lanes := records } }
     ∃ t, exec (.debounceExpiry (.aux l)) s = .next t ∧
       t = { cleared with lanes := t.lanes } ∧
       ((s.lane l).state ≠ .opened → FaultLeft cleared t l) ∧
       ((s.lane l).state = .opened →
         let closed (x : LaneState) : LaneUnit := { cleared.lane l with state := x, heldOpen := none }
         (s.station = .evacuate → t.lanes = s.lanes.set l (closed .idle)) ∧
         (s.station ≠ .evacuate → (s.lane l).release.isSome = true →
           t.lanes = s.lanes.set l (drivenLane
             { closed .released with releaseTimer := some (16 * (s.sw2.limits.get l).release) }
             (decide (s.station ≠ .join)))) ∧
         (s.station ≠ .evacuate → (s.lane l).release = none →
           (heldLane s l → t.lanes = s.lanes.set l (drivenLane (closed .held) false)) ∧
           (¬ heldLane s l → t.lanes = s.lanes.set l (drivenLane (closed .idle) false))))) ∧
  (∀ (l : Lane) (s : State), s.watches l → s.watch.handed = [] → s.inputs.aux.get l = false →
     EdgeReady (s.lane l).aux false → (s.lane l).kind = .turnstile →
     exec (.debounceExpiry (.aux l)) s = .next { s with
       lanes := s.lanes.set l { s.lane l with aux := { level := some false, timer := none } } })

/-- An edge of the sense input that brings it into agreement with the drive passes a waiting sense check and clears
the lane's STRIKE record, and a lane that the record alone held in FAULT leaves it; an edge that does not takes no
check. A check still waiting after its second clears the record, or counts one STRIKE detection with its action, by
the same agreement. That a check which ends with no sense level found counts the detection is the model's choice
(assumption 19). The model's choice, where an alarm cuts a ring: the record that a cut changes being the newest RUNG
record of its entry (assumption 30). -/
def Obligations.SenseCheck : Prop :=
  ∀ (l : Lane) (s : State), s.watches l → s.calm →
    let raw := s.inputs.sense.get l
    let strikeCleared : PerLane LaneFaults := s.faults.lanes.set l
      { s.faults.lanes.get l with strike := { state := .normal, count := 0, causes := [], action := none } }
    (EdgeReady (s.lane l).sense raw → raw = (s.lane l).drive →
      ∃ t, exec (.debounceExpiry (.sense l)) s = .next t ∧ FaultLeft { s with
        lanes := s.lanes.set l { s.lane l with sense := { level := some raw, timer := none }, senseCheck := none }
        faults := { s.faults with lanes := strikeCleared } } t l) ∧
    (EdgeReady (s.lane l).sense raw → raw ≠ (s.lane l).drive →
      exec (.debounceExpiry (.sense l)) s = .next { s with
        lanes := s.lanes.set l { s.lane l with sense := { level := some raw, timer := none } } }) ∧
    ((s.lane l).senseCheck.isSome = true → (s.lane l).sense.level = some (s.lane l).drive →
      ∃ t, exec (.senseCheckExpiry l) s = .next t ∧ FaultLeft { s with
        lanes := s.lanes.set l { s.lane l with senseCheck := none }
        faults := { s.faults with lanes := strikeCleared } } t l) ∧
    ((s.lane l).senseCheck.isSome = true → (s.lane l).sense.level ≠ some (s.lane l).drive →
      ∃ t, exec (.senseCheckExpiry l) s = .next t ∧
        LaneDetected { s with lanes := s.lanes.set l { s.lane l with senseCheck := none } } t l .strike)

/-- RELEASE_TIMER_EXPIRY closes the release UNUSED: the lane goes to IDLE, or to HELD when held, its strike LOCKED;
presence, pay and the journal are not touched. The UNUSED event is traced, and marks the newest entry of its admission
that is still held; every other position of the trace stands. HELD_OPEN_EXPIRY of a lane in OPEN counts one DOOR_HELD
detection with its action, hands the DOOR_HELD event, and starts the timer again while the lane stays in OPEN, any
waiting release waiting. These are the model's choices: that the timer starts again only while the lane stays in OPEN,
not when the detection itself puts it in FAULT, and that the event is taken after that (assumption 20), and, where an
alarm cuts a ring, the record that a cut changes being the newest RUNG record of its entry (assumption 30).
EVAC_READ_EXPIRY empties the lane's evacuation read and changes nothing else. -/
def Obligations.LaneTimers : Prop :=
  (∀ (l : Lane) (p : PendingRelease) (s : State), s.watches l → s.calm → (s.lane l).state = .released →
     (s.lane l).releaseTimer.isSome = true → (s.lane l).release = some p → s.station ≠ .evacuate →
     ∃ t, exec (.releaseTimerExpiry l) s = .next t ∧ t = { s with lanes := t.lanes, watch := t.watch } ∧
       let closed (x : LaneState) : LaneUnit := { s.lane l with state := x, release := none, releaseTimer := none }
       (heldLane s l → t.lanes = s.lanes.set l (drivenLane (closed .held) false)) ∧
       (¬ heldLane s l → t.lanes = s.lanes.set l (drivenLane (closed .idle) false)) ∧
       Traced s t [eventOf s .unused l (some p.badge) none (some p.readTime)] s.watch) ∧
  (∀ (l : Lane) (s : State), s.watches l → s.calm → (s.lane l).state = .opened → (s.lane l).heldOpen.isSome = true →
     ∃ t u, exec (.heldOpenExpiry l) s = .next t ∧ LaneDetected s u l .doorHeld [eventOf s .doorHeld l none none] ∧
       t = { u with lanes := u.lanes.set l { u.lane l with
         heldOpen := if (u.lane l).state = .opened then some (16 * (s.sw2.limits.get l).heldOpen)
           else (u.lane l).heldOpen } }) ∧
  (∀ (l : Lane) (s : State), s.inReset = false →
     exec (.evacReadExpiry l) s = .next { s with lanes := s.lanes.set l { s.lane l with evacRead := none } })

/-! ## Plant time, the bell and the timers -/

/-- CLOCK_SECOND counts the rest of the running second, a whole second when it starts at its first sixteenth: a tick
for each sixteenth, one more or one less with the last by the sign of the remainder, which it brings a step nearer 0,
and every stored offset follows that slew tick. The real-time timers and the supply delays run down with it. Plant
time stops at the end of the range, where no slew tick is taken and only real time runs. These are the model's
choices: that the command counts the rest of the running second, and that counting reaches what lies after the time
before it (assumption 5), that a positive slew tick is not taken when the next tick reaches the end of the range
(assumption 25), that every timer and the sounding phase run down at once and stay at 0, their ends not taken inside
the second (assumption 49), and that the supply delays are counted in sixteenths (assumption 24). -/
def Obligations.ClockSecond : Prop :=
  ∀ s : State, s.inReset = false → s.clock.sixteenth ≤ 15 →
    let n := 16 - s.clock.sixteenth
    let last := if s.clock.endMark = true ∨ 4294967295 ≤ s.clock.time then s.clock.time
      else min 4294967295 (s.clock.time + (n - 1))
    let counts : Prop := s.clock.endMark = false ∧ last < 4294967295
    let slew : Int := if ¬ counts then 0
      else if 0 < s.clock.remainder then (if last + 1 < 4294967295 then 1 else 0)
      else if s.clock.remainder < 0 then -1 else 0
    let timers (u : LaneUnit) : LaneUnit :=
      { u with
        releaseTimer := u.releaseTimer.map (· - n)
        heldOpen := u.heldOpen.map (· - n)
        aux := { u.aux with timer := u.aux.timer.map (· - n) }
        sense := { u.sense with timer := u.sense.timer.map (· - n) }
        senseCheck := u.senseCheck.map (· - n)
        evacRead := u.evacRead.map fun r => { r with left := r.left - n } }
    exec .clockSecond s = .next
      { s with
        clock :=
          { s.clock with
            time := if counts then ((last + 1 : Nat) + slew).toNat else last
            remainder := s.clock.remainder - slew
            sixteenth := 0
            realTime := s.clock.realTime + n
            countedFrom := s.clock.time }
        peers :=
          { s.peers with
            entries := s.peers.entries.map fun e =>
              { e with
                silence := e.silence.map (· - n)
                offset := e.offset.map fun o => { o with ticks := o.ticks - slew } } }
        lanes := s.lanes.map timers
        line :=
          { s.line with
            clashTimer := s.line.clashTimer.map (· - n)
            beaconTimer := s.line.beaconTimer.map (· - n) }
        control :=
          { s.control with
            contactTimer := s.control.contactTimer.map (· - n)
            joinTimer := s.control.joinTimer.map (· - n) }
        supply :=
          { s.supply with
            failing := s.supply.failing.map (· - n)
            returning := s.supply.returning.map (· - n) }
        bell := { s.bell with arbiter := s.bell.arbiter.map fun x => { x with left := x.left - n } }
        watch :=
          if s.station.serving then
            { s.watch with
              rules := s.watch.rules.map fun r =>
                { r with first := r.first.map fun f => { f with left := f.left - n } } }
          else s.watch }

/-- The CLOCK detections: reaching the end of the range sets END and hands one of cause END, each second there hands
one more, a stopped oscillator sets DEGRADED and hands one of cause OSC, and each DEGRADED second hands one more.
These are the model's choices: that an event whose condition does not hold has no effect (assumption 14), that the
second is handed in HOLDOVER too while END holds and an oscillator stop has no effect there (assumption 26), and that
the moment DEGRADED is set is kept, so that only whole seconds of it count (assumption 41). The model's choice, where
an alarm cuts a ring: the record that a cut changes being the newest RUNG record of its entry (assumption 30). -/
def Obligations.ClockFaults : Prop :=
  ∀ s : State, s.inReset = false →
    let detected (t : State) (cause : FaultCause) : Prop :=
      StationDetected s t s.faults.clock t.faults.clock s.sw5.clock .clock .clock cause ∧
      t.faults = { s.faults with clock := t.faults.clock } ∧
      t = { s with lanes := t.lanes, clock := t.clock, bell := t.bell, watch := t.watch, faults := t.faults,
                   control := t.control }
    (s.clock.time = 4294967295 → s.clock.endMark = false →
      ∃ t, exec .clockEndReached s = .next t ∧ detected t .endOfTime ∧
        t.clock = { s.clock with endMark := true, endFrom := s.clock.realTime }) ∧
    (s.clock.time ≠ 4294967295 ∨ s.clock.endMark = true → exec .clockEndReached s = .next s) ∧
    (s.clock.endMark = true →
      ∃ t, exec .endHoldSecond s = .next t ∧ detected t .endOfTime ∧ t.clock = s.clock) ∧
    (s.clock.endMark = false → exec .endHoldSecond s = .next s) ∧
    (s.clock.degraded = false → s.station ≠ .holdover →
      ∃ t, exec .oscillatorStop s = .next t ∧ detected t .osc ∧
        t.clock = { s.clock with degraded := true, oscFrom := s.clock.realTime }) ∧
    (s.clock.degraded = true ∨ s.station = .holdover → exec .oscillatorStop s = .next s) ∧
    (s.clock.degraded = true → s.station ≠ .holdover →
      ∃ t, exec .degradedSecond s = .next t ∧ detected t .osc ∧ t.clock = s.clock) ∧
    (s.clock.degraded = false ∨ s.station = .holdover → exec .degradedSecond s = .next s)

/-- RING_INSTANT of an entry due for bell day `d` whose instant counting reached: in SETUP nothing; in JOIN, LIVE and
HELD the entry is marked, and sounds on a free output or is counted SUPPRESSED, with a cue placed in LIVE and HELD; in
EVACUATE it is marked and counted SUPPRESSED, and in HOLDOVER marked and counted MISSED. An entry not due is left
alone. These are the model's choices: that counting reached what lies after the time before it (assumption 5), and
that the record carries plant time after the whole of that counting (assumption 44). -/
def Obligations.RingInstant : Prop :=
  ∀ (e : Fin 48) (d : Nat) (s : State), s.inReset = false → TablesSized s →
    let x := s.bellEntry e
    let instant := d * 1382400 + (x.minute * 60 + x.second) * 16
    let before := s.clock.countedFrom + s.sw4.bellAdvance
    let now := s.clock.time + s.sw4.bellAdvance
    before < instant → instant ≤ now → now < before + 1382400 →
    let isDue : Prop := x.mask.getLsbD ((d + s.sw0.weekday) % 7) = true ∧ ∀ m, x.mark = some m → m < d
    let record (outcome : BellOutcome) : BellRecord :=
      { entry := e, role := x.role, day := d, time := s.clock.time, origin := .clock, outcome }
    let traced (t : State) (outcome : BellOutcome) : Prop :=
      t.bell.trace = (if s.bell.trace.length < 8 then s.bell.trace else s.bell.trace.drop 1) ++ [record outcome]
    (¬ isDue → exec (.ringInstant e) s = .next s) ∧
    (isDue → ∃ t, exec (.ringInstant e) s = .next t ∧ t = { s with bell := t.bell, line := t.line } ∧
      t.bell.cut = s.bell.cut ∧ t.bell.earlyCue = s.bell.earlyCue ∧ t.bell.patterns = s.bell.patterns ∧
      (s.station = .setup → t = s) ∧
      (s.station ≠ .setup → t.bellEntry e = { x with mark := some d } ∧ ∀ k, k ≠ e → t.bellEntry k = s.bellEntry k) ∧
      (s.station = .join ∨ s.station = .live ∨ s.station = .held → t.bell.missed = s.bell.missed ∧
        (s.bell.arbiter = none → t.bell.arbiter = some (claimOf s .scheduled x.pattern (some e)) ∧
          t.bell.suppressed = s.bell.suppressed ∧ traced t .rung) ∧
        (s.bell.arbiter ≠ none → t.bell.arbiter = s.bell.arbiter ∧
          t.bell.suppressed = min 65535 (s.bell.suppressed + 1) ∧ traced t .suppressed)) ∧
      (s.station = .live ∨ s.station = .held →
        t.line =
          { s.line with
            cues := (if s.line.cues.length < 4 then s.line.cues else s.line.cues.drop 1) ++
              [{ tag := s.line.nextTag, entry := e, day := d }]
            nextTag := s.line.nextTag + 1 }) ∧
      (s.station ≠ .live → s.station ≠ .held → t.line = s.line) ∧
      (s.station = .evacuate → t.bell.arbiter = s.bell.arbiter ∧ t.bell.missed = s.bell.missed ∧
        t.bell.suppressed = min 65535 (s.bell.suppressed + 1) ∧ traced t .suppressed) ∧
      (s.station = .holdover → t.bell.arbiter = s.bell.arbiter ∧ t.bell.missed = min 65535 (s.bell.missed + 1) ∧
        t.bell.suppressed = s.bell.suppressed ∧ t.bell.trace = s.bell.trace))

/-- PATTERN_PHASE_END and PATTERN_COMPLETE: an on phase shorter than the period turns the output off for the rest of
it; the end of a period begins the next repeat with the output on; the end of the last repeat's period is
PATTERN_COMPLETE, which alone returns the arbiter to IDLE. A SCHEDULED pattern sounds its repeats, at least one; an
ALARM pattern its repeats, or without end for 0; an EVACUATION pattern without end. These are the model's choices:
that the event which does not fit the phase has no effect (assumption 14), and that the repeat in progress of a
pattern without end has no top (assumption 45). -/
def Obligations.PatternPhases : Prop :=
  ∀ (x : Sounding) (s : State), s.inReset = false → s.bell.arbiter = some x →
    let p := s.pattern x.pattern
    let periodEnds : Prop := x.on = false ∨ p.period ≤ p.on
    let last : Prop := (x.rank = .scheduled ∧ max 1 p.repeats ≤ x.repeatNo) ∨
      (x.rank = .alarm ∧ p.repeats ≠ 0 ∧ p.repeats ≤ x.repeatNo)
    let sounding (y : Sounding) : State := { s with bell := { s.bell with arbiter := some y } }
    (¬ periodEnds →
      exec .patternPhaseEnd s = .next (sounding { x with on := false, left := p.period - p.on }) ∧
      exec .patternComplete s = .next s) ∧
    (periodEnds → ¬ last →
      exec .patternPhaseEnd s =
        .next (sounding { x with on := true, left := p.on, repeatNo := x.repeatNo + 1 }) ∧
      exec .patternComplete s = .next s) ∧
    (periodEnds → last →
      exec .patternPhaseEnd s = .next s ∧
      exec .patternComplete s = .next { s with bell := { s.bell with arbiter := none } })

/-- DAY_ROLL with one roll due: every record closes its open parts of an earlier pay day into its previous slot,
judges that slot for EARLY_LEAVE, adds it into the period, and moves the current slot to previous; the pay day number
rises by 1, and PAY_FLAG is set when flags were added into a period. With several due, each is taken whole on what the
one before it left, until the pay day number is that of plant time. With none due, and before READY, nothing changes.
A figure of the period that reaches its top sets SATURATED. -/
def Obligations.DayRoll : Prop :=
  ∀ s : State, s.inReset = false →
    let day := payDay s.dayRollMinute s.clock.time
    let c := s.pay.today
    (s.station = .setup ∨ day ≤ c → exec .dayRoll s = .next s) ∧
    (s.station ≠ .setup → day = c + 1 →
      exec .dayRoll s = .next { s with
        pay := { s.pay with records := s.pay.records.map fun x => (x.1, rolledRecord s x.2), today := c + 1 }
        port := { s.port with payFlag := rolledPayFlag s } }) ∧
    (s.station ≠ .setup → exec .dayRoll s = .next (rolledOnce^[day - c] s))

/-- PEER_SILENCE takes a HEARD peer to LOST, opens doubt and records PEER_LOST; CLASH_TIMER_EXPIRY stops the clash
timer and clears the CLASH cause; WINDOW_EXPIRY clears a rule's first record, which is no occurrence; DOUBT_END leaves
doubt inactive when plant time has reached the deadline and the station is not isolated. That DOUBT_END changes
nothing, doubt being computed, is the model's choice (assumption 27). -/
def Obligations.TimerEnds : Prop :=
  ∀ s : State, s.inReset = false →
    (∀ p : Station, s.station.serving = true → TablesSized s → (s.peer p).state = .heard →
      (s.peer p).silence.isSome = true →
      ∃ t, exec (.peerSilence p) s = .next t ∧ t = { s with peers := t.peers, watch := t.watch } ∧
        t.peer p = { s.peer p with state := .lost, silence := none } ∧ (∀ q, q ≠ p → t.peer q = s.peer q) ∧
        t.peers.deadline = doubtDeadline s ∧ t.peers.isolated = s.peers.isolated ∧
        t.watch = (doubtQueue s s.watch .peerLost (some p)).queue
          { kind := .peerLost, time := s.clock.time, lane := none, badge := none, rule := none, peer := some p,
            detail := none }) ∧
    (s.line.clashTimer.isSome = true → s.station ≠ .setup →
      exec .clashTimerExpiry s = .next { s with
        line := { s.line with clashTimer := none }
        faults := { s.faults with line := causeCleared s.faults.line .clash } }) ∧
    (∀ n : RuleNo, s.station.serving = true →
      exec (.windowExpiry n) s = .next { s with watch := { s.watch with
        rules := s.watch.rules.set n { s.watch.rules.get n with first := none } } }) ∧
    (∃ t, exec .doubtEnd s = .next t ∧ t = s ∧
      (s.peers.deadline ≤ s.clock.time → s.peers.isolated = false → t.doubtActive = false))

/-- BEACON_TIME places a beacon in the slot, starts the interval timer again, and takes an agreement in which a step
needs two contributors. The list of the own clock and the contributors is put in ascending order and its median is the
middle element, or the mean of the two middle elements truncated toward zero. A step brings the END mark, its day
rolls and its bells, with CLOCK_STEP behind them. Their order (assumption 34), END set by a step that lands exactly on
the end (assumption 25), a remainder replaced while END is set (assumption 38), counting going on from the new time
(assumption 5), and, where an alarm cuts a ring, the record that a cut changes being the newest RUNG record of its
entry (assumption 30), are the model's choices. -/
def Obligations.BeaconTime : Prop :=
  (∀ s : State, s.sends → TablesSized s → ScheduleInRange s → s.line.beaconTimer.isSome = true →
    let placed : State := { s with line := { s.line with
      beacon := some s.line.nextTag, nextTag := s.line.nextTag + 1, beaconTimer := some (16 * s.sw3.beaconInterval) } }
    ∃ t, exec .beaconTime s = .next t ∧ Agreed placed t 2) ∧
  (∀ xs : List Int, (sortInts xs).Perm xs ∧ (sortInts xs).Pairwise (· ≤ ·)) ∧
  (∀ (xs ys : List Int) (a : Int), xs.length = ys.length → medianOf (xs ++ a :: ys) = a) ∧
  (∀ (xs ys : List Int) (a b : Int), xs.length = ys.length → medianOf (xs ++ a :: b :: ys) = (a + b).tdiv 2)

/-- END_OF_JOIN: the agreement first, in which one contributor lets the clock step, with the rolls, the cues and the
bells that it brings; then EVACUATE for an asserted contact or a pending evacuation, with the CLEAR that R169 gives,
an unsent ALL CLEAR being removed, and otherwise HELD or LIVE by the station reasons, each fitted lane held or in
FAULT as its reasons and faults have it and every strike driven; then the beacon, its timer, and doubt opened with
LIVE_ENTRY. Nothing else changes. The agreement is that of BEACON_TIME, with the same choices of the model
(assumptions 5, 25, 34, 38). Where EVACUATE is entered, the UNUSED events in ascending order of the lanes (assumption
31), and where a ring is cut, the record that a cut changes being the newest RUNG record of its entry (assumption 30),
are the model's choices too. -/
def Obligations.EndOfJoin : Prop :=
  ∀ s : State, s.inReset = false → TablesSized s → ScheduleInRange s → s.calm → s.station = .join →
    s.control.joinTimer.isSome = true →
    ∃ t u, exec .endOfJoin s = .next t ∧ Agreed s u 1 ∧
      let ready : State := { u with control := { u.control with pendingEvac := none, joinTimer := none } }
      let doubt (w : WatchUnit) : WatchUnit := doubtQueue u w .liveEntry none
      let tag : Nat := u.line.nextTag
      let line (evac : Option EvacSlot) (beacon : Nat) : LinePort :=
        { u.line with
          evac := evac
          beacon := some beacon
          nextTag := beacon + 1
          beaconTimer := some (16 * s.sw3.beaconInterval) }
      let cleared (reason : ClearReason) : Prop := t.line = line (some { tag, frame := .clear reason }) (tag + 1)
      t = { u with lanes := t.lanes, bell := t.bell, line := t.line, peers := t.peers, watch := t.watch,
                   control := t.control } ∧
      t.peers = { u.peers with deadline := doubtDeadline u } ∧
      (u.control.contact = true → EvacuationBegun ready t .input doubt ∧ cleared .input) ∧
      (∀ p, u.control.contact = false → u.control.pendingEvac = some p →
        EvacuationBegun ready t p.reason doubt ∧
        (p.clearMark = true → cleared (match p.reason with
          | .input => .input | .watch => .watch | .terminal => .terminal | .frame _ r => r)) ∧
        (p.clearMark = false → t.line = line (u.line.evac.filter fun e => !unsentAllClear u e) tag)) ∧
      (u.control.contact = false → u.control.pendingEvac = none →
        t.control = { ready.control with station := if u.control.stationReasons = [] then .live else .held } ∧
        t.bell = u.bell ∧ t.line = line u.line.evac tag ∧ t.watch.incidents = (doubt u.watch).incidents ∧
        ((∀ l, (u.lane l).release = none) → Traced u t [] (doubt u.watch)) ∧
        ∀ l, let x := u.lane l
          let held : Prop := u.control.laneReasons.get l ≠ [] ∨ u.control.stationReasons ≠ []
          (x.kind = .off → t.lane l = { x with drive := liveDrive x }) ∧
          (x.kind ≠ .off → openFault u l → x.state = .fault → t.lane l = drivenLane x true) ∧
          (x.kind ≠ .off → openFault u l → x.state ≠ .fault →
            t.lane l = drivenLane
              { x with
                state := .fault
                release := none
                releaseTimer := if x.release.isSome then none else x.releaseTimer
                heldOpen := none } true) ∧
          (x.kind ≠ .off → ¬ openFault u l → x.state = .idle → held →
            t.lane l = drivenLane { x with state := .held } false) ∧
          (x.kind ≠ .off → ¬ openFault u l → ¬ (x.state = .idle ∧ held) → t.lane l = drivenLane x (liveDrive x)))

/-- An armed rule takes an event: a disarmed rule matches none; a condition holds by kind, lane and badge test; BOTH
and EITHER give one occurrence; a sequence opens or replaces its first record on its first condition, and closes with
an occurrence on its second, each of them, under the same-badge mark, on an event with a badge alone and the second on
the same badge. An occurrence lowers a counter above 0, and trips the rule at 0: its action is taken, WATCH is
recorded, the trips are counted and the counter is set to N − 1. An evacuation asked for in JOIN waits with its CLEAR
mark set; in LIVE and HELD it places CLEAR (WATCH). The model's choices: the UNUSED events in ascending order of the
lanes (assumption 31), and the record that a cut changes being the newest RUNG record of its entry (assumption 30).
Events that wait are taken first in, first out: one is entered in the gate trace, a PEER_PUNCH apart, and is matched
against rules 0 to 3 in order in JOIN, LIVE, HELD and EVACUATE alone; then those behind it, and those that its actions
bring, are taken. With none waiting nothing changes. -/
def Obligations.RuleMatches : Prop :=
  (∀ (n : RuleNo) (e : LaneEvent) (s : State),
     let x := s.watch.rules.get n
     let withRule (y : Rule) : State := { s with watch := { s.watch with rules := s.watch.rules.set n y } }
     let holds (c : Condition) : Prop := e.kind ∈ c.kinds ∧ e.lane ∈ c.lanes ∧ badgePasses c e.badge
     let opened : FirstRecord := { time := e.time, badge := e.badge, left := 16 * x.window }
     (x.armed = false → s.matchRule n e = s) ∧
     (x.armed = true → x.combine = .both → (holds x.a ∧ holds x.b → s.matchRule n e = s.occurrence n e) ∧
       (¬ (holds x.a ∧ holds x.b) → s.matchRule n e = s)) ∧
     (x.armed = true → x.combine = .either → (holds x.a ∨ holds x.b → s.matchRule n e = s.occurrence n e) ∧
       (¬ (holds x.a ∨ holds x.b) → s.matchRule n e = s)) ∧
     (∀ opens closes : Condition, x.armed = true →
       (x.combine = .bAfterA ∧ opens = x.a ∧ closes = x.b) ∨ (x.combine = .aAfterB ∧ opens = x.b ∧ closes = x.a) →
       let usable : Prop := x.sameBadge = true → e.badge.isSome = true
       let ends : Prop := ∃ f, x.first = some f ∧ usable ∧ holds closes ∧ (x.sameBadge = true → e.badge = f.badge)
       (ends → s.matchRule n e = (withRule { x with first := none }).occurrence n e) ∧
       (¬ ends → usable → holds opens → s.matchRule n e = withRule { x with first := some opened }) ∧
       (¬ ends → ¬ (usable ∧ holds opens) → s.matchRule n e = s)) ∧
     (0 < x.counter → s.occurrence n e = withRule { x with counter := x.counter - 1 }) ∧
     (x.counter = 0 → ∃ u, ActionTaken s u n e x.action ∧
       s.occurrence n e = { u with watch := { u.watch.queue
         { kind := .watch, time := s.clock.time, lane := ownLane e.lane, badge := e.badge, rule := some n,
           peer := e.source,
           detail := some ((eventCode e.kind * 256 + (match e.reason with | some r => r.code | none => 0) : Nat) : Int) }
         with rules := s.watch.rules.set n { x with trips := min 255 (x.trips + 1), counter := x.count - 1 } } })) ∧
  (∀ s : State, TablesSized s →
     (s.watch.handed = [] → s.settleEvents = s) ∧
     (∀ (e : LaneEvent) (rest : List LaneEvent), s.watch.handed = e :: rest → rest.length ≤ 16 →
       ∃ u, u = { s with watch := u.watch } ∧ EventsTraced { s.watch with handed := rest } [e] u.watch ∧
         s.settleEvents = (if s.station.serving then matchedInOrder u e else u).settleEvents))

/-! ## The gate line -/

/-- A PUNCH frame from a peer, with no rule armed: the peer is heard, its sequence number is the expected one, ahead
of it by up to 127 (a gap, which opens doubt) or late; presence is taken with direction OUT for an EVAC punch, a stale
or strange punch counted against the source; a badge with no pay record here leaves pay alone; the PEER_PUNCH event
does nothing, and it is not traced. A PUNCH frame with rules armed: it does what it does with none armed, and then its
PEER_PUNCH event is matched against rules 0 to 3 in order, and the events that their actions bring are taken. -/
def Obligations.PunchFrameTaken : Prop :=
  (∀ (f : PunchFrame) (s : State), s.served → s.calm → TablesSized s → s.line.sending = none →
     f.source ≠ s.ownStation → 1 ≤ f.badge.toNat → f.badge.toNat ≤ 16777214 →
     let e := s.peer f.source
     let n := f.badge.toNat
     let dir : Direction := if f.outcome = .evac then .dirOut else f.direction
     let gap : Nat := match e.expected with
       | none => 0
       | some x => (f.seq - x).toNat
     let stale : Bool := match s.lookup n with
       | none => false
       | some b => decide (f.time.toNat < b.presence.time)
     ∃ t, exec (.punch f) s = .next t ∧
       t = { s with badges := t.badges, pay := t.pay, peers := t.peers, watch := t.watch, port := t.port } ∧
       t.peer f.source =
         { e with
           state := .heard
           lastFrame := some s.clock.time
           silence := some (16 * s.sw3.silenceLimit)
           expected := if gap ≤ 127 then some (f.seq + 1) else e.expected
           gap := if 1 ≤ gap ∧ gap ≤ 127 then min 255 (e.gap + gap) else e.gap
           late := if 128 ≤ gap then min 255 (e.late + 1) else e.late
           stale := if stale then min 255 (e.stale + 1) else e.stale
           stranger := if s.lookup n = none then min 255 (e.stranger + 1) else e.stranger } ∧
       (∀ q, q ≠ f.source → t.peer q = s.peer q) ∧ t.peers.isolated = s.peers.isolated ∧
       t.peers.deadline = (if 1 ≤ gap ∧ gap ≤ 127 then doubtDeadline s else s.peers.deadline) ∧
       t.watch = (if 1 ≤ gap ∧ gap ≤ 127 then doubtQueue s s.watch .punchGap (some f.source) else s.watch) ∧
       PresenceTaken s t n dir f.time.toNat f.source false ∧
       ((∀ b, s.lookup n = some b → b.paySlot = none) → t.pay = s.pay ∧ t.port = s.port)) ∧
  (∀ (f : PunchFrame) (s : State), s.served → s.watch.handed = [] → s.line.sending = none →
     f.source ≠ s.ownStation → 1 ≤ f.badge.toNat → f.badge.toNat ≤ 16777214 →
     let event : LaneEvent :=
       { kind := .peerPunch, time := s.clock.time, lane := .peer, badge := some f.badge.toNat, reason := none,
         readTime := none, source := some f.source, direction := some f.direction, outcome := some f.outcome }
     ∃ u, exec (.punch f) (disarmed s) = .next (disarmed u) ∧ u.watch.rules = s.watch.rules ∧
       exec (.punch f) s = .next (matchedInOrder u event).settleEvents)

/-- A PUNCH frame of a badge homed here, taken by its pay record: STALE and FUTURE set a flag alone; a punch of the
next pay day first rolls every record early, with PAY_FLAG, and is then paired; an IN becomes the open IN, closing an
earlier one MISSING_OUT or an earlier orphan MISSING_IN, and pairs with an orphan that is not earlier; an OUT closes
the open IN, is MISSING_IN before it, and with no open IN becomes the orphan. An own punch is taken by the same rules
(`PunchClosed`). That the flags of a pay day other than the current one go to the previous slot is the model's choice
(assumption 23). -/
def Obligations.PayPairing : Prop :=
  ∀ (f : PunchFrame) (b : BadgeEntry) (k : Nat) (r : PayRecord) (s : State), s.served → s.calm → s.line.sending = none →
    f.source ≠ s.ownStation → s.lookup f.badge.toNat = some b → 1 ≤ f.badge.toNat → f.badge.toNat ≤ 16777214 →
    b.paySlot = some k → s.pay.record k = some r →
    ∃ t, exec (.punch f) s = .next t ∧ PunchPaid s t k r b.cls
      { direction := if f.outcome = .evac then .dirOut else f.direction, time := f.time.toNat, era := f.era,
        source := f.source, flagged := false, evac := decide (f.outcome = .evac) }

/-- An OUT that closes the open IN of a plain class, with equal eras: the credited minutes run from the first whole
minute at or after the IN to the last at or before the OUT, held to what the day maximum of 1440 leaves, and all are
regular. That the credit of an open IN of a pay day other than the current one goes to the previous slot, where that
day is not the one before it either, is the model's choice (assumption 23). The credit of an interval of any class to
a slot, in the ten stages of R60 to R68: the effective in and out on the quantum grid with their graces, LATE and
EARLY, the break by a gap or automatic, the day maximum, the daily tiers and the weekly threshold, and the night
minutes in three copies of the band. -/
def Obligations.IntervalCredit : Prop :=
  (∀ (f : PunchFrame) (b : BadgeEntry) (k : Nat) (r : PayRecord) (i : OpenIn) (s : State), s.served → s.calm →
     s.line.sending = none → f.source ≠ s.ownStation → s.lookup f.badge.toNat = some b → 1 ≤ f.badge.toNat →
     f.badge.toNat ≤ 16777214 → b.paySlot = some k → s.pay.record k = some r → r.openIn = some i →
     f.direction = .dirOut → f.outcome = .passed → i.time ≤ f.time.toNat → i.era = f.era →
     payDay s.dayRollMinute f.time.toNat ≤ s.pay.today → s.pay.today ≤ payDay s.dayRollMinute f.time.toNat + 1 →
     s.pay.shiftClass i.cls =
       { hours := none, lead := 0, graceIn := 0, graceLate := 0, graceOut := 0, quantum := 1, breakAfter := 0,
         breakMinutes := 0, t1 := 1440, t2 := 1440, dayMax := 1440, weekly := 0, night := none } →
     let dawn : Int := i.day * 1382400 + s.dayRollMinute * 960
     let effIn : Int := -((dawn - i.time) / 960)
     let effOut : Int := ((f.time.toNat : Int) - dawn) / 960
     let length : Int := max 0 (effOut - effIn)
     let credited (d : DaySlot) : Int := max 0 (min length (1440 - ((d.regular + d.ot1 + d.ot2 : Nat) : Int)))
     let after (d : DaySlot) : DaySlot :=
       { d with
         regular := min 65535 (d.regular + (credited d).toNat)
         ot1 := min 65535 d.ot1
         ot2 := min 65535 d.ot2
         night := min 65535 d.night
         clamped := min 65535 (d.clamped + (length - credited d).toNat)
         intervals := min 255 (d.intervals + 1)
         breakMark := d.breakMark || d.lastOut.any fun x => decide (x.1 ≤ effIn)
         lastOut := some (effOut, i.cls) }
     ∃ t, exec (.punch f) s = .next t ∧ t.pay = { s.pay with records := t.pay.records } ∧ t.port = s.port ∧
       (∀ j, j ≠ k → t.pay.record j = s.pay.record j) ∧
       (i.day = s.pay.today → t.pay.record k = some { r with openIn := none, current := after r.current }) ∧
       (i.day ≠ s.pay.today → t.pay.record k = some { r with openIn := none, previous := after r.previous })) ∧
  (∀ (d : DaySlot) (c : ShiftClass) (cls : Fin 8) (roll week : Nat) (mIn mOut : Int) (extra : PayFlags),
     0 < c.quantum →
     let q : Int := c.quantum
     let start := c.start roll
     let hours : Prop := c.hours.isSome = true
     let first : Prop := d.intervals = 0
     let late : Prop := hours ∧ first ∧ 960 * (start + c.graceLate) < mIn
     let early : Prop := hours ∧ first ∧ mIn < 960 * (start - c.graceIn)
     let inTime : Prop := hours ∧ first ∧ ¬ late ∧ ¬ early
     let total : Int := (d.regular + d.ot1 + d.ot2 : Nat)
     let shared (a b x y : Int) : Int := max 0 (min b y - max a x)
     ∃ effIn effOut : Int,
       (inTime → effIn = start) ∧
       (¬ inTime → mIn ≤ 960 * effIn ∧ 960 * effIn < mIn + 960 * q ∧ (effIn - start) % q = 0) ∧
       (∀ stop, c.stop roll = some stop → 960 * stop ≤ mOut → mOut ≤ 960 * (stop + c.graceOut) → effOut = stop) ∧
       ((∀ stop, c.stop roll = some stop → ¬ (960 * stop ≤ mOut ∧ mOut ≤ 960 * (stop + c.graceOut))) →
         960 * effOut ≤ mOut ∧ mOut < 960 * effOut + 960 * q ∧ (effOut - start) % q = 0) ∧
       let marked : Prop := d.breakMark = true ∨ ∃ o, d.lastOut = some o ∧ c.breakMinutes ≤ effIn - o.1
       let length : Int := max 0 (effOut - effIn)
       let deducted : Prop := 0 < c.breakAfter ∧ ¬ marked ∧ c.breakAfter ≤ total + length
       let worked : Int := if deducted then max 0 (length - c.breakMinutes) else length
       let paid : Int := max 0 (min worked (c.dayMax - total))
       let tier1 : Int := max 0 (min paid (min (total + paid) c.t1 - total))
       let tier2 : Int := max 0 (min (total + paid) c.t2 - max total c.t1)
       let moved : Int :=
         if 0 < c.weekly ∧ (c.weekly : Int) < week + tier1 then min tier1 (week + tier1 - c.weekly) else 0
       let night : Int := match c.night with
         | none => 0
         | some (a, b) =>
           let x := shiftStart roll a
           let y := shiftEnd roll a b
           min paid (shared effIn effOut x y + shared effIn effOut (x - 1440) (y - 1440) +
             shared effIn effOut (x + 1440) (y + 1440))
       let t := d.credit c cls roll week mIn mOut extra
       t.day = d.day ∧ t.regular = min 65535 (d.regular + (tier1 - moved).toNat) ∧
       t.ot1 = min 65535 (d.ot1 + (tier2 + moved).toNat) ∧ t.ot2 = min 65535 (d.ot2 + (paid - tier1 - tier2).toNat) ∧
       t.night = min 65535 (d.night + night.toNat) ∧ t.clamped = min 65535 (d.clamped + (worked - paid).toNat) ∧
       t.intervals = min 255 (d.intervals + 1) ∧ (t.breakMark = true ↔ marked ∨ deducted) ∧
       t.lastOut = some (effOut, cls) ∧
       (late → t.flags = d.flags ||| 0x001 ||| extra) ∧ (early → t.flags = d.flags ||| 0x002 ||| extra) ∧
       (¬ late → ¬ early → t.flags = d.flags ||| extra))

/-- A BEACON frame: its fields are recorded, an era behind the own is counted, FRESH takes its next number and opens
doubt, a number ahead of the expected one is a gap and opens doubt; an equal era stores the offset of the beacon's
time with the latency, a peer behind in era or 128 apart keeps none, and an era ahead is adopted by a step to that
time, with the END mark, the day rolls and the bells that it brings, and ERA_CHANGE behind them. That END is set by a
step that lands exactly on the end (assumption 25), that END comes before the rolls and the bells (assumption 34),
that counting goes on from the new time (assumption 5), and, where an alarm cuts a ring, the record that a cut changes
being the newest RUNG record of its entry (assumption 30), are the model's choices. -/
def Obligations.BeaconFrameTaken : Prop :=
  ∀ (f : BeaconFrame) (s : State), s.served → TablesSized s → ScheduleInRange s → s.line.sending = none →
    f.source ≠ s.ownStation →
    let e := s.peer f.source
    let given : Nat := f.time.toNat + s.sw3.latency
    let ahead : Prop := 1 ≤ (f.era - s.clock.era).toNat ∧ (f.era - s.clock.era).toNat ≤ 127
    let gap : Nat := match e.expected with
      | none => 0
      | some x => if f.fresh then 0 else (f.next - x).toNat
    let jumped : Prop := 1 ≤ gap ∧ gap ≤ 127
    let doubted : WatchUnit :=
      if f.fresh = true then doubtQueue s s.watch .fresh (some f.source)
      else if jumped then doubtQueue s s.watch .beaconGap (some f.source) else s.watch
    let heard (offset : Option Offset) : PeerEntry :=
      { e with
        state := .heard
        lastFrame := some s.clock.time
        silence := some (16 * s.sw3.silenceLimit)
        era := some f.era
        reported := some f.state
        reportedIsolated := f.isolated
        offset := offset
        expected := if f.fresh = true ∨ jumped ∨ e.expected = none then some f.next else e.expected
        gap := if jumped then min 255 (e.gap + gap) else e.gap
        behindEra := if f.era = s.clock.era ∨ ahead then e.behindEra else min 255 (e.behindEra + 1) }
    ∃ t, exec (.beacon f) s = .next t ∧ t.peers.isolated = s.peers.isolated ∧
      t.peers.deadline = (if f.fresh = true ∨ jumped then doubtDeadline s else s.peers.deadline) ∧
      (¬ ahead → t = { s with peers := t.peers, watch := t.watch } ∧ t.watch = doubted ∧
        (∀ q, q ≠ f.source → t.peer q = s.peer q) ∧
        t.peer f.source = heard
          (if f.era = s.clock.era then
            some { ticks := (given : Int) - s.clock.time, takenAt := s.clock.realTime } else none)) ∧
      (ahead →
        let x := min 4294967295 given
        t.clock = { steppedClock s.clock x with era := f.era } ∧
        t.port = { s.port with payFlag := t.port.payFlag } ∧ t.supply = s.supply ∧
        t.line = { s.line with cues := t.line.cues, nextTag := t.line.nextTag } ∧
        (∀ q, q ≠ f.source → t.peer q = { s.peer q with offset := none }) ∧
        t.peer f.source = heard (some { ticks := (given : Int) - x, takenAt := s.clock.realTime }) ∧
        t.badges = s.badges ∧ t.inputs = s.inputs ∧ t.journal = s.journal ∧ t.inReset = s.inReset ∧
        t.pending = s.pending ∧
        Stepped { s with watch := doubted } t x
          { kind := .eraChange, time := x, lane := none, badge := none, rule := none, peer := some f.source,
            detail := some (max (-2147483648) (min 2147483647 ((x : Int) - s.clock.time))) })

/-- A BELL CUE frame: an entry number above 47, a day that is not the present bell day, or an entry not due changes
nothing but the peer's entry; a cue earlier than the cue window is counted EARLY; any other marks the entry and rings
it on a free output, and is counted SUPPRESSED on a busy one and in EVACUATE. In SETUP and HOLDOVER no cue is taken.
-/
def Obligations.CueFrameTaken : Prop :=
  (∀ (f : CueFrame) (s : State), s.station = .setup ∨ s.station = .holdover → exec (.bellCue f) s = .next s) ∧
  ∀ (f : CueFrame) (s : State), s.served → TablesSized s → s.line.sending = none → f.source ≠ s.ownStation →
    let now := s.clock.time + s.sw4.bellAdvance
    let d := f.day.toNat
    ∃ t, exec (.bellCue f) s = .next t ∧ Heard s t f.source ∧ t = { s with bell := t.bell, peers := t.peers } ∧
      (48 ≤ f.entry.toNat → t.bell = s.bell) ∧
      (∀ e : Fin 48, f.entry.toNat = e.val →
        let x := s.bellEntry e
        let instant := d * 1382400 + (x.minute * 60 + x.second) * 16
        let isDue : Prop := d = now / 1382400 ∧ x.mask.getLsbD ((d + s.sw0.weekday) % 7) = true ∧
          ∀ m, x.mark = some m → m < d
        let early : Prop := now + 16 * s.sw4.cueWindow < instant
        let record (outcome : BellOutcome) : BellRecord :=
          { entry := e, role := x.role, day := d, time := s.clock.time, origin := .cue f.source, outcome }
        let traced (outcome : BellOutcome) : Prop :=
          t.bell.trace = (if s.bell.trace.length < 8 then s.bell.trace else s.bell.trace.drop 1) ++ [record outcome]
        (¬ isDue → t.bell = s.bell) ∧
        (isDue → early → t.bell = { s.bell with earlyCue := min 65535 (s.bell.earlyCue + 1) }) ∧
        (isDue → ¬ early → t.bell.missed = s.bell.missed ∧ t.bell.cut = s.bell.cut ∧
          t.bell.earlyCue = s.bell.earlyCue ∧ t.bell.patterns = s.bell.patterns ∧
          t.bellEntry e = { x with mark := some d } ∧ (∀ k, k ≠ e → t.bellEntry k = s.bellEntry k) ∧
          (s.station ≠ .evacuate → s.bell.arbiter = none →
            t.bell.arbiter = some (claimOf s .scheduled x.pattern (some e)) ∧
            t.bell.suppressed = s.bell.suppressed ∧ traced .rung) ∧
          (s.station = .evacuate ∨ s.bell.arbiter ≠ none →
            t.bell.arbiter = s.bell.arbiter ∧ t.bell.suppressed = min 65535 (s.bell.suppressed + 1) ∧
            traced .suppressed)))

/-- LINE_ERROR and NUMBER_CLASH where the receiver listens: a run of characters that is no valid frame, with a stop
bit not at mark or no frame's bytes, counts one line error, and so does a PUNCH with no badge number; a valid frame of
the own number, of any kind, counts a clash, starts the clash timer and hands one LINE detection of cause CLASH. Where
the station sends or does not listen nothing is taken. These are the model's choices: that a frame of the own number
is a clash under any event name and a PUNCH with no badge number a line error (assumption 15), and that an event where
the receiver does not listen has no effect (assumption 14). That a frame of full length that fails its checks, with
more characters before the quiet gap, is one run and one line error is the model's choice too (assumption 47). The
model's choice, where an alarm cuts a ring: the record that a cut changes being the newest RUNG record of its entry
(assumption 30). -/
def Obligations.LineErrors : Prop :=
  ∀ s : State, s.inReset = false →
    let counted : State := { s with line := { s.line with errors := min 65535 (s.line.errors + 1) } }
    let bytes (chars : List LineChar) : List Byte := chars.map LineChar.data
    (s.station.serving = true → s.line.sending = none →
      (∀ chars, (∃ c ∈ chars, c.stop = false) ∨ readFrame (bytes chars) = none →
        exec (.lineError (.heard chars)) s = .next counted) ∧
      (∀ chars, chars ≠ [] → exec (.lineError (.trailing chars)) s = .next counted) ∧
      (∀ f : PunchFrame, f.badge.toNat = 0 ∨ f.badge.toNat = 16777215 → exec (.punch f) s = .next counted) ∧
      (∀ f : Frame, frameValid f = true → frameSource f = s.ownStation →
        ∃ t, exec (.numberClash f) s = .next t ∧
          (∀ p, f = .punch p → exec (.punch p) s = .next t) ∧ (∀ p, f = .beacon p → exec (.beacon p) s = .next t) ∧
          (∀ p, f = .bellCue p → exec (.bellCue p) s = .next t) ∧ (∀ p, f = .clear p → exec (.clear p) s = .next t) ∧
          (∀ p, f = .allClear p → exec (.allClearFrame p) s = .next t) ∧
          t = { s with lanes := t.lanes, bell := t.bell, line := t.line, watch := t.watch, faults := t.faults,
                       control := t.control } ∧
          t.line =
            { s.line with
              clashes := min 65535 (s.line.clashes + 1)
              clashTimer := some (16 * s.sw3.silenceLimit) } ∧
          t.faults = { s.faults with line := t.faults.line } ∧
          StationDetected s t s.faults.line t.faults.line s.sw5.line .line .line .clash)) ∧
    (s.station.serving = false ∨ s.line.sending.isSome = true →
      (∀ run, exec (.lineError run) s = .next s) ∧ (∀ f, exec (.numberClash f) s = .next s) ∧
      (∀ f, exec (.punch f) s = .next s) ∧ (∀ f, exec (.beacon f) s = .next s) ∧
      (∀ f, exec (.bellCue f) s = .next s) ∧ (∀ f, exec (.clear f) s = .next s) ∧
      ∀ p, exec (.allClearFrame p) s = .next s)

/-- DEFERRAL_START selects the evac slot before the oldest cue, the cue before the journal's head, and the head before
the beacon, and waits the slots that the station number and the attempt give; YIELD ends the deferral; DEFERRAL_END
begins to send the frame in hand as it then is, and nothing when it no longer stands in its place. That nothing is
sent then is the model's choice (assumption 16). -/
def Obligations.SendingStarts : Prop :=
  ∀ s : State, s.sends →
    let hand (kind : FrameKind) (tag : Nat) : InHand := { kind, tag }
    let selected (h : InHand) : Prop :=
      match s.line.evac, s.line.cues, s.journal.entries, s.line.beacon with
      | some e, _, _, _ => h = hand (match e.frame with | .clear _ => .clear | .allClear => .allClear) e.tag
      | none, c :: _, _, _ => h = hand .bellCue c.tag
      | none, [], j :: _, _ => h = hand .punch j.tag
      | none, [], [], some tag => h = hand .beacon tag
      | none, [], [], none => False
    let begun (h : InHand) (frame : Option Frame) : State :=
      { s with line := { s.line with deferral := none, sending := frame.map fun f => { hand := h, frame := f } } }
    (s.line.deferral = none → s.line.sending = none →
      (∀ h, selected h →
        let attempt := if s.line.inHand = some h then s.line.attempt else 0
        exec .deferralStart s = .next
          { s with line :=
            { s.line with
              inHand := some h
              attempt := attempt
              deferral := some ((s.ownStation.val + 5 * attempt) % 16 + 1) } }) ∧
      ((∀ h, ¬ selected h) → exec .deferralStart s = .next s)) ∧
    exec .yield s = .next { s with line := { s.line with deferral := none } } ∧
    (∀ h, s.line.deferral.isSome = true → s.line.inHand = some h →
      (∀ e, (h.kind = .clear ∨ h.kind = .allClear) → s.line.evac = some e → e.tag = h.tag →
        exec .deferralEnd s = .next (begun h (some (match e.frame with
          | .clear r => .clear { source := s.ownStation, reason := r }
          | .allClear => .allClear s.ownStation)))) ∧
      (∀ (c : Cue) (rest : List Cue), h.kind = .bellCue → s.line.cues = c :: rest → c.tag = h.tag →
        exec .deferralEnd s = .next (begun h (some (.bellCue
          { source := s.ownStation, entry := BitVec.ofNat 8 c.entry.val, day := BitVec.ofNat 16 c.day })))) ∧
      (∀ (j : JournalEntry) (rest : List JournalEntry), h.kind = .punch → s.journal.entries = j :: rest →
        j.tag = h.tag →
        exec .deferralEnd s = .next (begun h (some (.punch
          { source := s.ownStation, seq := j.seq, badge := BitVec.ofNat 24 j.badge, lane := j.lane,
            direction := j.direction, outcome := j.outcome, time := BitVec.ofNat 32 j.time, era := j.era })))) ∧
      (h.kind = .beacon → s.line.beacon = some h.tag →
        exec .deferralEnd s = .next (begun h (some (.beacon
          { source := s.ownStation,
            state := (match s.station with | .held => .held | .evacuate => .evacuate | _ => .live),
            fresh := s.line.fresh, isolated := s.peers.isolated, era := s.clock.era,
            time := BitVec.ofNat 32 s.clock.time, next := s.journal.next })))) ∧
      (((h.kind = .clear ∨ h.kind = .allClear) → ∀ e, s.line.evac = some e → e.tag ≠ h.tag) →
        (h.kind = .bellCue → ∀ c ∈ s.line.cues, c.tag ≠ h.tag) →
        (h.kind = .punch → ∀ j ∈ s.journal.entries, j.tag ≠ h.tag) →
        (h.kind = .beacon → s.line.beacon ≠ some h.tag) →
        exec .deferralEnd s = .next (begun h none)))

/-- SENT_WHOLE takes the frame from its place, clears the attempt count, the drops and the isolated mark, ends FRESH
when the frame carried it, and is the clearing condition of ISOLATED. COLLISION is counted; below the retry limit the
frame stays in hand for another attempt, and at it the frame is dropped: the third consecutive drop opens doubt, sets
the isolated mark and hands a LINE detection of cause ISOLATED, and each later one hands another. That a dropped frame
leaves its place only when it is still there unchanged, with no frame in hand after it, is the model's choice
(assumption 17). The model's choice, where an alarm cuts a ring: the record that a cut changes being the newest RUNG
record of its entry (assumption 30). -/
def Obligations.SendingEnds : Prop :=
  ∀ (x : Sending) (s : State), s.sends → s.line.sending = some x →
    let tag := x.hand.tag
    let left (p : LinePort) : LinePort :=
      match x.hand.kind with
      | .clear | .allClear => { p with evac := p.evac.filter fun e => decide (e.tag ≠ tag) }
      | .bellCue => { p with cues := p.cues.filter fun c => decide (c.tag ≠ tag) }
      | .punch => p
      | .beacon => { p with beacon := p.beacon.filter fun b => decide (b ≠ tag) }
    let kept := s.journal.entries.filter fun j => decide (j.tag ≠ tag)
    let journal : Journal :=
      if x.hand.kind = .punch then { s.journal with entries := kept, full := s.journal.full && decide (64 ≤ kept.length) }
      else s.journal
    let freshSent : Bool := match x.frame with
      | .beacon f => f.fresh
      | _ => false
    let cleared : FaultRecord := causeCleared s.faults.line .isolated
    let collisions := min 65535 (s.line.collisions + 1)
    let drops := min 3 (s.line.drops + 1)
    let droppedLine : LinePort :=
      { left s.line with
        inHand := none
        sending := none
        attempt := 0
        collisions := collisions
        dropped := min 65535 (s.line.dropped + 1)
        drops := drops }
    exec .sentWhole s = .next
      { s with
        line := { left s.line with
                  inHand := none, sending := none, attempt := 0, drops := 0, fresh := s.line.fresh && !freshSent }
        journal := journal
        peers := { s.peers with isolated := false }
        faults := { s.faults with line := cleared } } ∧
    (s.line.attempt < 15 → exec .collision s = .next
      { s with line := { s.line with sending := none, collisions := collisions, attempt := s.line.attempt + 1 } }) ∧
    (15 ≤ s.line.attempt → drops < 3 →
      exec .collision s = .next { s with line := droppedLine, journal := journal }) ∧
    (15 ≤ s.line.attempt → drops = 3 →
      let marked : State :=
        { s with
          line := droppedLine
          journal := journal
          peers :=
            if s.peers.isolated then s.peers else { s.peers with deadline := doubtDeadline s, isolated := true }
          watch := if s.peers.isolated then s.watch else doubtQueue s s.watch .isolated none }
      ∃ t, exec .collision s = .next t ∧
        t = { marked with lanes := t.lanes, bell := t.bell, watch := t.watch, faults := t.faults, control := t.control } ∧
        t.faults = { s.faults with line := t.faults.line } ∧
        StationDetected marked t s.faults.line t.faults.line s.sw5.line .line .line .isolated)

/-- A frame of any kind, as it is sent, is read back by the receiver as itself: the preamble, the kind's length, the
CRC and every field. Stated of every frame that R113 does not refuse. -/
def Obligations.FrameRoundTrip : Prop := ∀ f : Frame, frameValid f = true → readFrame (frameBytes f) = some f

/-! ## Supply, holdover and what every step keeps -/

/-- SUPPLY_FAILURE: in SETUP and in HOLDOVER the pins and the supply delays alone change; with the backup supply low
it is a backup loss; otherwise HOLDOVER is entered: EVACUATE becomes a pending evacuation, every pending release
closes UNUSED and is traced, every lane timer stops, each strike takes its fail mode, the bell and the line stop, and
ESSENTIAL retention empties the traces and the outgoing frames. These are the model's choices: a RELEASED lane becomes
IDLE or HELD (assumption 28), the report moves the supply pins (assumption 24), the contact's level stands (assumption
22), under ESSENTIAL the frame in hand stays named, with its attempt count, while its place is emptied (assumption
36), the UNUSED events stand in ascending order of the lanes (assumption 31), and a SCHEDULED claim that is stopped
has its trace record, the newest RUNG one of its entry (assumption 30), changed to CUT (assumption 48). SUPPLY_RETURN:
outside HOLDOVER the pins and the supply delays alone change (the model's choice, assumptions 14 and 24). In HOLDOVER
a HOLDOVER incident records the whole seconds, each lane takes its kind from its strap again and seeks its levels, the
contact's level is sought, the silence timers of heard peers start again, the CLASH cause is cleared, and JOIN is
entered with every strike LOCKED. -/
def Obligations.Holdover : Prop :=
  (∀ s : State, s.inReset = false →
     let pin : State :=
       { s with
         inputs := { s.inputs with gateLow := true, gateGood := false }
         supply := { s.supply with failing := none, returning := none } }
     let events := Lane.all.flatMap (unusedOf s)
     let essential : Prop := s.sw5.retention = .essential
     (s.station = .holdover ∨ (s.station = .setup ∧ s.inputs.backupLow = false) → exec .supplyFailure s = .next pin) ∧
     (s.station ≠ .holdover → s.inputs.backupLow = true →
       exec .supplyFailure s = .next
         { State.reset with
           inputs := pin.inputs, inReset := true, pending := s.pending
           supply := { failing := none, returning := none, loss := false, unpowered := true } }) ∧
     (s.station.serving = true → s.inputs.backupLow = false → s.calm →
       ∃ t, exec .supplyFailure s = .next t ∧
         t = { pin with lanes := t.lanes, bell := t.bell, line := t.line, peers := t.peers, watch := t.watch,
                        control := t.control } ∧
         t.control =
           { s.control with
             station := .holdover
             holdoverCount := min 65535 (s.control.holdoverCount + 1)
             holdoverEntry := s.clock.realTime
             joinTimer := none
             contactTimer := none
             pendingEvac :=
               if s.station = .evacuate then
                 s.control.evacRecord.map fun r => { reason := r.reason, clearMark := false }
               else s.control.pendingEvac
             evacRecord := if s.station = .evacuate then none else s.control.evacRecord } ∧
         (∀ l, t.lane l =
             { s.lane l with
               state := (t.lane l).state
               drive := decide ((s.sw1 l).failMode = .release)
               release := none
               releaseTimer := if (s.lane l).release.isSome then none else (s.lane l).releaseTimer
               heldOpen := none
               aux := { (s.lane l).aux with timer := none }
               sense := { (s.lane l).sense with timer := none }
               senseCheck := none
               evacRead := none } ∧
           ((s.lane l).state ≠ .released → (t.lane l).state = (s.lane l).state) ∧
           ((s.lane l).state = .released → heldLane s l → (t.lane l).state = .held) ∧
           ((s.lane l).state = .released → ¬ heldLane s l → (t.lane l).state = .idle)) ∧
         t.bell = { bellTaken s none with trace := if essential then [] else (bellTaken s none).trace } ∧
         t.line =
           { s.line with
             sending := none
             deferral := none
             beaconTimer := none
             clashTimer := none
             attempt := if s.line.sending.isSome then 0 else s.line.attempt
             cues := if essential then [] else s.line.cues
             evac := if essential then none else s.line.evac
             beacon := if essential then none else s.line.beacon } ∧
         t.peers = { s.peers with entries := s.peers.entries.map fun e => { e with silence := none } } ∧
         (¬ essential → Traced s t events s.watch) ∧
         (essential → t.watch =
           { s.watch with
             trace := List.replicate 32 none
             writePos := 0
             readPtr := 0
             incidents := []
             nextEvent := s.watch.nextEvent + BitVec.ofNat 16 events.length
             rules := s.watch.rules.map fun r => { r with first := none } }))) ∧
  (∀ s : State, s.inReset = false → s.supply.unpowered = false →
     let pin : State :=
       { s with
         inputs := { s.inputs with gateLow := false, gateGood := true }
         supply := { s.supply with failing := none, returning := none } }
     (s.station ≠ .holdover → exec .supplyReturn s = .next pin) ∧
     (s.station = .holdover →
       let seconds := (s.clock.realTime - s.control.holdoverEntry) / 16
       let sought : Debounced := { level := none, timer := some s.sw2.debounce }
       ∃ t, exec .supplyReturn s = .next t ∧
         t = { pin with lanes := t.lanes, peers := t.peers, watch := t.watch, faults := t.faults, control := t.control } ∧
         t.control =
           { s.control with
             station := .join
             joinTimer := some (16 * s.sw3.joinPeriod)
             contactFound := false
             contactTimer := some s.sw2.debounce } ∧
         t.watch = s.watch.queue
           { kind := .holdover, time := s.clock.time, lane := none, badge := none, rule := none, peer := none,
             detail := some ((min 2147483647 seconds : Nat) : Int) } ∧
         (∀ l, let fitted : Prop := s.inputs.strap.get l = true ∧ (s.sw1 l).kind ≠ .off
           let unsought : Debounced := { level := none, timer := none }
           let back (x : LaneState) : LaneUnit :=
             drivenLane { s.lane l with kind := (s.sw1 l).kind, state := x, aux := sought, sense := sought } false
           (¬ fitted → t.lane l =
             { s.lane l with kind := .off, state := .off, aux := unsought, sense := unsought, drive := false }) ∧
           (fitted → openFault s l → t.lane l = back .fault) ∧
           (fitted → ¬ openFault s l →
             t.lane l = back (if s.control.laneReasons.get l = [] then .idle else .held))) ∧
         t.peers = { s.peers with
           entries := s.peers.entries.map fun e =>
             { e with silence := if e.state = .heard then some (16 * s.sw3.silenceLimit) else e.silence } } ∧
         t.faults = { s.faults with line := causeCleared s.faults.line .clash }))

/-- What every table keeps: its size, the order of the badge table with its muster count, the order of the pay
records, no pay record with an open IN and an orphan OUT at once, and the ring times of the schedule within the day.
-/
def Obligations.TablesKept : Prop :=
  ∀ s t : State,
    TablesSized s ∧ TableOrdered s ∧ RecordsOrdered s ∧ RecordsSingle s ∧ ScheduleInRange s → step s = .next t →
    TablesSized t ∧ TableOrdered t ∧ RecordsOrdered t ∧ RecordsSingle t ∧ ScheduleInRange t

/-- Every strike output is driven as R24 gives after every step, when it was before. -/
def Obligations.DrivesKept : Prop := ∀ s t : State, DrivesFollow s → step s = .next t → DrivesFollow t

/-- A pending release stands only in LIVE and HELD, on a fitted lane in RELEASED or OPEN, after every step, when it
did before. -/
def Obligations.ReleasesKept : Prop := ∀ s t : State, ReleasesPlaced s → step s = .next t → ReleasesPlaced t

/-- Every event handed to the watch unit is taken before the next command, those that rule actions bring among them
(R141): none waits after a step when none waited before. -/
def Obligations.EventsTaken : Prop := ∀ s t : State, s.watch.handed = [] → step s = .next t → t.watch.handed = []

/-- The state after a full reset satisfies every invariant. -/
def Obligations.ResetInvariants : Prop :=
  TablesSized State.reset ∧ TableOrdered State.reset ∧ RecordsOrdered State.reset ∧ RecordsSingle State.reset ∧
  ScheduleInRange State.reset ∧
  DrivesFollow State.reset ∧ ReleasesPlaced State.reset ∧ State.reset.watch.handed = []

/-- What no step outside SETUP lowers: the pay day number, the day mark of a schedule entry, and the change time of a
badge's presence for as long as its entry stands. -/
def Obligations.NeverLowered : Prop :=
  ∀ s t : State, TablesSized s → TableOrdered s → s.station ≠ .setup → t.station ≠ .setup → step s = .next t →
    s.pay.today ≤ t.pay.today ∧
    (∀ (e : Fin 48) (m : Nat), (s.bellEntry e).mark = some m → ∃ n, (t.bellEntry e).mark = some n ∧ m ≤ n) ∧
    (∀ (badge : Nat) (e f : BadgeEntry), s.lookup badge = some e → t.lookup badge = some f →
      e.presence.time ≤ f.presence.time)
end

