-- ==== Sys2Proof/Laws/State.lean ====
section
/-! SUPPORT. What each update of one block changes and leaves alone: one lemma for each field. -/

namespace Sys2Proof.Machine

/-! ## One item for each lane and for each rule -/

@[simp] theorem PerLane.get_set_same {α : Type} (p : PerLane α) (l : Lane) (x : α) : (p.set l x).get l = x := by
  cases l <;> rfl

theorem PerLane.get_set_ne {α : Type} (p : PerLane α) {l k : Lane} (h : k ≠ l) (x : α) :
    (p.set l x).get k = p.get k := by
  cases l <;> cases k <;> first | rfl | exact absurd rfl h

theorem PerLane.get_set {α : Type} (p : PerLane α) (l k : Lane) (x : α) :
    (p.set l x).get k = if k = l then x else p.get k := by
  cases l <;> cases k <;> rfl

@[simp] theorem PerLane.get_map {α β : Type} (f : α → β) (p : PerLane α) (l : Lane) : (p.map f).get l = f (p.get l) := by
  cases l <;> rfl

@[simp] theorem PerLane.get_same {α : Type} (x : α) (l : Lane) : (PerLane.same x).get l = x := by
  cases l <;> rfl

@[simp] theorem PerLane.set_get {α : Type} (p : PerLane α) (l : Lane) : p.set l (p.get l) = p := by
  cases l <;> rfl

@[simp] theorem PerLane.set_set {α : Type} (p : PerLane α) (l : Lane) (x y : α) : (p.set l x).set l y = p.set l y := by
  cases l <;> rfl

@[simp] theorem PerRule.get_set_same {α : Type} (p : PerRule α) (r : RuleNo) (x : α) : (p.set r x).get r = x := by
  cases r <;> rfl

theorem PerRule.get_set_ne {α : Type} (p : PerRule α) {r q : RuleNo} (h : q ≠ r) (x : α) :
    (p.set r x).get q = p.get q := by
  cases r <;> cases q <;> first | rfl | exact absurd rfl h

@[simp] theorem PerRule.get_map {α β : Type} (f : α → β) (p : PerRule α) (r : RuleNo) : (p.map f).get r = f (p.get r) := by
  cases r <;> rfl

@[simp] theorem PerRule.get_same {α : Type} (x : α) (r : RuleNo) : (PerRule.same x).get r = x := by
  cases r <;> rfl

/-! ## Reading the state -/

/-- The station state is a field of station control: rewriting with this brings it to the form the lemmas below have. -/
theorem State.station_eq (s : State) : s.station = s.control.station := rfl

/-- A lane's unit is an item of the lane units. -/
theorem State.lane_eq (s : State) (l : Lane) : s.lane l = s.lanes.get l := rfl

/-! ## One update for each block -/

@[simp] theorem State.modBadges_badges (s : State) (f : BadgeTable → BadgeTable) : (s.modBadges f).badges = f s.badges := rfl
@[simp] theorem State.modBadges_lanes (s : State) (f : BadgeTable → BadgeTable) : (s.modBadges f).lanes = s.lanes := rfl
@[simp] theorem State.modBadges_inputs (s : State) (f : BadgeTable → BadgeTable) : (s.modBadges f).inputs = s.inputs := rfl
@[simp] theorem State.modBadges_pay (s : State) (f : BadgeTable → BadgeTable) : (s.modBadges f).pay = s.pay := rfl
@[simp] theorem State.modBadges_clock (s : State) (f : BadgeTable → BadgeTable) : (s.modBadges f).clock = s.clock := rfl
@[simp] theorem State.modBadges_bell (s : State) (f : BadgeTable → BadgeTable) : (s.modBadges f).bell = s.bell := rfl
@[simp] theorem State.modBadges_line (s : State) (f : BadgeTable → BadgeTable) : (s.modBadges f).line = s.line := rfl
@[simp] theorem State.modBadges_journal (s : State) (f : BadgeTable → BadgeTable) : (s.modBadges f).journal = s.journal := rfl
@[simp] theorem State.modBadges_peers (s : State) (f : BadgeTable → BadgeTable) : (s.modBadges f).peers = s.peers := rfl
@[simp] theorem State.modBadges_watch (s : State) (f : BadgeTable → BadgeTable) : (s.modBadges f).watch = s.watch := rfl
@[simp] theorem State.modBadges_faults (s : State) (f : BadgeTable → BadgeTable) : (s.modBadges f).faults = s.faults := rfl
@[simp] theorem State.modBadges_control (s : State) (f : BadgeTable → BadgeTable) : (s.modBadges f).control = s.control := rfl
@[simp] theorem State.modBadges_port (s : State) (f : BadgeTable → BadgeTable) : (s.modBadges f).port = s.port := rfl
@[simp] theorem State.modBadges_supply (s : State) (f : BadgeTable → BadgeTable) : (s.modBadges f).supply = s.supply := rfl
@[simp] theorem State.modBadges_inReset (s : State) (f : BadgeTable → BadgeTable) : (s.modBadges f).inReset = s.inReset := rfl
@[simp] theorem State.modBadges_pending (s : State) (f : BadgeTable → BadgeTable) : (s.modBadges f).pending = s.pending := rfl

@[simp] theorem State.modLanes_badges (s : State) (f : PerLane LaneUnit → PerLane LaneUnit) : (s.modLanes f).badges = s.badges := rfl
@[simp] theorem State.modLanes_lanes (s : State) (f : PerLane LaneUnit → PerLane LaneUnit) : (s.modLanes f).lanes = f s.lanes := rfl
@[simp] theorem State.modLanes_inputs (s : State) (f : PerLane LaneUnit → PerLane LaneUnit) : (s.modLanes f).inputs = s.inputs := rfl
@[simp] theorem State.modLanes_pay (s : State) (f : PerLane LaneUnit → PerLane LaneUnit) : (s.modLanes f).pay = s.pay := rfl
@[simp] theorem State.modLanes_clock (s : State) (f : PerLane LaneUnit → PerLane LaneUnit) : (s.modLanes f).clock = s.clock := rfl
@[simp] theorem State.modLanes_bell (s : State) (f : PerLane LaneUnit → PerLane LaneUnit) : (s.modLanes f).bell = s.bell := rfl
@[simp] theorem State.modLanes_line (s : State) (f : PerLane LaneUnit → PerLane LaneUnit) : (s.modLanes f).line = s.line := rfl
@[simp] theorem State.modLanes_journal (s : State) (f : PerLane LaneUnit → PerLane LaneUnit) : (s.modLanes f).journal = s.journal := rfl
@[simp] theorem State.modLanes_peers (s : State) (f : PerLane LaneUnit → PerLane LaneUnit) : (s.modLanes f).peers = s.peers := rfl
@[simp] theorem State.modLanes_watch (s : State) (f : PerLane LaneUnit → PerLane LaneUnit) : (s.modLanes f).watch = s.watch := rfl
@[simp] theorem State.modLanes_faults (s : State) (f : PerLane LaneUnit → PerLane LaneUnit) : (s.modLanes f).faults = s.faults := rfl
@[simp] theorem State.modLanes_control (s : State) (f : PerLane LaneUnit → PerLane LaneUnit) : (s.modLanes f).control = s.control := rfl
@[simp] theorem State.modLanes_port (s : State) (f : PerLane LaneUnit → PerLane LaneUnit) : (s.modLanes f).port = s.port := rfl
@[simp] theorem State.modLanes_supply (s : State) (f : PerLane LaneUnit → PerLane LaneUnit) : (s.modLanes f).supply = s.supply := rfl
@[simp] theorem State.modLanes_inReset (s : State) (f : PerLane LaneUnit → PerLane LaneUnit) : (s.modLanes f).inReset = s.inReset := rfl
@[simp] theorem State.modLanes_pending (s : State) (f : PerLane LaneUnit → PerLane LaneUnit) : (s.modLanes f).pending = s.pending := rfl

@[simp] theorem State.modInputs_badges (s : State) (f : Inputs → Inputs) : (s.modInputs f).badges = s.badges := rfl
@[simp] theorem State.modInputs_lanes (s : State) (f : Inputs → Inputs) : (s.modInputs f).lanes = s.lanes := rfl
@[simp] theorem State.modInputs_inputs (s : State) (f : Inputs → Inputs) : (s.modInputs f).inputs = f s.inputs := rfl
@[simp] theorem State.modInputs_pay (s : State) (f : Inputs → Inputs) : (s.modInputs f).pay = s.pay := rfl
@[simp] theorem State.modInputs_clock (s : State) (f : Inputs → Inputs) : (s.modInputs f).clock = s.clock := rfl
@[simp] theorem State.modInputs_bell (s : State) (f : Inputs → Inputs) : (s.modInputs f).bell = s.bell := rfl
@[simp] theorem State.modInputs_line (s : State) (f : Inputs → Inputs) : (s.modInputs f).line = s.line := rfl
@[simp] theorem State.modInputs_journal (s : State) (f : Inputs → Inputs) : (s.modInputs f).journal = s.journal := rfl
@[simp] theorem State.modInputs_peers (s : State) (f : Inputs → Inputs) : (s.modInputs f).peers = s.peers := rfl
@[simp] theorem State.modInputs_watch (s : State) (f : Inputs → Inputs) : (s.modInputs f).watch = s.watch := rfl
@[simp] theorem State.modInputs_faults (s : State) (f : Inputs → Inputs) : (s.modInputs f).faults = s.faults := rfl
@[simp] theorem State.modInputs_control (s : State) (f : Inputs → Inputs) : (s.modInputs f).control = s.control := rfl
@[simp] theorem State.modInputs_port (s : State) (f : Inputs → Inputs) : (s.modInputs f).port = s.port := rfl
@[simp] theorem State.modInputs_supply (s : State) (f : Inputs → Inputs) : (s.modInputs f).supply = s.supply := rfl
@[simp] theorem State.modInputs_inReset (s : State) (f : Inputs → Inputs) : (s.modInputs f).inReset = s.inReset := rfl
@[simp] theorem State.modInputs_pending (s : State) (f : Inputs → Inputs) : (s.modInputs f).pending = s.pending := rfl

@[simp] theorem State.modPay_badges (s : State) (f : PayUnit → PayUnit) : (s.modPay f).badges = s.badges := rfl
@[simp] theorem State.modPay_lanes (s : State) (f : PayUnit → PayUnit) : (s.modPay f).lanes = s.lanes := rfl
@[simp] theorem State.modPay_inputs (s : State) (f : PayUnit → PayUnit) : (s.modPay f).inputs = s.inputs := rfl
@[simp] theorem State.modPay_pay (s : State) (f : PayUnit → PayUnit) : (s.modPay f).pay = f s.pay := rfl
@[simp] theorem State.modPay_clock (s : State) (f : PayUnit → PayUnit) : (s.modPay f).clock = s.clock := rfl
@[simp] theorem State.modPay_bell (s : State) (f : PayUnit → PayUnit) : (s.modPay f).bell = s.bell := rfl
@[simp] theorem State.modPay_line (s : State) (f : PayUnit → PayUnit) : (s.modPay f).line = s.line := rfl
@[simp] theorem State.modPay_journal (s : State) (f : PayUnit → PayUnit) : (s.modPay f).journal = s.journal := rfl
@[simp] theorem State.modPay_peers (s : State) (f : PayUnit → PayUnit) : (s.modPay f).peers = s.peers := rfl
@[simp] theorem State.modPay_watch (s : State) (f : PayUnit → PayUnit) : (s.modPay f).watch = s.watch := rfl
@[simp] theorem State.modPay_faults (s : State) (f : PayUnit → PayUnit) : (s.modPay f).faults = s.faults := rfl
@[simp] theorem State.modPay_control (s : State) (f : PayUnit → PayUnit) : (s.modPay f).control = s.control := rfl
@[simp] theorem State.modPay_port (s : State) (f : PayUnit → PayUnit) : (s.modPay f).port = s.port := rfl
@[simp] theorem State.modPay_supply (s : State) (f : PayUnit → PayUnit) : (s.modPay f).supply = s.supply := rfl
@[simp] theorem State.modPay_inReset (s : State) (f : PayUnit → PayUnit) : (s.modPay f).inReset = s.inReset := rfl
@[simp] theorem State.modPay_pending (s : State) (f : PayUnit → PayUnit) : (s.modPay f).pending = s.pending := rfl

@[simp] theorem State.modClock_badges (s : State) (f : Clock → Clock) : (s.modClock f).badges = s.badges := rfl
@[simp] theorem State.modClock_lanes (s : State) (f : Clock → Clock) : (s.modClock f).lanes = s.lanes := rfl
@[simp] theorem State.modClock_inputs (s : State) (f : Clock → Clock) : (s.modClock f).inputs = s.inputs := rfl
@[simp] theorem State.modClock_pay (s : State) (f : Clock → Clock) : (s.modClock f).pay = s.pay := rfl
@[simp] theorem State.modClock_clock (s : State) (f : Clock → Clock) : (s.modClock f).clock = f s.clock := rfl
@[simp] theorem State.modClock_bell (s : State) (f : Clock → Clock) : (s.modClock f).bell = s.bell := rfl
@[simp] theorem State.modClock_line (s : State) (f : Clock → Clock) : (s.modClock f).line = s.line := rfl
@[simp] theorem State.modClock_journal (s : State) (f : Clock → Clock) : (s.modClock f).journal = s.journal := rfl
@[simp] theorem State.modClock_peers (s : State) (f : Clock → Clock) : (s.modClock f).peers = s.peers := rfl
@[simp] theorem State.modClock_watch (s : State) (f : Clock → Clock) : (s.modClock f).watch = s.watch := rfl
@[simp] theorem State.modClock_faults (s : State) (f : Clock → Clock) : (s.modClock f).faults = s.faults := rfl
@[simp] theorem State.modClock_control (s : State) (f : Clock → Clock) : (s.modClock f).control = s.control := rfl
@[simp] theorem State.modClock_port (s : State) (f : Clock → Clock) : (s.modClock f).port = s.port := rfl
@[simp] theorem State.modClock_supply (s : State) (f : Clock → Clock) : (s.modClock f).supply = s.supply := rfl
@[simp] theorem State.modClock_inReset (s : State) (f : Clock → Clock) : (s.modClock f).inReset = s.inReset := rfl
@[simp] theorem State.modClock_pending (s : State) (f : Clock → Clock) : (s.modClock f).pending = s.pending := rfl

@[simp] theorem State.modBell_badges (s : State) (f : BellUnit → BellUnit) : (s.modBell f).badges = s.badges := rfl
@[simp] theorem State.modBell_lanes (s : State) (f : BellUnit → BellUnit) : (s.modBell f).lanes = s.lanes := rfl
@[simp] theorem State.modBell_inputs (s : State) (f : BellUnit → BellUnit) : (s.modBell f).inputs = s.inputs := rfl
@[simp] theorem State.modBell_pay (s : State) (f : BellUnit → BellUnit) : (s.modBell f).pay = s.pay := rfl
@[simp] theorem State.modBell_clock (s : State) (f : BellUnit → BellUnit) : (s.modBell f).clock = s.clock := rfl
@[simp] theorem State.modBell_bell (s : State) (f : BellUnit → BellUnit) : (s.modBell f).bell = f s.bell := rfl
@[simp] theorem State.modBell_line (s : State) (f : BellUnit → BellUnit) : (s.modBell f).line = s.line := rfl
@[simp] theorem State.modBell_journal (s : State) (f : BellUnit → BellUnit) : (s.modBell f).journal = s.journal := rfl
@[simp] theorem State.modBell_peers (s : State) (f : BellUnit → BellUnit) : (s.modBell f).peers = s.peers := rfl
@[simp] theorem State.modBell_watch (s : State) (f : BellUnit → BellUnit) : (s.modBell f).watch = s.watch := rfl
@[simp] theorem State.modBell_faults (s : State) (f : BellUnit → BellUnit) : (s.modBell f).faults = s.faults := rfl
@[simp] theorem State.modBell_control (s : State) (f : BellUnit → BellUnit) : (s.modBell f).control = s.control := rfl
@[simp] theorem State.modBell_port (s : State) (f : BellUnit → BellUnit) : (s.modBell f).port = s.port := rfl
@[simp] theorem State.modBell_supply (s : State) (f : BellUnit → BellUnit) : (s.modBell f).supply = s.supply := rfl
@[simp] theorem State.modBell_inReset (s : State) (f : BellUnit → BellUnit) : (s.modBell f).inReset = s.inReset := rfl
@[simp] theorem State.modBell_pending (s : State) (f : BellUnit → BellUnit) : (s.modBell f).pending = s.pending := rfl

@[simp] theorem State.modLine_badges (s : State) (f : LinePort → LinePort) : (s.modLine f).badges = s.badges := rfl
@[simp] theorem State.modLine_lanes (s : State) (f : LinePort → LinePort) : (s.modLine f).lanes = s.lanes := rfl
@[simp] theorem State.modLine_inputs (s : State) (f : LinePort → LinePort) : (s.modLine f).inputs = s.inputs := rfl
@[simp] theorem State.modLine_pay (s : State) (f : LinePort → LinePort) : (s.modLine f).pay = s.pay := rfl
@[simp] theorem State.modLine_clock (s : State) (f : LinePort → LinePort) : (s.modLine f).clock = s.clock := rfl
@[simp] theorem State.modLine_bell (s : State) (f : LinePort → LinePort) : (s.modLine f).bell = s.bell := rfl
@[simp] theorem State.modLine_line (s : State) (f : LinePort → LinePort) : (s.modLine f).line = f s.line := rfl
@[simp] theorem State.modLine_journal (s : State) (f : LinePort → LinePort) : (s.modLine f).journal = s.journal := rfl
@[simp] theorem State.modLine_peers (s : State) (f : LinePort → LinePort) : (s.modLine f).peers = s.peers := rfl
@[simp] theorem State.modLine_watch (s : State) (f : LinePort → LinePort) : (s.modLine f).watch = s.watch := rfl
@[simp] theorem State.modLine_faults (s : State) (f : LinePort → LinePort) : (s.modLine f).faults = s.faults := rfl
@[simp] theorem State.modLine_control (s : State) (f : LinePort → LinePort) : (s.modLine f).control = s.control := rfl
@[simp] theorem State.modLine_port (s : State) (f : LinePort → LinePort) : (s.modLine f).port = s.port := rfl
@[simp] theorem State.modLine_supply (s : State) (f : LinePort → LinePort) : (s.modLine f).supply = s.supply := rfl
@[simp] theorem State.modLine_inReset (s : State) (f : LinePort → LinePort) : (s.modLine f).inReset = s.inReset := rfl
@[simp] theorem State.modLine_pending (s : State) (f : LinePort → LinePort) : (s.modLine f).pending = s.pending := rfl

@[simp] theorem State.modJournal_badges (s : State) (f : Journal → Journal) : (s.modJournal f).badges = s.badges := rfl
@[simp] theorem State.modJournal_lanes (s : State) (f : Journal → Journal) : (s.modJournal f).lanes = s.lanes := rfl
@[simp] theorem State.modJournal_inputs (s : State) (f : Journal → Journal) : (s.modJournal f).inputs = s.inputs := rfl
@[simp] theorem State.modJournal_pay (s : State) (f : Journal → Journal) : (s.modJournal f).pay = s.pay := rfl
@[simp] theorem State.modJournal_clock (s : State) (f : Journal → Journal) : (s.modJournal f).clock = s.clock := rfl
@[simp] theorem State.modJournal_bell (s : State) (f : Journal → Journal) : (s.modJournal f).bell = s.bell := rfl
@[simp] theorem State.modJournal_line (s : State) (f : Journal → Journal) : (s.modJournal f).line = s.line := rfl
@[simp] theorem State.modJournal_journal (s : State) (f : Journal → Journal) : (s.modJournal f).journal = f s.journal := rfl
@[simp] theorem State.modJournal_peers (s : State) (f : Journal → Journal) : (s.modJournal f).peers = s.peers := rfl
@[simp] theorem State.modJournal_watch (s : State) (f : Journal → Journal) : (s.modJournal f).watch = s.watch := rfl
@[simp] theorem State.modJournal_faults (s : State) (f : Journal → Journal) : (s.modJournal f).faults = s.faults := rfl
@[simp] theorem State.modJournal_control (s : State) (f : Journal → Journal) : (s.modJournal f).control = s.control := rfl
@[simp] theorem State.modJournal_port (s : State) (f : Journal → Journal) : (s.modJournal f).port = s.port := rfl
@[simp] theorem State.modJournal_supply (s : State) (f : Journal → Journal) : (s.modJournal f).supply = s.supply := rfl
@[simp] theorem State.modJournal_inReset (s : State) (f : Journal → Journal) : (s.modJournal f).inReset = s.inReset := rfl
@[simp] theorem State.modJournal_pending (s : State) (f : Journal → Journal) : (s.modJournal f).pending = s.pending := rfl

@[simp] theorem State.modPeers_badges (s : State) (f : PeerTable → PeerTable) : (s.modPeers f).badges = s.badges := rfl
@[simp] theorem State.modPeers_lanes (s : State) (f : PeerTable → PeerTable) : (s.modPeers f).lanes = s.lanes := rfl
@[simp] theorem State.modPeers_inputs (s : State) (f : PeerTable → PeerTable) : (s.modPeers f).inputs = s.inputs := rfl
@[simp] theorem State.modPeers_pay (s : State) (f : PeerTable → PeerTable) : (s.modPeers f).pay = s.pay := rfl
@[simp] theorem State.modPeers_clock (s : State) (f : PeerTable → PeerTable) : (s.modPeers f).clock = s.clock := rfl
@[simp] theorem State.modPeers_bell (s : State) (f : PeerTable → PeerTable) : (s.modPeers f).bell = s.bell := rfl
@[simp] theorem State.modPeers_line (s : State) (f : PeerTable → PeerTable) : (s.modPeers f).line = s.line := rfl
@[simp] theorem State.modPeers_journal (s : State) (f : PeerTable → PeerTable) : (s.modPeers f).journal = s.journal := rfl
@[simp] theorem State.modPeers_peers (s : State) (f : PeerTable → PeerTable) : (s.modPeers f).peers = f s.peers := rfl
@[simp] theorem State.modPeers_watch (s : State) (f : PeerTable → PeerTable) : (s.modPeers f).watch = s.watch := rfl
@[simp] theorem State.modPeers_faults (s : State) (f : PeerTable → PeerTable) : (s.modPeers f).faults = s.faults := rfl
@[simp] theorem State.modPeers_control (s : State) (f : PeerTable → PeerTable) : (s.modPeers f).control = s.control := rfl
@[simp] theorem State.modPeers_port (s : State) (f : PeerTable → PeerTable) : (s.modPeers f).port = s.port := rfl
@[simp] theorem State.modPeers_supply (s : State) (f : PeerTable → PeerTable) : (s.modPeers f).supply = s.supply := rfl
@[simp] theorem State.modPeers_inReset (s : State) (f : PeerTable → PeerTable) : (s.modPeers f).inReset = s.inReset := rfl
@[simp] theorem State.modPeers_pending (s : State) (f : PeerTable → PeerTable) : (s.modPeers f).pending = s.pending := rfl

@[simp] theorem State.modWatch_badges (s : State) (f : WatchUnit → WatchUnit) : (s.modWatch f).badges = s.badges := rfl
@[simp] theorem State.modWatch_lanes (s : State) (f : WatchUnit → WatchUnit) : (s.modWatch f).lanes = s.lanes := rfl
@[simp] theorem State.modWatch_inputs (s : State) (f : WatchUnit → WatchUnit) : (s.modWatch f).inputs = s.inputs := rfl
@[simp] theorem State.modWatch_pay (s : State) (f : WatchUnit → WatchUnit) : (s.modWatch f).pay = s.pay := rfl
@[simp] theorem State.modWatch_clock (s : State) (f : WatchUnit → WatchUnit) : (s.modWatch f).clock = s.clock := rfl
@[simp] theorem State.modWatch_bell (s : State) (f : WatchUnit → WatchUnit) : (s.modWatch f).bell = s.bell := rfl
@[simp] theorem State.modWatch_line (s : State) (f : WatchUnit → WatchUnit) : (s.modWatch f).line = s.line := rfl
@[simp] theorem State.modWatch_journal (s : State) (f : WatchUnit → WatchUnit) : (s.modWatch f).journal = s.journal := rfl
@[simp] theorem State.modWatch_peers (s : State) (f : WatchUnit → WatchUnit) : (s.modWatch f).peers = s.peers := rfl
@[simp] theorem State.modWatch_watch (s : State) (f : WatchUnit → WatchUnit) : (s.modWatch f).watch = f s.watch := rfl
@[simp] theorem State.modWatch_faults (s : State) (f : WatchUnit → WatchUnit) : (s.modWatch f).faults = s.faults := rfl
@[simp] theorem State.modWatch_control (s : State) (f : WatchUnit → WatchUnit) : (s.modWatch f).control = s.control := rfl
@[simp] theorem State.modWatch_port (s : State) (f : WatchUnit → WatchUnit) : (s.modWatch f).port = s.port := rfl
@[simp] theorem State.modWatch_supply (s : State) (f : WatchUnit → WatchUnit) : (s.modWatch f).supply = s.supply := rfl
@[simp] theorem State.modWatch_inReset (s : State) (f : WatchUnit → WatchUnit) : (s.modWatch f).inReset = s.inReset := rfl
@[simp] theorem State.modWatch_pending (s : State) (f : WatchUnit → WatchUnit) : (s.modWatch f).pending = s.pending := rfl

@[simp] theorem State.modFaults_badges (s : State) (f : FaultMonitor → FaultMonitor) : (s.modFaults f).badges = s.badges := rfl
@[simp] theorem State.modFaults_lanes (s : State) (f : FaultMonitor → FaultMonitor) : (s.modFaults f).lanes = s.lanes := rfl
@[simp] theorem State.modFaults_inputs (s : State) (f : FaultMonitor → FaultMonitor) : (s.modFaults f).inputs = s.inputs := rfl
@[simp] theorem State.modFaults_pay (s : State) (f : FaultMonitor → FaultMonitor) : (s.modFaults f).pay = s.pay := rfl
@[simp] theorem State.modFaults_clock (s : State) (f : FaultMonitor → FaultMonitor) : (s.modFaults f).clock = s.clock := rfl
@[simp] theorem State.modFaults_bell (s : State) (f : FaultMonitor → FaultMonitor) : (s.modFaults f).bell = s.bell := rfl
@[simp] theorem State.modFaults_line (s : State) (f : FaultMonitor → FaultMonitor) : (s.modFaults f).line = s.line := rfl
@[simp] theorem State.modFaults_journal (s : State) (f : FaultMonitor → FaultMonitor) : (s.modFaults f).journal = s.journal := rfl
@[simp] theorem State.modFaults_peers (s : State) (f : FaultMonitor → FaultMonitor) : (s.modFaults f).peers = s.peers := rfl
@[simp] theorem State.modFaults_watch (s : State) (f : FaultMonitor → FaultMonitor) : (s.modFaults f).watch = s.watch := rfl
@[simp] theorem State.modFaults_faults (s : State) (f : FaultMonitor → FaultMonitor) : (s.modFaults f).faults = f s.faults := rfl
@[simp] theorem State.modFaults_control (s : State) (f : FaultMonitor → FaultMonitor) : (s.modFaults f).control = s.control := rfl
@[simp] theorem State.modFaults_port (s : State) (f : FaultMonitor → FaultMonitor) : (s.modFaults f).port = s.port := rfl
@[simp] theorem State.modFaults_supply (s : State) (f : FaultMonitor → FaultMonitor) : (s.modFaults f).supply = s.supply := rfl
@[simp] theorem State.modFaults_inReset (s : State) (f : FaultMonitor → FaultMonitor) : (s.modFaults f).inReset = s.inReset := rfl
@[simp] theorem State.modFaults_pending (s : State) (f : FaultMonitor → FaultMonitor) : (s.modFaults f).pending = s.pending := rfl

@[simp] theorem State.modControl_badges (s : State) (f : Control → Control) : (s.modControl f).badges = s.badges := rfl
@[simp] theorem State.modControl_lanes (s : State) (f : Control → Control) : (s.modControl f).lanes = s.lanes := rfl
@[simp] theorem State.modControl_inputs (s : State) (f : Control → Control) : (s.modControl f).inputs = s.inputs := rfl
@[simp] theorem State.modControl_pay (s : State) (f : Control → Control) : (s.modControl f).pay = s.pay := rfl
@[simp] theorem State.modControl_clock (s : State) (f : Control → Control) : (s.modControl f).clock = s.clock := rfl
@[simp] theorem State.modControl_bell (s : State) (f : Control → Control) : (s.modControl f).bell = s.bell := rfl
@[simp] theorem State.modControl_line (s : State) (f : Control → Control) : (s.modControl f).line = s.line := rfl
@[simp] theorem State.modControl_journal (s : State) (f : Control → Control) : (s.modControl f).journal = s.journal := rfl
@[simp] theorem State.modControl_peers (s : State) (f : Control → Control) : (s.modControl f).peers = s.peers := rfl
@[simp] theorem State.modControl_watch (s : State) (f : Control → Control) : (s.modControl f).watch = s.watch := rfl
@[simp] theorem State.modControl_faults (s : State) (f : Control → Control) : (s.modControl f).faults = s.faults := rfl
@[simp] theorem State.modControl_control (s : State) (f : Control → Control) : (s.modControl f).control = f s.control := rfl
@[simp] theorem State.modControl_port (s : State) (f : Control → Control) : (s.modControl f).port = s.port := rfl
@[simp] theorem State.modControl_supply (s : State) (f : Control → Control) : (s.modControl f).supply = s.supply := rfl
@[simp] theorem State.modControl_inReset (s : State) (f : Control → Control) : (s.modControl f).inReset = s.inReset := rfl
@[simp] theorem State.modControl_pending (s : State) (f : Control → Control) : (s.modControl f).pending = s.pending := rfl

@[simp] theorem State.modPort_badges (s : State) (f : TerminalPort → TerminalPort) : (s.modPort f).badges = s.badges := rfl
@[simp] theorem State.modPort_lanes (s : State) (f : TerminalPort → TerminalPort) : (s.modPort f).lanes = s.lanes := rfl
@[simp] theorem State.modPort_inputs (s : State) (f : TerminalPort → TerminalPort) : (s.modPort f).inputs = s.inputs := rfl
@[simp] theorem State.modPort_pay (s : State) (f : TerminalPort → TerminalPort) : (s.modPort f).pay = s.pay := rfl
@[simp] theorem State.modPort_clock (s : State) (f : TerminalPort → TerminalPort) : (s.modPort f).clock = s.clock := rfl
@[simp] theorem State.modPort_bell (s : State) (f : TerminalPort → TerminalPort) : (s.modPort f).bell = s.bell := rfl
@[simp] theorem State.modPort_line (s : State) (f : TerminalPort → TerminalPort) : (s.modPort f).line = s.line := rfl
@[simp] theorem State.modPort_journal (s : State) (f : TerminalPort → TerminalPort) : (s.modPort f).journal = s.journal := rfl
@[simp] theorem State.modPort_peers (s : State) (f : TerminalPort → TerminalPort) : (s.modPort f).peers = s.peers := rfl
@[simp] theorem State.modPort_watch (s : State) (f : TerminalPort → TerminalPort) : (s.modPort f).watch = s.watch := rfl
@[simp] theorem State.modPort_faults (s : State) (f : TerminalPort → TerminalPort) : (s.modPort f).faults = s.faults := rfl
@[simp] theorem State.modPort_control (s : State) (f : TerminalPort → TerminalPort) : (s.modPort f).control = s.control := rfl
@[simp] theorem State.modPort_port (s : State) (f : TerminalPort → TerminalPort) : (s.modPort f).port = f s.port := rfl
@[simp] theorem State.modPort_supply (s : State) (f : TerminalPort → TerminalPort) : (s.modPort f).supply = s.supply := rfl
@[simp] theorem State.modPort_inReset (s : State) (f : TerminalPort → TerminalPort) : (s.modPort f).inReset = s.inReset := rfl
@[simp] theorem State.modPort_pending (s : State) (f : TerminalPort → TerminalPort) : (s.modPort f).pending = s.pending := rfl

@[simp] theorem State.modSupply_badges (s : State) (f : SupplyMonitor → SupplyMonitor) : (s.modSupply f).badges = s.badges := rfl
@[simp] theorem State.modSupply_lanes (s : State) (f : SupplyMonitor → SupplyMonitor) : (s.modSupply f).lanes = s.lanes := rfl
@[simp] theorem State.modSupply_inputs (s : State) (f : SupplyMonitor → SupplyMonitor) : (s.modSupply f).inputs = s.inputs := rfl
@[simp] theorem State.modSupply_pay (s : State) (f : SupplyMonitor → SupplyMonitor) : (s.modSupply f).pay = s.pay := rfl
@[simp] theorem State.modSupply_clock (s : State) (f : SupplyMonitor → SupplyMonitor) : (s.modSupply f).clock = s.clock := rfl
@[simp] theorem State.modSupply_bell (s : State) (f : SupplyMonitor → SupplyMonitor) : (s.modSupply f).bell = s.bell := rfl
@[simp] theorem State.modSupply_line (s : State) (f : SupplyMonitor → SupplyMonitor) : (s.modSupply f).line = s.line := rfl
@[simp] theorem State.modSupply_journal (s : State) (f : SupplyMonitor → SupplyMonitor) : (s.modSupply f).journal = s.journal := rfl
@[simp] theorem State.modSupply_peers (s : State) (f : SupplyMonitor → SupplyMonitor) : (s.modSupply f).peers = s.peers := rfl
@[simp] theorem State.modSupply_watch (s : State) (f : SupplyMonitor → SupplyMonitor) : (s.modSupply f).watch = s.watch := rfl
@[simp] theorem State.modSupply_faults (s : State) (f : SupplyMonitor → SupplyMonitor) : (s.modSupply f).faults = s.faults := rfl
@[simp] theorem State.modSupply_control (s : State) (f : SupplyMonitor → SupplyMonitor) : (s.modSupply f).control = s.control := rfl
@[simp] theorem State.modSupply_port (s : State) (f : SupplyMonitor → SupplyMonitor) : (s.modSupply f).port = s.port := rfl
@[simp] theorem State.modSupply_supply (s : State) (f : SupplyMonitor → SupplyMonitor) : (s.modSupply f).supply = f s.supply := rfl
@[simp] theorem State.modSupply_inReset (s : State) (f : SupplyMonitor → SupplyMonitor) : (s.modSupply f).inReset = s.inReset := rfl
@[simp] theorem State.modSupply_pending (s : State) (f : SupplyMonitor → SupplyMonitor) : (s.modSupply f).pending = s.pending := rfl

@[simp] theorem State.modLane_badges (s : State) (l : Lane) (f : LaneUnit → LaneUnit) : (s.modLane l f).badges = s.badges := rfl
@[simp] theorem State.modLane_inputs (s : State) (l : Lane) (f : LaneUnit → LaneUnit) : (s.modLane l f).inputs = s.inputs := rfl
@[simp] theorem State.modLane_pay (s : State) (l : Lane) (f : LaneUnit → LaneUnit) : (s.modLane l f).pay = s.pay := rfl
@[simp] theorem State.modLane_clock (s : State) (l : Lane) (f : LaneUnit → LaneUnit) : (s.modLane l f).clock = s.clock := rfl
@[simp] theorem State.modLane_bell (s : State) (l : Lane) (f : LaneUnit → LaneUnit) : (s.modLane l f).bell = s.bell := rfl
@[simp] theorem State.modLane_line (s : State) (l : Lane) (f : LaneUnit → LaneUnit) : (s.modLane l f).line = s.line := rfl
@[simp] theorem State.modLane_journal (s : State) (l : Lane) (f : LaneUnit → LaneUnit) : (s.modLane l f).journal = s.journal := rfl
@[simp] theorem State.modLane_peers (s : State) (l : Lane) (f : LaneUnit → LaneUnit) : (s.modLane l f).peers = s.peers := rfl
@[simp] theorem State.modLane_watch (s : State) (l : Lane) (f : LaneUnit → LaneUnit) : (s.modLane l f).watch = s.watch := rfl
@[simp] theorem State.modLane_faults (s : State) (l : Lane) (f : LaneUnit → LaneUnit) : (s.modLane l f).faults = s.faults := rfl
@[simp] theorem State.modLane_control (s : State) (l : Lane) (f : LaneUnit → LaneUnit) : (s.modLane l f).control = s.control := rfl
@[simp] theorem State.modLane_port (s : State) (l : Lane) (f : LaneUnit → LaneUnit) : (s.modLane l f).port = s.port := rfl
@[simp] theorem State.modLane_supply (s : State) (l : Lane) (f : LaneUnit → LaneUnit) : (s.modLane l f).supply = s.supply := rfl
@[simp] theorem State.modLane_inReset (s : State) (l : Lane) (f : LaneUnit → LaneUnit) : (s.modLane l f).inReset = s.inReset := rfl
@[simp] theorem State.modLane_pending (s : State) (l : Lane) (f : LaneUnit → LaneUnit) : (s.modLane l f).pending = s.pending := rfl

@[simp] theorem State.modLane_lane_same (s : State) (l : Lane) (f : LaneUnit → LaneUnit) :
    (s.modLane l f).lane l = f (s.lane l) := by
  cases l <;> rfl

theorem State.modLane_lane_ne (s : State) {l k : Lane} (h : k ≠ l) (f : LaneUnit → LaneUnit) :
    (s.modLane l f).lane k = s.lane k := by
  cases l <;> cases k <;> first | rfl | exact absurd rfl h

end Sys2Proof.Machine
end

