-- ==== Sys2Proof/Laws/Ops.lean ====
section
/-! SUPPORT. What each shared operation leaves alone: one lemma for each, naming every block that it does not change. -/

namespace Sys2Proof.Machine

/-! ## Ops -/

@[simp] theorem State.recordIncident_frame (s : State) (k : IncidentKind) (l : Option Lane) (b : Option Nat) (r : Option RuleNo) (p : Option Station) (d : Option Int) :
    (s.recordIncident k l b r p d).badges = s.badges ∧ (s.recordIncident k l b r p d).lanes = s.lanes ∧
    (s.recordIncident k l b r p d).inputs = s.inputs ∧ (s.recordIncident k l b r p d).pay = s.pay ∧
    (s.recordIncident k l b r p d).clock = s.clock ∧ (s.recordIncident k l b r p d).bell = s.bell ∧
    (s.recordIncident k l b r p d).line = s.line ∧ (s.recordIncident k l b r p d).journal = s.journal ∧
    (s.recordIncident k l b r p d).peers = s.peers ∧ (s.recordIncident k l b r p d).faults = s.faults ∧
    (s.recordIncident k l b r p d).control = s.control ∧ (s.recordIncident k l b r p d).port = s.port ∧
    (s.recordIncident k l b r p d).supply = s.supply ∧ (s.recordIncident k l b r p d).inReset = s.inReset ∧
    (s.recordIncident k l b r p d).pending = s.pending := by
  simp [State.recordIncident]

@[simp] theorem State.hand_frame (s : State) (e : LaneEvent) :
    (s.hand e).badges = s.badges ∧ (s.hand e).lanes = s.lanes ∧ (s.hand e).inputs = s.inputs ∧
    (s.hand e).pay = s.pay ∧ (s.hand e).clock = s.clock ∧ (s.hand e).bell = s.bell ∧ (s.hand e).line = s.line ∧
    (s.hand e).journal = s.journal ∧ (s.hand e).peers = s.peers ∧ (s.hand e).faults = s.faults ∧
    (s.hand e).control = s.control ∧ (s.hand e).port = s.port ∧ (s.hand e).supply = s.supply ∧
    (s.hand e).inReset = s.inReset ∧
    (s.hand e).pending = s.pending := by
  simp [State.hand]

@[simp] theorem State.modPeer_frame (s : State) (p : Station) (f : PeerEntry → PeerEntry) :
    (s.modPeer p f).badges = s.badges ∧ (s.modPeer p f).lanes = s.lanes ∧ (s.modPeer p f).inputs = s.inputs ∧
    (s.modPeer p f).pay = s.pay ∧ (s.modPeer p f).clock = s.clock ∧ (s.modPeer p f).bell = s.bell ∧
    (s.modPeer p f).line = s.line ∧ (s.modPeer p f).journal = s.journal ∧ (s.modPeer p f).watch = s.watch ∧
    (s.modPeer p f).faults = s.faults ∧ (s.modPeer p f).control = s.control ∧ (s.modPeer p f).port = s.port ∧
    (s.modPeer p f).supply = s.supply ∧ (s.modPeer p f).inReset = s.inReset ∧ (s.modPeer p f).pending = s.pending := by
  simp [State.modPeer]

@[simp] theorem State.modBellEntry_frame (s : State) (e : Fin 48) (f : BellEntry → BellEntry) :
    (s.modBellEntry e f).badges = s.badges ∧ (s.modBellEntry e f).lanes = s.lanes ∧
    (s.modBellEntry e f).inputs = s.inputs ∧ (s.modBellEntry e f).pay = s.pay ∧ (s.modBellEntry e f).clock = s.clock ∧
    (s.modBellEntry e f).line = s.line ∧ (s.modBellEntry e f).journal = s.journal ∧
    (s.modBellEntry e f).peers = s.peers ∧ (s.modBellEntry e f).watch = s.watch ∧
    (s.modBellEntry e f).faults = s.faults ∧ (s.modBellEntry e f).control = s.control ∧
    (s.modBellEntry e f).port = s.port ∧ (s.modBellEntry e f).supply = s.supply ∧
    (s.modBellEntry e f).inReset = s.inReset ∧
    (s.modBellEntry e f).pending = s.pending := by
  simp [State.modBellEntry]

@[simp] theorem State.modRule_frame (s : State) (r : RuleNo) (f : Rule → Rule) :
    (s.modRule r f).badges = s.badges ∧ (s.modRule r f).lanes = s.lanes ∧ (s.modRule r f).inputs = s.inputs ∧
    (s.modRule r f).pay = s.pay ∧ (s.modRule r f).clock = s.clock ∧ (s.modRule r f).bell = s.bell ∧
    (s.modRule r f).line = s.line ∧ (s.modRule r f).journal = s.journal ∧ (s.modRule r f).peers = s.peers ∧
    (s.modRule r f).faults = s.faults ∧ (s.modRule r f).control = s.control ∧ (s.modRule r f).port = s.port ∧
    (s.modRule r f).supply = s.supply ∧ (s.modRule r f).inReset = s.inReset ∧ (s.modRule r f).pending = s.pending := by
  simp [State.modRule]

@[simp] theorem State.openDoubt_frame (s : State) (c : DoubtCause) (p : Option Station) :
    (s.openDoubt c p).badges = s.badges ∧ (s.openDoubt c p).lanes = s.lanes ∧ (s.openDoubt c p).inputs = s.inputs ∧
    (s.openDoubt c p).pay = s.pay ∧ (s.openDoubt c p).clock = s.clock ∧ (s.openDoubt c p).bell = s.bell ∧
    (s.openDoubt c p).line = s.line ∧ (s.openDoubt c p).journal = s.journal ∧ (s.openDoubt c p).faults = s.faults ∧
    (s.openDoubt c p).control = s.control ∧ (s.openDoubt c p).port = s.port ∧ (s.openDoubt c p).supply = s.supply ∧
    (s.openDoubt c p).inReset = s.inReset ∧
    (s.openDoubt c p).pending = s.pending := by
  simp only [State.openDoubt]
  (repeat' split) <;> simp

@[simp] theorem State.placeEvac_frame (s : State) (f : EvacFrame) :
    (s.placeEvac f).badges = s.badges ∧ (s.placeEvac f).lanes = s.lanes ∧ (s.placeEvac f).inputs = s.inputs ∧
    (s.placeEvac f).pay = s.pay ∧ (s.placeEvac f).clock = s.clock ∧ (s.placeEvac f).bell = s.bell ∧
    (s.placeEvac f).journal = s.journal ∧ (s.placeEvac f).peers = s.peers ∧ (s.placeEvac f).watch = s.watch ∧
    (s.placeEvac f).faults = s.faults ∧ (s.placeEvac f).control = s.control ∧ (s.placeEvac f).port = s.port ∧
    (s.placeEvac f).supply = s.supply ∧ (s.placeEvac f).inReset = s.inReset ∧ (s.placeEvac f).pending = s.pending := by
  simp [State.placeEvac]

@[simp] theorem State.removeEvac_frame (s : State) (f : EvacFrame → Bool) :
    (s.removeEvac f).badges = s.badges ∧ (s.removeEvac f).lanes = s.lanes ∧ (s.removeEvac f).inputs = s.inputs ∧
    (s.removeEvac f).pay = s.pay ∧ (s.removeEvac f).clock = s.clock ∧ (s.removeEvac f).bell = s.bell ∧
    (s.removeEvac f).journal = s.journal ∧ (s.removeEvac f).peers = s.peers ∧ (s.removeEvac f).watch = s.watch ∧
    (s.removeEvac f).faults = s.faults ∧ (s.removeEvac f).control = s.control ∧ (s.removeEvac f).port = s.port ∧
    (s.removeEvac f).supply = s.supply ∧ (s.removeEvac f).inReset = s.inReset ∧
    (s.removeEvac f).pending = s.pending := by
  simp [State.removeEvac]

@[simp] theorem State.placeCue_frame (s : State) (e : Fin 48) (d : Nat) :
    (s.placeCue e d).badges = s.badges ∧ (s.placeCue e d).lanes = s.lanes ∧ (s.placeCue e d).inputs = s.inputs ∧
    (s.placeCue e d).pay = s.pay ∧ (s.placeCue e d).clock = s.clock ∧ (s.placeCue e d).bell = s.bell ∧
    (s.placeCue e d).journal = s.journal ∧ (s.placeCue e d).peers = s.peers ∧ (s.placeCue e d).watch = s.watch ∧
    (s.placeCue e d).faults = s.faults ∧ (s.placeCue e d).control = s.control ∧ (s.placeCue e d).port = s.port ∧
    (s.placeCue e d).supply = s.supply ∧ (s.placeCue e d).inReset = s.inReset ∧
    (s.placeCue e d).pending = s.pending := by
  simp [State.placeCue]

@[simp] theorem State.placeBeacon_frame (s : State) :
    (s.placeBeacon).badges = s.badges ∧ (s.placeBeacon).lanes = s.lanes ∧ (s.placeBeacon).inputs = s.inputs ∧
    (s.placeBeacon).pay = s.pay ∧ (s.placeBeacon).clock = s.clock ∧ (s.placeBeacon).bell = s.bell ∧
    (s.placeBeacon).journal = s.journal ∧ (s.placeBeacon).peers = s.peers ∧ (s.placeBeacon).watch = s.watch ∧
    (s.placeBeacon).faults = s.faults ∧ (s.placeBeacon).control = s.control ∧ (s.placeBeacon).port = s.port ∧
    (s.placeBeacon).supply = s.supply ∧ (s.placeBeacon).inReset = s.inReset ∧ (s.placeBeacon).pending = s.pending := by
  simp [State.placeBeacon]

/-! ## BellOps -/

@[simp] theorem State.traceBell_frame (s : State) (e : Fin 48) (d : Nat) (o : BellOrigin) (x : BellOutcome) :
    (s.traceBell e d o x).badges = s.badges ∧ (s.traceBell e d o x).lanes = s.lanes ∧
    (s.traceBell e d o x).inputs = s.inputs ∧ (s.traceBell e d o x).pay = s.pay ∧
    (s.traceBell e d o x).clock = s.clock ∧ (s.traceBell e d o x).line = s.line ∧
    (s.traceBell e d o x).journal = s.journal ∧ (s.traceBell e d o x).peers = s.peers ∧
    (s.traceBell e d o x).watch = s.watch ∧ (s.traceBell e d o x).faults = s.faults ∧
    (s.traceBell e d o x).control = s.control ∧ (s.traceBell e d o x).port = s.port ∧
    (s.traceBell e d o x).supply = s.supply ∧ (s.traceBell e d o x).inReset = s.inReset ∧
    (s.traceBell e d o x).pending = s.pending := by
  simp only [State.traceBell]
  (repeat' split) <;> simp

@[simp] theorem State.sound_frame (s : State) (k : Rank) (p : Fin 8) (e : Option (Fin 48)) :
    (s.sound k p e).badges = s.badges ∧ (s.sound k p e).lanes = s.lanes ∧ (s.sound k p e).inputs = s.inputs ∧
    (s.sound k p e).pay = s.pay ∧ (s.sound k p e).clock = s.clock ∧ (s.sound k p e).line = s.line ∧
    (s.sound k p e).journal = s.journal ∧ (s.sound k p e).peers = s.peers ∧ (s.sound k p e).watch = s.watch ∧
    (s.sound k p e).faults = s.faults ∧ (s.sound k p e).control = s.control ∧ (s.sound k p e).port = s.port ∧
    (s.sound k p e).supply = s.supply ∧ (s.sound k p e).inReset = s.inReset ∧ (s.sound k p e).pending = s.pending := by
  simp [State.sound]

@[simp] theorem State.silence_frame (s : State) :
    (s.silence).badges = s.badges ∧ (s.silence).lanes = s.lanes ∧ (s.silence).inputs = s.inputs ∧
    (s.silence).pay = s.pay ∧ (s.silence).clock = s.clock ∧ (s.silence).line = s.line ∧
    (s.silence).journal = s.journal ∧ (s.silence).peers = s.peers ∧ (s.silence).watch = s.watch ∧
    (s.silence).faults = s.faults ∧ (s.silence).control = s.control ∧ (s.silence).port = s.port ∧
    (s.silence).supply = s.supply ∧ (s.silence).inReset = s.inReset ∧ (s.silence).pending = s.pending := by
  simp [State.silence]

@[simp] theorem State.countCut_frame (s : State) :
    (s.countCut).badges = s.badges ∧ (s.countCut).lanes = s.lanes ∧ (s.countCut).inputs = s.inputs ∧
    (s.countCut).pay = s.pay ∧ (s.countCut).clock = s.clock ∧ (s.countCut).line = s.line ∧
    (s.countCut).journal = s.journal ∧ (s.countCut).peers = s.peers ∧ (s.countCut).watch = s.watch ∧
    (s.countCut).faults = s.faults ∧ (s.countCut).control = s.control ∧ (s.countCut).port = s.port ∧
    (s.countCut).supply = s.supply ∧ (s.countCut).inReset = s.inReset ∧ (s.countCut).pending = s.pending := by
  simp only [State.countCut]
  (repeat' split) <;> simp

@[simp] theorem State.countSuppressed_frame (s : State) :
    (s.countSuppressed).badges = s.badges ∧ (s.countSuppressed).lanes = s.lanes ∧
    (s.countSuppressed).inputs = s.inputs ∧ (s.countSuppressed).pay = s.pay ∧ (s.countSuppressed).clock = s.clock ∧
    (s.countSuppressed).line = s.line ∧ (s.countSuppressed).journal = s.journal ∧
    (s.countSuppressed).peers = s.peers ∧ (s.countSuppressed).watch = s.watch ∧
    (s.countSuppressed).faults = s.faults ∧ (s.countSuppressed).control = s.control ∧
    (s.countSuppressed).port = s.port ∧ (s.countSuppressed).supply = s.supply ∧
    (s.countSuppressed).inReset = s.inReset ∧
    (s.countSuppressed).pending = s.pending := by
  simp [State.countSuppressed]

@[simp] theorem State.countMissed_frame (s : State) :
    (s.countMissed).badges = s.badges ∧ (s.countMissed).lanes = s.lanes ∧ (s.countMissed).inputs = s.inputs ∧
    (s.countMissed).pay = s.pay ∧ (s.countMissed).clock = s.clock ∧ (s.countMissed).line = s.line ∧
    (s.countMissed).journal = s.journal ∧ (s.countMissed).peers = s.peers ∧ (s.countMissed).watch = s.watch ∧
    (s.countMissed).faults = s.faults ∧ (s.countMissed).control = s.control ∧ (s.countMissed).port = s.port ∧
    (s.countMissed).supply = s.supply ∧ (s.countMissed).inReset = s.inReset ∧ (s.countMissed).pending = s.pending := by
  simp [State.countMissed]

@[simp] theorem State.claimAlarm_frame (s : State) :
    (s.claimAlarm).badges = s.badges ∧ (s.claimAlarm).lanes = s.lanes ∧ (s.claimAlarm).inputs = s.inputs ∧
    (s.claimAlarm).pay = s.pay ∧ (s.claimAlarm).clock = s.clock ∧ (s.claimAlarm).line = s.line ∧
    (s.claimAlarm).journal = s.journal ∧ (s.claimAlarm).peers = s.peers ∧ (s.claimAlarm).watch = s.watch ∧
    (s.claimAlarm).faults = s.faults ∧ (s.claimAlarm).control = s.control ∧ (s.claimAlarm).port = s.port ∧
    (s.claimAlarm).supply = s.supply ∧ (s.claimAlarm).inReset = s.inReset ∧ (s.claimAlarm).pending = s.pending := by
  simp only [State.claimAlarm]
  (repeat' split) <;> simp

@[simp] theorem State.claimEvacuation_frame (s : State) :
    (s.claimEvacuation).badges = s.badges ∧ (s.claimEvacuation).lanes = s.lanes ∧
    (s.claimEvacuation).inputs = s.inputs ∧ (s.claimEvacuation).pay = s.pay ∧ (s.claimEvacuation).clock = s.clock ∧
    (s.claimEvacuation).line = s.line ∧ (s.claimEvacuation).journal = s.journal ∧
    (s.claimEvacuation).peers = s.peers ∧ (s.claimEvacuation).watch = s.watch ∧
    (s.claimEvacuation).faults = s.faults ∧ (s.claimEvacuation).control = s.control ∧
    (s.claimEvacuation).port = s.port ∧ (s.claimEvacuation).supply = s.supply ∧
    (s.claimEvacuation).inReset = s.inReset ∧
    (s.claimEvacuation).pending = s.pending := by
  simp only [State.claimEvacuation]
  (repeat' split) <;> simp

@[simp] theorem State.stopAlarm_frame (s : State) :
    (s.stopAlarm).badges = s.badges ∧ (s.stopAlarm).lanes = s.lanes ∧ (s.stopAlarm).inputs = s.inputs ∧
    (s.stopAlarm).pay = s.pay ∧ (s.stopAlarm).clock = s.clock ∧ (s.stopAlarm).line = s.line ∧
    (s.stopAlarm).journal = s.journal ∧ (s.stopAlarm).peers = s.peers ∧ (s.stopAlarm).watch = s.watch ∧
    (s.stopAlarm).faults = s.faults ∧ (s.stopAlarm).control = s.control ∧ (s.stopAlarm).port = s.port ∧
    (s.stopAlarm).supply = s.supply ∧ (s.stopAlarm).inReset = s.inReset ∧ (s.stopAlarm).pending = s.pending := by
  simp only [State.stopAlarm]
  (repeat' split) <;> simp

@[simp] theorem State.stopBell_frame (s : State) :
    (s.stopBell).badges = s.badges ∧ (s.stopBell).lanes = s.lanes ∧ (s.stopBell).inputs = s.inputs ∧
    (s.stopBell).pay = s.pay ∧ (s.stopBell).clock = s.clock ∧ (s.stopBell).line = s.line ∧
    (s.stopBell).journal = s.journal ∧ (s.stopBell).peers = s.peers ∧ (s.stopBell).watch = s.watch ∧
    (s.stopBell).faults = s.faults ∧ (s.stopBell).control = s.control ∧ (s.stopBell).port = s.port ∧
    (s.stopBell).supply = s.supply ∧ (s.stopBell).inReset = s.inReset ∧ (s.stopBell).pending = s.pending := by
  simp [State.stopBell]

@[simp] theorem State.markEntry_frame (s : State) (e : Fin 48) (d : Nat) :
    (s.markEntry e d).badges = s.badges ∧ (s.markEntry e d).lanes = s.lanes ∧ (s.markEntry e d).inputs = s.inputs ∧
    (s.markEntry e d).pay = s.pay ∧ (s.markEntry e d).clock = s.clock ∧ (s.markEntry e d).line = s.line ∧
    (s.markEntry e d).journal = s.journal ∧ (s.markEntry e d).peers = s.peers ∧ (s.markEntry e d).watch = s.watch ∧
    (s.markEntry e d).faults = s.faults ∧ (s.markEntry e d).control = s.control ∧ (s.markEntry e d).port = s.port ∧
    (s.markEntry e d).supply = s.supply ∧ (s.markEntry e d).inReset = s.inReset ∧
    (s.markEntry e d).pending = s.pending := by
  simp [State.markEntry]

@[simp] theorem State.rung_frame (s : State) (e : Fin 48) (d : Nat) (o : BellOrigin) :
    (s.rung e d o).badges = s.badges ∧ (s.rung e d o).lanes = s.lanes ∧ (s.rung e d o).inputs = s.inputs ∧
    (s.rung e d o).pay = s.pay ∧ (s.rung e d o).clock = s.clock ∧ (s.rung e d o).line = s.line ∧
    (s.rung e d o).journal = s.journal ∧ (s.rung e d o).peers = s.peers ∧ (s.rung e d o).watch = s.watch ∧
    (s.rung e d o).faults = s.faults ∧ (s.rung e d o).control = s.control ∧ (s.rung e d o).port = s.port ∧
    (s.rung e d o).supply = s.supply ∧ (s.rung e d o).inReset = s.inReset ∧ (s.rung e d o).pending = s.pending := by
  simp only [State.rung]
  (repeat' split) <;> simp

@[simp] theorem State.passSuppressed_frame (s : State) (e : Fin 48) (d : Nat) (o : BellOrigin) :
    (s.passSuppressed e d o).badges = s.badges ∧ (s.passSuppressed e d o).lanes = s.lanes ∧
    (s.passSuppressed e d o).inputs = s.inputs ∧ (s.passSuppressed e d o).pay = s.pay ∧
    (s.passSuppressed e d o).clock = s.clock ∧ (s.passSuppressed e d o).line = s.line ∧
    (s.passSuppressed e d o).journal = s.journal ∧ (s.passSuppressed e d o).peers = s.peers ∧
    (s.passSuppressed e d o).watch = s.watch ∧ (s.passSuppressed e d o).faults = s.faults ∧
    (s.passSuppressed e d o).control = s.control ∧ (s.passSuppressed e d o).port = s.port ∧
    (s.passSuppressed e d o).supply = s.supply ∧ (s.passSuppressed e d o).inReset = s.inReset ∧
    (s.passSuppressed e d o).pending = s.pending := by
  simp [State.passSuppressed]

@[simp] theorem State.passMissed_frame (s : State) (e : Fin 48) (d : Nat) (o : BellOrigin) :
    (s.passMissed e d o).badges = s.badges ∧ (s.passMissed e d o).lanes = s.lanes ∧
    (s.passMissed e d o).inputs = s.inputs ∧ (s.passMissed e d o).pay = s.pay ∧ (s.passMissed e d o).clock = s.clock ∧
    (s.passMissed e d o).line = s.line ∧ (s.passMissed e d o).journal = s.journal ∧
    (s.passMissed e d o).peers = s.peers ∧ (s.passMissed e d o).watch = s.watch ∧
    (s.passMissed e d o).faults = s.faults ∧ (s.passMissed e d o).control = s.control ∧
    (s.passMissed e d o).port = s.port ∧ (s.passMissed e d o).supply = s.supply ∧
    (s.passMissed e d o).inReset = s.inReset ∧
    (s.passMissed e d o).pending = s.pending := by
  simp [State.passMissed]

@[simp] theorem State.takeInstant_frame (s : State) (e : Fin 48) (d : Nat) (o : BellOrigin) :
    (s.takeInstant e d o).badges = s.badges ∧ (s.takeInstant e d o).lanes = s.lanes ∧
    (s.takeInstant e d o).inputs = s.inputs ∧ (s.takeInstant e d o).pay = s.pay ∧
    (s.takeInstant e d o).clock = s.clock ∧ (s.takeInstant e d o).journal = s.journal ∧
    (s.takeInstant e d o).peers = s.peers ∧ (s.takeInstant e d o).watch = s.watch ∧
    (s.takeInstant e d o).faults = s.faults ∧ (s.takeInstant e d o).control = s.control ∧
    (s.takeInstant e d o).port = s.port ∧ (s.takeInstant e d o).supply = s.supply ∧
    (s.takeInstant e d o).inReset = s.inReset ∧
    (s.takeInstant e d o).pending = s.pending := by
  simp only [State.takeInstant]
  (repeat' split) <;> simp

@[simp] theorem State.catchUpOne_frame (s : State) (a b d : Nat) (e : Fin 48) :
    (s.catchUpOne a b d e).badges = s.badges ∧ (s.catchUpOne a b d e).lanes = s.lanes ∧
    (s.catchUpOne a b d e).inputs = s.inputs ∧ (s.catchUpOne a b d e).pay = s.pay ∧
    (s.catchUpOne a b d e).clock = s.clock ∧ (s.catchUpOne a b d e).journal = s.journal ∧
    (s.catchUpOne a b d e).peers = s.peers ∧ (s.catchUpOne a b d e).watch = s.watch ∧
    (s.catchUpOne a b d e).faults = s.faults ∧ (s.catchUpOne a b d e).control = s.control ∧
    (s.catchUpOne a b d e).port = s.port ∧ (s.catchUpOne a b d e).supply = s.supply ∧
    (s.catchUpOne a b d e).inReset = s.inReset ∧
    (s.catchUpOne a b d e).pending = s.pending := by
  simp only [State.catchUpOne]
  (repeat' split) <;> simp

@[simp] theorem State.catchUpFold_frame (s : State) (a b d : Nat) (order : List (Fin 48)) :
    (order.foldl (fun x e => x.catchUpOne a b d e) s).badges = s.badges ∧
    (order.foldl (fun x e => x.catchUpOne a b d e) s).lanes = s.lanes ∧
    (order.foldl (fun x e => x.catchUpOne a b d e) s).inputs = s.inputs ∧
    (order.foldl (fun x e => x.catchUpOne a b d e) s).pay = s.pay ∧
    (order.foldl (fun x e => x.catchUpOne a b d e) s).clock = s.clock ∧
    (order.foldl (fun x e => x.catchUpOne a b d e) s).journal = s.journal ∧
    (order.foldl (fun x e => x.catchUpOne a b d e) s).peers = s.peers ∧
    (order.foldl (fun x e => x.catchUpOne a b d e) s).watch = s.watch ∧
    (order.foldl (fun x e => x.catchUpOne a b d e) s).faults = s.faults ∧
    (order.foldl (fun x e => x.catchUpOne a b d e) s).control = s.control ∧
    (order.foldl (fun x e => x.catchUpOne a b d e) s).port = s.port ∧
    (order.foldl (fun x e => x.catchUpOne a b d e) s).supply = s.supply ∧
    (order.foldl (fun x e => x.catchUpOne a b d e) s).inReset = s.inReset ∧
    (order.foldl (fun x e => x.catchUpOne a b d e) s).pending = s.pending := by
  induction order generalizing s with
  | nil => simp
  | cons e rest ih => simp [ih]

@[simp] theorem State.catchUpDays_frame (s : State) (a b : Nat) (order : List (Fin 48)) (d n : Nat) :
    (s.catchUpDays a b order d n).badges = s.badges ∧ (s.catchUpDays a b order d n).lanes = s.lanes ∧
    (s.catchUpDays a b order d n).inputs = s.inputs ∧ (s.catchUpDays a b order d n).pay = s.pay ∧
    (s.catchUpDays a b order d n).clock = s.clock ∧ (s.catchUpDays a b order d n).journal = s.journal ∧
    (s.catchUpDays a b order d n).peers = s.peers ∧ (s.catchUpDays a b order d n).watch = s.watch ∧
    (s.catchUpDays a b order d n).faults = s.faults ∧ (s.catchUpDays a b order d n).control = s.control ∧
    (s.catchUpDays a b order d n).port = s.port ∧ (s.catchUpDays a b order d n).supply = s.supply ∧
    (s.catchUpDays a b order d n).inReset = s.inReset ∧
    (s.catchUpDays a b order d n).pending = s.pending := by
  induction n generalizing s d with
  | zero => simp [State.catchUpDays]
  | succ n ih => simp [State.catchUpDays, ih]

@[simp] theorem State.catchUp_frame (s : State) (a b : Nat) :
    (s.catchUp a b).badges = s.badges ∧ (s.catchUp a b).lanes = s.lanes ∧ (s.catchUp a b).inputs = s.inputs ∧
    (s.catchUp a b).pay = s.pay ∧ (s.catchUp a b).clock = s.clock ∧ (s.catchUp a b).journal = s.journal ∧
    (s.catchUp a b).peers = s.peers ∧ (s.catchUp a b).watch = s.watch ∧ (s.catchUp a b).faults = s.faults ∧
    (s.catchUp a b).control = s.control ∧ (s.catchUp a b).port = s.port ∧ (s.catchUp a b).supply = s.supply ∧
    (s.catchUp a b).inReset = s.inReset ∧
    (s.catchUp a b).pending = s.pending := by
  simp only [State.catchUp]
  (repeat' split) <;> simp

/-! ## LaneOps -/

@[simp] theorem State.refreshDrive_frame (s : State) (l : Lane) :
    (s.refreshDrive l).badges = s.badges ∧ (s.refreshDrive l).inputs = s.inputs ∧ (s.refreshDrive l).pay = s.pay ∧
    (s.refreshDrive l).clock = s.clock ∧ (s.refreshDrive l).bell = s.bell ∧ (s.refreshDrive l).line = s.line ∧
    (s.refreshDrive l).journal = s.journal ∧ (s.refreshDrive l).peers = s.peers ∧ (s.refreshDrive l).watch = s.watch ∧
    (s.refreshDrive l).faults = s.faults ∧ (s.refreshDrive l).control = s.control ∧ (s.refreshDrive l).port = s.port ∧
    (s.refreshDrive l).supply = s.supply ∧ (s.refreshDrive l).inReset = s.inReset ∧
    (s.refreshDrive l).pending = s.pending := by
  simp only [State.refreshDrive]
  (repeat' split) <;> simp

@[simp] theorem State.refreshDrives_frame (s : State) :
    (s.refreshDrives).badges = s.badges ∧ (s.refreshDrives).inputs = s.inputs ∧ (s.refreshDrives).pay = s.pay ∧
    (s.refreshDrives).clock = s.clock ∧ (s.refreshDrives).bell = s.bell ∧ (s.refreshDrives).line = s.line ∧
    (s.refreshDrives).journal = s.journal ∧ (s.refreshDrives).peers = s.peers ∧ (s.refreshDrives).watch = s.watch ∧
    (s.refreshDrives).faults = s.faults ∧ (s.refreshDrives).control = s.control ∧ (s.refreshDrives).port = s.port ∧
    (s.refreshDrives).supply = s.supply ∧ (s.refreshDrives).inReset = s.inReset ∧
    (s.refreshDrives).pending = s.pending := by
  simp [State.refreshDrives, Lane.all]

@[simp] theorem State.dropRelease_frame (s : State) (l : Lane) :
    (s.dropRelease l).badges = s.badges ∧ (s.dropRelease l).inputs = s.inputs ∧ (s.dropRelease l).pay = s.pay ∧
    (s.dropRelease l).clock = s.clock ∧ (s.dropRelease l).bell = s.bell ∧ (s.dropRelease l).line = s.line ∧
    (s.dropRelease l).journal = s.journal ∧ (s.dropRelease l).peers = s.peers ∧ (s.dropRelease l).faults = s.faults ∧
    (s.dropRelease l).control = s.control ∧ (s.dropRelease l).port = s.port ∧ (s.dropRelease l).supply = s.supply ∧
    (s.dropRelease l).inReset = s.inReset ∧
    (s.dropRelease l).pending = s.pending := by
  simp only [State.dropRelease]
  (repeat' split) <;> simp

@[simp] theorem State.expireRelease_frame (s : State) (l : Lane) :
    (s.expireRelease l).badges = s.badges ∧ (s.expireRelease l).inputs = s.inputs ∧ (s.expireRelease l).pay = s.pay ∧
    (s.expireRelease l).clock = s.clock ∧ (s.expireRelease l).bell = s.bell ∧ (s.expireRelease l).line = s.line ∧
    (s.expireRelease l).journal = s.journal ∧ (s.expireRelease l).peers = s.peers ∧
    (s.expireRelease l).faults = s.faults ∧ (s.expireRelease l).control = s.control ∧
    (s.expireRelease l).port = s.port ∧ (s.expireRelease l).supply = s.supply ∧
    (s.expireRelease l).inReset = s.inReset ∧
    (s.expireRelease l).pending = s.pending := by
  simp [State.expireRelease]

@[simp] theorem State.openDoor_frame (s : State) (l : Lane) (d : Bool) :
    (s.openDoor l d).badges = s.badges ∧ (s.openDoor l d).inputs = s.inputs ∧ (s.openDoor l d).pay = s.pay ∧
    (s.openDoor l d).clock = s.clock ∧ (s.openDoor l d).bell = s.bell ∧ (s.openDoor l d).line = s.line ∧
    (s.openDoor l d).journal = s.journal ∧ (s.openDoor l d).peers = s.peers ∧ (s.openDoor l d).watch = s.watch ∧
    (s.openDoor l d).faults = s.faults ∧ (s.openDoor l d).control = s.control ∧ (s.openDoor l d).port = s.port ∧
    (s.openDoor l d).supply = s.supply ∧ (s.openDoor l d).inReset = s.inReset ∧
    (s.openDoor l d).pending = s.pending := by
  simp [State.openDoor]

@[simp] theorem State.settleLane_frame (s : State) (l : Lane) :
    (s.settleLane l).badges = s.badges ∧ (s.settleLane l).inputs = s.inputs ∧ (s.settleLane l).pay = s.pay ∧
    (s.settleLane l).clock = s.clock ∧ (s.settleLane l).bell = s.bell ∧ (s.settleLane l).line = s.line ∧
    (s.settleLane l).journal = s.journal ∧ (s.settleLane l).peers = s.peers ∧ (s.settleLane l).watch = s.watch ∧
    (s.settleLane l).faults = s.faults ∧ (s.settleLane l).control = s.control ∧ (s.settleLane l).port = s.port ∧
    (s.settleLane l).supply = s.supply ∧ (s.settleLane l).inReset = s.inReset ∧
    (s.settleLane l).pending = s.pending := by
  simp only [State.settleLane]
  (repeat' split) <;> simp

@[simp] theorem State.enterFault_frame (s : State) (l : Lane) :
    (s.enterFault l).badges = s.badges ∧ (s.enterFault l).inputs = s.inputs ∧ (s.enterFault l).pay = s.pay ∧
    (s.enterFault l).clock = s.clock ∧ (s.enterFault l).bell = s.bell ∧ (s.enterFault l).line = s.line ∧
    (s.enterFault l).journal = s.journal ∧ (s.enterFault l).peers = s.peers ∧ (s.enterFault l).faults = s.faults ∧
    (s.enterFault l).control = s.control ∧ (s.enterFault l).port = s.port ∧ (s.enterFault l).supply = s.supply ∧
    (s.enterFault l).inReset = s.inReset ∧
    (s.enterFault l).pending = s.pending := by
  simp only [State.enterFault]
  (repeat' split) <;> simp

@[simp] theorem State.reachHold_frame (s : State) (l : Lane) :
    (s.reachHold l).badges = s.badges ∧ (s.reachHold l).inputs = s.inputs ∧ (s.reachHold l).pay = s.pay ∧
    (s.reachHold l).clock = s.clock ∧ (s.reachHold l).bell = s.bell ∧ (s.reachHold l).line = s.line ∧
    (s.reachHold l).journal = s.journal ∧ (s.reachHold l).peers = s.peers ∧ (s.reachHold l).watch = s.watch ∧
    (s.reachHold l).faults = s.faults ∧ (s.reachHold l).control = s.control ∧ (s.reachHold l).port = s.port ∧
    (s.reachHold l).supply = s.supply ∧ (s.reachHold l).inReset = s.inReset ∧ (s.reachHold l).pending = s.pending := by
  simp only [State.reachHold]
  (repeat' split) <;> simp

@[simp] theorem State.endHold_frame (s : State) (l : Lane) :
    (s.endHold l).badges = s.badges ∧ (s.endHold l).inputs = s.inputs ∧ (s.endHold l).pay = s.pay ∧
    (s.endHold l).clock = s.clock ∧ (s.endHold l).bell = s.bell ∧ (s.endHold l).line = s.line ∧
    (s.endHold l).journal = s.journal ∧ (s.endHold l).peers = s.peers ∧ (s.endHold l).watch = s.watch ∧
    (s.endHold l).faults = s.faults ∧ (s.endHold l).control = s.control ∧ (s.endHold l).port = s.port ∧
    (s.endHold l).supply = s.supply ∧ (s.endHold l).inReset = s.inReset ∧ (s.endHold l).pending = s.pending := by
  simp only [State.endHold]
  (repeat' split) <;> simp

@[simp] theorem State.takeContext_frame (s : State) (r : HoldReason) (l : Option Lane) :
    (s.takeContext r l).badges = s.badges ∧ (s.takeContext r l).lanes = s.lanes ∧
    (s.takeContext r l).inputs = s.inputs ∧ (s.takeContext r l).pay = s.pay ∧ (s.takeContext r l).clock = s.clock ∧
    (s.takeContext r l).bell = s.bell ∧ (s.takeContext r l).line = s.line ∧ (s.takeContext r l).journal = s.journal ∧
    (s.takeContext r l).peers = s.peers ∧ (s.takeContext r l).watch = s.watch ∧
    (s.takeContext r l).faults = s.faults ∧ (s.takeContext r l).port = s.port ∧
    (s.takeContext r l).supply = s.supply ∧ (s.takeContext r l).inReset = s.inReset ∧
    (s.takeContext r l).pending = s.pending := by
  simp only [State.takeContext]
  (repeat' split) <;> simp

@[simp] theorem State.addLaneReason_frame (s : State) (l : Lane) (r : HoldReason) :
    (s.addLaneReason l r).badges = s.badges ∧ (s.addLaneReason l r).inputs = s.inputs ∧
    (s.addLaneReason l r).pay = s.pay ∧ (s.addLaneReason l r).clock = s.clock ∧ (s.addLaneReason l r).bell = s.bell ∧
    (s.addLaneReason l r).line = s.line ∧ (s.addLaneReason l r).journal = s.journal ∧
    (s.addLaneReason l r).peers = s.peers ∧ (s.addLaneReason l r).watch = s.watch ∧
    (s.addLaneReason l r).faults = s.faults ∧ (s.addLaneReason l r).port = s.port ∧
    (s.addLaneReason l r).supply = s.supply ∧ (s.addLaneReason l r).inReset = s.inReset ∧
    (s.addLaneReason l r).pending = s.pending := by
  simp only [State.addLaneReason]
  (repeat' split) <;> simp

@[simp] theorem State.addStationReason_frame (s : State) (r : HoldReason) :
    (s.addStationReason r).badges = s.badges ∧ (s.addStationReason r).inputs = s.inputs ∧
    (s.addStationReason r).pay = s.pay ∧ (s.addStationReason r).clock = s.clock ∧
    (s.addStationReason r).bell = s.bell ∧ (s.addStationReason r).line = s.line ∧
    (s.addStationReason r).journal = s.journal ∧ (s.addStationReason r).peers = s.peers ∧
    (s.addStationReason r).watch = s.watch ∧ (s.addStationReason r).faults = s.faults ∧
    (s.addStationReason r).port = s.port ∧ (s.addStationReason r).supply = s.supply ∧
    (s.addStationReason r).inReset = s.inReset ∧
    (s.addStationReason r).pending = s.pending := by
  simp only [State.addStationReason, Lane.all, List.foldl]
  (repeat' split) <;> simp

/-! ## FaultOps -/

@[simp] theorem State.laneAction_frame (s : State) (l : Lane) (k : LaneFaultKind) (a : FaultAction) :
    (s.laneAction l k a).badges = s.badges ∧ (s.laneAction l k a).inputs = s.inputs ∧
    (s.laneAction l k a).pay = s.pay ∧ (s.laneAction l k a).clock = s.clock ∧ (s.laneAction l k a).line = s.line ∧
    (s.laneAction l k a).journal = s.journal ∧ (s.laneAction l k a).peers = s.peers ∧
    (s.laneAction l k a).faults = s.faults ∧ (s.laneAction l k a).port = s.port ∧
    (s.laneAction l k a).supply = s.supply ∧ (s.laneAction l k a).inReset = s.inReset ∧
    (s.laneAction l k a).pending = s.pending := by
  simp only [State.laneAction]
  cases a <;> (repeat' split) <;> simp

@[simp] theorem State.stationAction_frame (s : State) (k : FaultKind) (a : FaultAction) :
    (s.stationAction k a).badges = s.badges ∧ (s.stationAction k a).inputs = s.inputs ∧
    (s.stationAction k a).pay = s.pay ∧ (s.stationAction k a).clock = s.clock ∧ (s.stationAction k a).line = s.line ∧
    (s.stationAction k a).journal = s.journal ∧ (s.stationAction k a).peers = s.peers ∧
    (s.stationAction k a).watch = s.watch ∧ (s.stationAction k a).faults = s.faults ∧
    (s.stationAction k a).port = s.port ∧ (s.stationAction k a).supply = s.supply ∧
    (s.stationAction k a).inReset = s.inReset ∧
    (s.stationAction k a).pending = s.pending := by
  simp only [State.stationAction]
  (repeat' split) <;> simp

@[simp] theorem State.detectLane_frame (s : State) (l : Lane) (k : LaneFaultKind) :
    (s.detectLane l k).badges = s.badges ∧ (s.detectLane l k).inputs = s.inputs ∧ (s.detectLane l k).pay = s.pay ∧
    (s.detectLane l k).clock = s.clock ∧ (s.detectLane l k).line = s.line ∧ (s.detectLane l k).journal = s.journal ∧
    (s.detectLane l k).peers = s.peers ∧ (s.detectLane l k).port = s.port ∧ (s.detectLane l k).supply = s.supply ∧
    (s.detectLane l k).inReset = s.inReset ∧
    (s.detectLane l k).pending = s.pending := by
  simp only [State.detectLane]
  (repeat' split) <;> simp

@[simp] theorem State.detectLine_frame (s : State) (c : FaultCause) :
    (s.detectLine c).badges = s.badges ∧ (s.detectLine c).inputs = s.inputs ∧ (s.detectLine c).pay = s.pay ∧
    (s.detectLine c).clock = s.clock ∧ (s.detectLine c).line = s.line ∧ (s.detectLine c).journal = s.journal ∧
    (s.detectLine c).peers = s.peers ∧ (s.detectLine c).port = s.port ∧ (s.detectLine c).supply = s.supply ∧
    (s.detectLine c).inReset = s.inReset ∧
    (s.detectLine c).pending = s.pending := by
  simp only [State.detectLine]
  (repeat' split) <;> simp

@[simp] theorem State.detectClock_frame (s : State) (c : FaultCause) :
    (s.detectClock c).badges = s.badges ∧ (s.detectClock c).inputs = s.inputs ∧ (s.detectClock c).pay = s.pay ∧
    (s.detectClock c).clock = s.clock ∧ (s.detectClock c).line = s.line ∧ (s.detectClock c).journal = s.journal ∧
    (s.detectClock c).peers = s.peers ∧ (s.detectClock c).port = s.port ∧ (s.detectClock c).supply = s.supply ∧
    (s.detectClock c).inReset = s.inReset ∧
    (s.detectClock c).pending = s.pending := by
  simp only [State.detectClock]
  (repeat' split) <;> simp

@[simp] theorem State.clearLine_frame (s : State) (c : FaultCause) :
    (s.clearLine c).badges = s.badges ∧ (s.clearLine c).lanes = s.lanes ∧ (s.clearLine c).inputs = s.inputs ∧
    (s.clearLine c).pay = s.pay ∧ (s.clearLine c).clock = s.clock ∧ (s.clearLine c).bell = s.bell ∧
    (s.clearLine c).line = s.line ∧ (s.clearLine c).journal = s.journal ∧ (s.clearLine c).peers = s.peers ∧
    (s.clearLine c).watch = s.watch ∧ (s.clearLine c).control = s.control ∧ (s.clearLine c).port = s.port ∧
    (s.clearLine c).supply = s.supply ∧ (s.clearLine c).inReset = s.inReset ∧ (s.clearLine c).pending = s.pending := by
  simp only [State.clearLine]
  (repeat' split) <;> simp

@[simp] theorem State.clearClock_frame (s : State) (c : FaultCause) :
    (s.clearClock c).badges = s.badges ∧ (s.clearClock c).lanes = s.lanes ∧ (s.clearClock c).inputs = s.inputs ∧
    (s.clearClock c).pay = s.pay ∧ (s.clearClock c).clock = s.clock ∧ (s.clearClock c).bell = s.bell ∧
    (s.clearClock c).line = s.line ∧ (s.clearClock c).journal = s.journal ∧ (s.clearClock c).peers = s.peers ∧
    (s.clearClock c).watch = s.watch ∧ (s.clearClock c).control = s.control ∧ (s.clearClock c).port = s.port ∧
    (s.clearClock c).supply = s.supply ∧ (s.clearClock c).inReset = s.inReset ∧
    (s.clearClock c).pending = s.pending := by
  simp only [State.clearClock]
  (repeat' split) <;> simp

@[simp] theorem State.leaveFault_frame (s : State) (l : Lane) :
    (s.leaveFault l).badges = s.badges ∧ (s.leaveFault l).inputs = s.inputs ∧ (s.leaveFault l).pay = s.pay ∧
    (s.leaveFault l).clock = s.clock ∧ (s.leaveFault l).bell = s.bell ∧ (s.leaveFault l).line = s.line ∧
    (s.leaveFault l).journal = s.journal ∧ (s.leaveFault l).peers = s.peers ∧ (s.leaveFault l).watch = s.watch ∧
    (s.leaveFault l).faults = s.faults ∧ (s.leaveFault l).control = s.control ∧ (s.leaveFault l).port = s.port ∧
    (s.leaveFault l).supply = s.supply ∧ (s.leaveFault l).inReset = s.inReset ∧
    (s.leaveFault l).pending = s.pending := by
  simp only [State.leaveFault]
  (repeat' split) <;> simp

@[simp] theorem State.clearLane_frame (s : State) (l : Lane) (k : LaneFaultKind) :
    (s.clearLane l k).badges = s.badges ∧ (s.clearLane l k).inputs = s.inputs ∧ (s.clearLane l k).pay = s.pay ∧
    (s.clearLane l k).clock = s.clock ∧ (s.clearLane l k).bell = s.bell ∧ (s.clearLane l k).line = s.line ∧
    (s.clearLane l k).journal = s.journal ∧ (s.clearLane l k).peers = s.peers ∧ (s.clearLane l k).watch = s.watch ∧
    (s.clearLane l k).control = s.control ∧ (s.clearLane l k).port = s.port ∧ (s.clearLane l k).supply = s.supply ∧
    (s.clearLane l k).inReset = s.inReset ∧
    (s.clearLane l k).pending = s.pending := by
  simp only [State.clearLane]
  (repeat' split) <;> simp

/-! ## PunchOps -/

@[simp] theorem State.rollOnce_frame (s : State) :
    (s.rollOnce).badges = s.badges ∧ (s.rollOnce).lanes = s.lanes ∧ (s.rollOnce).inputs = s.inputs ∧
    (s.rollOnce).clock = s.clock ∧ (s.rollOnce).bell = s.bell ∧ (s.rollOnce).line = s.line ∧
    (s.rollOnce).journal = s.journal ∧ (s.rollOnce).peers = s.peers ∧ (s.rollOnce).watch = s.watch ∧
    (s.rollOnce).faults = s.faults ∧ (s.rollOnce).control = s.control ∧ (s.rollOnce).supply = s.supply ∧
    (s.rollOnce).inReset = s.inReset ∧
    (s.rollOnce).pending = s.pending := by
  simp [State.rollOnce]

@[simp] theorem State.rollTimes_frame (s : State) (n : Nat) :
    (s.rollTimes n).badges = s.badges ∧ (s.rollTimes n).lanes = s.lanes ∧ (s.rollTimes n).inputs = s.inputs ∧
    (s.rollTimes n).clock = s.clock ∧ (s.rollTimes n).bell = s.bell ∧ (s.rollTimes n).line = s.line ∧
    (s.rollTimes n).journal = s.journal ∧ (s.rollTimes n).peers = s.peers ∧ (s.rollTimes n).watch = s.watch ∧
    (s.rollTimes n).faults = s.faults ∧ (s.rollTimes n).control = s.control ∧ (s.rollTimes n).supply = s.supply ∧
    (s.rollTimes n).inReset = s.inReset ∧
    (s.rollTimes n).pending = s.pending := by
  induction n generalizing s with
  | zero => simp [State.rollTimes]
  | succ n ih => simp [State.rollTimes, ih]

@[simp] theorem State.takeRolls_frame (s : State) :
    (s.takeRolls).badges = s.badges ∧ (s.takeRolls).lanes = s.lanes ∧ (s.takeRolls).inputs = s.inputs ∧
    (s.takeRolls).clock = s.clock ∧ (s.takeRolls).bell = s.bell ∧ (s.takeRolls).line = s.line ∧
    (s.takeRolls).journal = s.journal ∧ (s.takeRolls).peers = s.peers ∧ (s.takeRolls).watch = s.watch ∧
    (s.takeRolls).faults = s.faults ∧ (s.takeRolls).control = s.control ∧ (s.takeRolls).supply = s.supply ∧
    (s.takeRolls).inReset = s.inReset ∧
    (s.takeRolls).pending = s.pending := by
  simp only [State.takeRolls]
  (repeat' split) <;> simp

@[simp] theorem State.earlyRoll_frame (s : State) :
    (s.earlyRoll).badges = s.badges ∧ (s.earlyRoll).lanes = s.lanes ∧ (s.earlyRoll).inputs = s.inputs ∧
    (s.earlyRoll).clock = s.clock ∧ (s.earlyRoll).bell = s.bell ∧ (s.earlyRoll).line = s.line ∧
    (s.earlyRoll).journal = s.journal ∧ (s.earlyRoll).peers = s.peers ∧ (s.earlyRoll).watch = s.watch ∧
    (s.earlyRoll).faults = s.faults ∧ (s.earlyRoll).control = s.control ∧ (s.earlyRoll).supply = s.supply ∧
    (s.earlyRoll).inReset = s.inReset ∧
    (s.earlyRoll).pending = s.pending := by
  simp [State.earlyRoll]

@[simp] theorem State.payPunch_frame (s : State) (n : Nat) (c : Fin 8) (p : PayPunch) :
    (s.payPunch n c p).badges = s.badges ∧ (s.payPunch n c p).lanes = s.lanes ∧ (s.payPunch n c p).inputs = s.inputs ∧
    (s.payPunch n c p).clock = s.clock ∧ (s.payPunch n c p).bell = s.bell ∧ (s.payPunch n c p).line = s.line ∧
    (s.payPunch n c p).journal = s.journal ∧ (s.payPunch n c p).peers = s.peers ∧ (s.payPunch n c p).watch = s.watch ∧
    (s.payPunch n c p).faults = s.faults ∧ (s.payPunch n c p).control = s.control ∧
    (s.payPunch n c p).supply = s.supply ∧ (s.payPunch n c p).inReset = s.inReset ∧
    (s.payPunch n c p).pending = s.pending := by
  simp only [State.payPunch]
  (repeat' split) <;> simp

@[simp] theorem State.countStale_frame (s : State) (p : Option Station) :
    (s.countStale p).lanes = s.lanes ∧ (s.countStale p).inputs = s.inputs ∧ (s.countStale p).pay = s.pay ∧
    (s.countStale p).clock = s.clock ∧ (s.countStale p).bell = s.bell ∧ (s.countStale p).line = s.line ∧
    (s.countStale p).journal = s.journal ∧ (s.countStale p).watch = s.watch ∧ (s.countStale p).faults = s.faults ∧
    (s.countStale p).control = s.control ∧ (s.countStale p).port = s.port ∧ (s.countStale p).supply = s.supply ∧
    (s.countStale p).inReset = s.inReset ∧
    (s.countStale p).pending = s.pending := by
  simp only [State.countStale]
  cases p <;> simp

@[simp] theorem State.countStranger_frame (s : State) (p : Option Station) :
    (s.countStranger p).lanes = s.lanes ∧ (s.countStranger p).inputs = s.inputs ∧ (s.countStranger p).pay = s.pay ∧
    (s.countStranger p).clock = s.clock ∧ (s.countStranger p).bell = s.bell ∧ (s.countStranger p).line = s.line ∧
    (s.countStranger p).journal = s.journal ∧ (s.countStranger p).watch = s.watch ∧
    (s.countStranger p).faults = s.faults ∧ (s.countStranger p).control = s.control ∧
    (s.countStranger p).port = s.port ∧ (s.countStranger p).supply = s.supply ∧
    (s.countStranger p).inReset = s.inReset ∧
    (s.countStranger p).pending = s.pending := by
  simp only [State.countStranger]
  cases p <;> simp

@[simp] theorem State.applyPresence_frame (s : State) (b : Nat) (d : Direction) (t : Nat) (p : Option Station) :
    (s.applyPresence b d t p).lanes = s.lanes ∧ (s.applyPresence b d t p).inputs = s.inputs ∧
    (s.applyPresence b d t p).pay = s.pay ∧ (s.applyPresence b d t p).clock = s.clock ∧
    (s.applyPresence b d t p).bell = s.bell ∧ (s.applyPresence b d t p).line = s.line ∧
    (s.applyPresence b d t p).journal = s.journal ∧ (s.applyPresence b d t p).watch = s.watch ∧
    (s.applyPresence b d t p).faults = s.faults ∧ (s.applyPresence b d t p).control = s.control ∧
    (s.applyPresence b d t p).port = s.port ∧ (s.applyPresence b d t p).supply = s.supply ∧
    (s.applyPresence b d t p).inReset = s.inReset ∧
    (s.applyPresence b d t p).pending = s.pending := by
  simp only [State.applyPresence]
  (repeat' split) <;> simp

@[simp] theorem State.handPay_frame (s : State) (b : Nat) (p : PayPunch) :
    (s.handPay b p).badges = s.badges ∧ (s.handPay b p).lanes = s.lanes ∧ (s.handPay b p).inputs = s.inputs ∧
    (s.handPay b p).clock = s.clock ∧ (s.handPay b p).bell = s.bell ∧ (s.handPay b p).line = s.line ∧
    (s.handPay b p).journal = s.journal ∧ (s.handPay b p).peers = s.peers ∧ (s.handPay b p).watch = s.watch ∧
    (s.handPay b p).faults = s.faults ∧ (s.handPay b p).control = s.control ∧ (s.handPay b p).supply = s.supply ∧
    (s.handPay b p).inReset = s.inReset ∧
    (s.handPay b p).pending = s.pending := by
  simp only [State.handPay]
  (repeat' split) <;> simp

@[simp] theorem State.journalPunch_frame (s : State) (l : Lane) (b : Nat) (d : Direction) (o : PunchOutcome) (t : Nat) (e : BitVec 8) :
    (s.journalPunch l b d o t e).badges = s.badges ∧ (s.journalPunch l b d o t e).lanes = s.lanes ∧
    (s.journalPunch l b d o t e).inputs = s.inputs ∧ (s.journalPunch l b d o t e).pay = s.pay ∧
    (s.journalPunch l b d o t e).clock = s.clock ∧ (s.journalPunch l b d o t e).bell = s.bell ∧
    (s.journalPunch l b d o t e).peers = s.peers ∧ (s.journalPunch l b d o t e).faults = s.faults ∧
    (s.journalPunch l b d o t e).control = s.control ∧ (s.journalPunch l b d o t e).port = s.port ∧
    (s.journalPunch l b d o t e).supply = s.supply ∧ (s.journalPunch l b d o t e).inReset = s.inReset ∧
    (s.journalPunch l b d o t e).pending = s.pending := by
  simp only [State.journalPunch]
  (repeat' split) <;> simp

@[simp] theorem State.ownPunch_frame (s : State) (l : Lane) (b : Nat) (d : Direction) (o : PunchOutcome) (x : Bool) :
    (s.ownPunch l b d o x).lanes = s.lanes ∧ (s.ownPunch l b d o x).inputs = s.inputs ∧
    (s.ownPunch l b d o x).clock = s.clock ∧ (s.ownPunch l b d o x).bell = s.bell ∧
    (s.ownPunch l b d o x).faults = s.faults ∧ (s.ownPunch l b d o x).control = s.control ∧
    (s.ownPunch l b d o x).supply = s.supply ∧ (s.ownPunch l b d o x).inReset = s.inReset ∧
    (s.ownPunch l b d o x).pending = s.pending := by
  simp [State.ownPunch]

/-! ## WatchOps -/

@[simp] theorem State.evacuateLane_frame (s : State) (l : Lane) :
    (s.evacuateLane l).badges = s.badges ∧ (s.evacuateLane l).inputs = s.inputs ∧ (s.evacuateLane l).pay = s.pay ∧
    (s.evacuateLane l).clock = s.clock ∧ (s.evacuateLane l).bell = s.bell ∧ (s.evacuateLane l).line = s.line ∧
    (s.evacuateLane l).journal = s.journal ∧ (s.evacuateLane l).peers = s.peers ∧
    (s.evacuateLane l).faults = s.faults ∧ (s.evacuateLane l).control = s.control ∧ (s.evacuateLane l).port = s.port ∧
    (s.evacuateLane l).supply = s.supply ∧ (s.evacuateLane l).inReset = s.inReset ∧
    (s.evacuateLane l).pending = s.pending := by
  simp only [State.evacuateLane]
  (repeat' split) <;> simp

@[simp] theorem State.enterEvacuate_frame (s : State) (r : EvacReason) :
    (s.enterEvacuate r).badges = s.badges ∧ (s.enterEvacuate r).inputs = s.inputs ∧ (s.enterEvacuate r).pay = s.pay ∧
    (s.enterEvacuate r).clock = s.clock ∧ (s.enterEvacuate r).journal = s.journal ∧
    (s.enterEvacuate r).peers = s.peers ∧ (s.enterEvacuate r).faults = s.faults ∧ (s.enterEvacuate r).port = s.port ∧
    (s.enterEvacuate r).supply = s.supply ∧ (s.enterEvacuate r).inReset = s.inReset ∧
    (s.enterEvacuate r).pending = s.pending := by
  simp [State.enterEvacuate, Lane.all]

@[simp] theorem State.releaseLane_frame (s : State) (l : Lane) :
    (s.releaseLane l).badges = s.badges ∧ (s.releaseLane l).inputs = s.inputs ∧ (s.releaseLane l).pay = s.pay ∧
    (s.releaseLane l).clock = s.clock ∧ (s.releaseLane l).bell = s.bell ∧ (s.releaseLane l).line = s.line ∧
    (s.releaseLane l).journal = s.journal ∧ (s.releaseLane l).peers = s.peers ∧ (s.releaseLane l).faults = s.faults ∧
    (s.releaseLane l).control = s.control ∧ (s.releaseLane l).port = s.port ∧ (s.releaseLane l).supply = s.supply ∧
    (s.releaseLane l).inReset = s.inReset ∧
    (s.releaseLane l).pending = s.pending := by
  simp only [State.releaseLane]
  (repeat' split) <;> simp

@[simp] theorem State.leaveEvacuate_frame (s : State) (p : Option Station) :
    (s.leaveEvacuate p).badges = s.badges ∧ (s.leaveEvacuate p).inputs = s.inputs ∧ (s.leaveEvacuate p).pay = s.pay ∧
    (s.leaveEvacuate p).clock = s.clock ∧ (s.leaveEvacuate p).line = s.line ∧
    (s.leaveEvacuate p).journal = s.journal ∧ (s.leaveEvacuate p).faults = s.faults ∧
    (s.leaveEvacuate p).port = s.port ∧ (s.leaveEvacuate p).supply = s.supply ∧
    (s.leaveEvacuate p).inReset = s.inReset ∧
    (s.leaveEvacuate p).pending = s.pending := by
  simp only [State.leaveEvacuate, Lane.all, List.foldl]
  (repeat' split) <;> simp

@[simp] theorem State.watchEvacuate_frame (s : State) :
    (s.watchEvacuate).badges = s.badges ∧ (s.watchEvacuate).inputs = s.inputs ∧ (s.watchEvacuate).pay = s.pay ∧
    (s.watchEvacuate).clock = s.clock ∧ (s.watchEvacuate).journal = s.journal ∧ (s.watchEvacuate).peers = s.peers ∧
    (s.watchEvacuate).faults = s.faults ∧ (s.watchEvacuate).port = s.port ∧ (s.watchEvacuate).supply = s.supply ∧
    (s.watchEvacuate).inReset = s.inReset ∧
    (s.watchEvacuate).pending = s.pending := by
  simp only [State.watchEvacuate]
  (repeat' split) <;> simp

@[simp] theorem State.watchHoldLane_frame (s : State) (r : RuleNo) (e : LaneEvent) :
    (s.watchHoldLane r e).badges = s.badges ∧ (s.watchHoldLane r e).inputs = s.inputs ∧
    (s.watchHoldLane r e).pay = s.pay ∧ (s.watchHoldLane r e).clock = s.clock ∧ (s.watchHoldLane r e).bell = s.bell ∧
    (s.watchHoldLane r e).line = s.line ∧ (s.watchHoldLane r e).journal = s.journal ∧
    (s.watchHoldLane r e).peers = s.peers ∧ (s.watchHoldLane r e).watch = s.watch ∧
    (s.watchHoldLane r e).faults = s.faults ∧ (s.watchHoldLane r e).port = s.port ∧
    (s.watchHoldLane r e).supply = s.supply ∧ (s.watchHoldLane r e).inReset = s.inReset ∧
    (s.watchHoldLane r e).pending = s.pending := by
  simp only [State.watchHoldLane]
  (repeat' split) <;> simp

@[simp] theorem State.watchAction_frame (s : State) (r : RuleNo) (e : LaneEvent) (a : WatchAction) :
    (s.watchAction r e a).badges = s.badges ∧ (s.watchAction r e a).inputs = s.inputs ∧
    (s.watchAction r e a).pay = s.pay ∧ (s.watchAction r e a).clock = s.clock ∧
    (s.watchAction r e a).journal = s.journal ∧ (s.watchAction r e a).peers = s.peers ∧
    (s.watchAction r e a).faults = s.faults ∧ (s.watchAction r e a).port = s.port ∧
    (s.watchAction r e a).supply = s.supply ∧ (s.watchAction r e a).inReset = s.inReset ∧
    (s.watchAction r e a).pending = s.pending := by
  simp only [State.watchAction]
  cases a <;> simp

@[simp] theorem State.trip_frame (s : State) (r : RuleNo) (e : LaneEvent) :
    (s.trip r e).badges = s.badges ∧ (s.trip r e).inputs = s.inputs ∧ (s.trip r e).pay = s.pay ∧
    (s.trip r e).clock = s.clock ∧ (s.trip r e).journal = s.journal ∧ (s.trip r e).peers = s.peers ∧
    (s.trip r e).faults = s.faults ∧ (s.trip r e).port = s.port ∧ (s.trip r e).supply = s.supply ∧
    (s.trip r e).inReset = s.inReset ∧
    (s.trip r e).pending = s.pending := by
  simp [State.trip]

@[simp] theorem State.occurrence_frame (s : State) (r : RuleNo) (e : LaneEvent) :
    (s.occurrence r e).badges = s.badges ∧ (s.occurrence r e).inputs = s.inputs ∧ (s.occurrence r e).pay = s.pay ∧
    (s.occurrence r e).clock = s.clock ∧ (s.occurrence r e).journal = s.journal ∧ (s.occurrence r e).peers = s.peers ∧
    (s.occurrence r e).faults = s.faults ∧ (s.occurrence r e).port = s.port ∧ (s.occurrence r e).supply = s.supply ∧
    (s.occurrence r e).inReset = s.inReset ∧
    (s.occurrence r e).pending = s.pending := by
  simp only [State.occurrence]
  (repeat' split) <;> simp

@[simp] theorem State.matchSequence_frame (s : State) (r : RuleNo) (e : LaneEvent) (a b : Bool) :
    (s.matchSequence r e a b).badges = s.badges ∧ (s.matchSequence r e a b).inputs = s.inputs ∧
    (s.matchSequence r e a b).pay = s.pay ∧ (s.matchSequence r e a b).clock = s.clock ∧
    (s.matchSequence r e a b).journal = s.journal ∧ (s.matchSequence r e a b).peers = s.peers ∧
    (s.matchSequence r e a b).faults = s.faults ∧ (s.matchSequence r e a b).port = s.port ∧
    (s.matchSequence r e a b).supply = s.supply ∧ (s.matchSequence r e a b).inReset = s.inReset ∧
    (s.matchSequence r e a b).pending = s.pending := by
  simp only [State.matchSequence]
  (repeat' split) <;> simp

@[simp] theorem State.matchRule_frame (s : State) (r : RuleNo) (e : LaneEvent) :
    (s.matchRule r e).badges = s.badges ∧ (s.matchRule r e).inputs = s.inputs ∧ (s.matchRule r e).pay = s.pay ∧
    (s.matchRule r e).clock = s.clock ∧ (s.matchRule r e).journal = s.journal ∧ (s.matchRule r e).peers = s.peers ∧
    (s.matchRule r e).faults = s.faults ∧ (s.matchRule r e).port = s.port ∧ (s.matchRule r e).supply = s.supply ∧
    (s.matchRule r e).inReset = s.inReset ∧
    (s.matchRule r e).pending = s.pending := by
  simp only [State.matchRule]
  (repeat' split) <;> simp

@[simp] theorem State.takeEvent_frame (s : State) (e : LaneEvent) :
    (s.takeEvent e).badges = s.badges ∧ (s.takeEvent e).inputs = s.inputs ∧ (s.takeEvent e).pay = s.pay ∧
    (s.takeEvent e).clock = s.clock ∧ (s.takeEvent e).journal = s.journal ∧ (s.takeEvent e).peers = s.peers ∧
    (s.takeEvent e).faults = s.faults ∧ (s.takeEvent e).port = s.port ∧ (s.takeEvent e).supply = s.supply ∧
    (s.takeEvent e).inReset = s.inReset ∧
    (s.takeEvent e).pending = s.pending := by
  simp only [State.takeEvent, RuleNo.all, List.foldl]
  (repeat' split) <;> simp

@[simp] theorem State.takeEvents_frame (s : State) (n : Nat) :
    (s.takeEvents n).badges = s.badges ∧ (s.takeEvents n).inputs = s.inputs ∧ (s.takeEvents n).pay = s.pay ∧
    (s.takeEvents n).clock = s.clock ∧ (s.takeEvents n).journal = s.journal ∧ (s.takeEvents n).peers = s.peers ∧
    (s.takeEvents n).faults = s.faults ∧ (s.takeEvents n).port = s.port ∧ (s.takeEvents n).supply = s.supply ∧
    (s.takeEvents n).inReset = s.inReset ∧
    (s.takeEvents n).pending = s.pending := by
  induction n generalizing s with
  | zero => simp [State.takeEvents]
  | succ n ih =>
    simp only [State.takeEvents]
    split
    · simp
    · simp [ih]

@[simp] theorem State.settleEvents_frame (s : State) :
    (s.settleEvents).badges = s.badges ∧ (s.settleEvents).inputs = s.inputs ∧ (s.settleEvents).pay = s.pay ∧
    (s.settleEvents).clock = s.clock ∧ (s.settleEvents).journal = s.journal ∧ (s.settleEvents).peers = s.peers ∧
    (s.settleEvents).faults = s.faults ∧ (s.settleEvents).port = s.port ∧ (s.settleEvents).supply = s.supply ∧
    (s.settleEvents).inReset = s.inReset ∧
    (s.settleEvents).pending = s.pending := by
  simp [State.settleEvents]

/-! ## ClockOps -/

@[simp] theorem State.correctOffsets_frame (s : State) (d : Int) :
    (s.correctOffsets d).badges = s.badges ∧ (s.correctOffsets d).lanes = s.lanes ∧
    (s.correctOffsets d).inputs = s.inputs ∧ (s.correctOffsets d).pay = s.pay ∧ (s.correctOffsets d).clock = s.clock ∧
    (s.correctOffsets d).bell = s.bell ∧ (s.correctOffsets d).line = s.line ∧
    (s.correctOffsets d).journal = s.journal ∧ (s.correctOffsets d).watch = s.watch ∧
    (s.correctOffsets d).faults = s.faults ∧ (s.correctOffsets d).control = s.control ∧
    (s.correctOffsets d).port = s.port ∧ (s.correctOffsets d).supply = s.supply ∧
    (s.correctOffsets d).inReset = s.inReset ∧
    (s.correctOffsets d).pending = s.pending := by
  simp [State.correctOffsets]

@[simp] theorem State.clearOffsets_frame (s : State) :
    (s.clearOffsets).badges = s.badges ∧ (s.clearOffsets).lanes = s.lanes ∧ (s.clearOffsets).inputs = s.inputs ∧
    (s.clearOffsets).pay = s.pay ∧ (s.clearOffsets).clock = s.clock ∧ (s.clearOffsets).bell = s.bell ∧
    (s.clearOffsets).line = s.line ∧ (s.clearOffsets).journal = s.journal ∧ (s.clearOffsets).watch = s.watch ∧
    (s.clearOffsets).faults = s.faults ∧ (s.clearOffsets).control = s.control ∧ (s.clearOffsets).port = s.port ∧
    (s.clearOffsets).supply = s.supply ∧ (s.clearOffsets).inReset = s.inReset ∧
    (s.clearOffsets).pending = s.pending := by
  simp [State.clearOffsets]

@[simp] theorem State.clearOffset_frame (s : State) (p : Station) :
    (s.clearOffset p).badges = s.badges ∧ (s.clearOffset p).lanes = s.lanes ∧ (s.clearOffset p).inputs = s.inputs ∧
    (s.clearOffset p).pay = s.pay ∧ (s.clearOffset p).clock = s.clock ∧ (s.clearOffset p).bell = s.bell ∧
    (s.clearOffset p).line = s.line ∧ (s.clearOffset p).journal = s.journal ∧ (s.clearOffset p).watch = s.watch ∧
    (s.clearOffset p).faults = s.faults ∧ (s.clearOffset p).control = s.control ∧ (s.clearOffset p).port = s.port ∧
    (s.clearOffset p).supply = s.supply ∧ (s.clearOffset p).inReset = s.inReset ∧
    (s.clearOffset p).pending = s.pending := by
  simp [State.clearOffset]

@[simp] theorem State.countTimers_frame (s : State) :
    (s.countTimers).badges = s.badges ∧ (s.countTimers).inputs = s.inputs ∧ (s.countTimers).pay = s.pay ∧
    (s.countTimers).clock = s.clock ∧ (s.countTimers).journal = s.journal ∧ (s.countTimers).faults = s.faults ∧
    (s.countTimers).port = s.port ∧ (s.countTimers).inReset = s.inReset ∧ (s.countTimers).pending = s.pending := by
  simp only [State.countTimers]
  (repeat' split) <;> simp

@[simp] theorem State.sixteenth_frame (s : State) :
    (s.sixteenth).badges = s.badges ∧ (s.sixteenth).inputs = s.inputs ∧ (s.sixteenth).pay = s.pay ∧
    (s.sixteenth).journal = s.journal ∧ (s.sixteenth).faults = s.faults ∧ (s.sixteenth).port = s.port ∧
    (s.sixteenth).inReset = s.inReset ∧ (s.sixteenth).pending = s.pending := by
  simp only [State.sixteenth]
  (repeat' split) <;> simp

@[simp] theorem State.sixteenthTimes_frame (s : State) (n : Nat) :
    (s.sixteenthTimes n).badges = s.badges ∧ (s.sixteenthTimes n).inputs = s.inputs ∧
    (s.sixteenthTimes n).pay = s.pay ∧ (s.sixteenthTimes n).journal = s.journal ∧
    (s.sixteenthTimes n).faults = s.faults ∧ (s.sixteenthTimes n).port = s.port ∧
    (s.sixteenthTimes n).inReset = s.inReset ∧ (s.sixteenthTimes n).pending = s.pending := by
  induction n generalizing s with
  | zero => simp [State.sixteenthTimes]
  | succ n ih => simp [State.sixteenthTimes, ih]

@[simp] theorem State.countSecond_frame (s : State) :
    (s.countSecond).badges = s.badges ∧ (s.countSecond).inputs = s.inputs ∧ (s.countSecond).pay = s.pay ∧
    (s.countSecond).journal = s.journal ∧ (s.countSecond).faults = s.faults ∧ (s.countSecond).port = s.port ∧
    (s.countSecond).inReset = s.inReset ∧ (s.countSecond).pending = s.pending := by
  simp [State.countSecond]

@[simp] theorem State.markEnd_frame (s : State) :
    (s.markEnd).badges = s.badges ∧ (s.markEnd).inputs = s.inputs ∧ (s.markEnd).pay = s.pay ∧
    (s.markEnd).line = s.line ∧ (s.markEnd).journal = s.journal ∧ (s.markEnd).peers = s.peers ∧
    (s.markEnd).port = s.port ∧ (s.markEnd).supply = s.supply ∧ (s.markEnd).inReset = s.inReset ∧
    (s.markEnd).pending = s.pending := by
  simp only [State.markEnd]
  (repeat' split) <;> simp

@[simp] theorem State.stepTo_frame (s : State) (t : Int) :
    (s.stepTo t).badges = s.badges ∧ (s.stepTo t).inputs = s.inputs ∧ (s.stepTo t).journal = s.journal ∧
    (s.stepTo t).peers = s.peers ∧ (s.stepTo t).supply = s.supply ∧ (s.stepTo t).inReset = s.inReset ∧
    (s.stepTo t).pending = s.pending := by
  simp only [State.stepTo]
  (repeat' split) <;> simp

@[simp] theorem State.changeEra_frame (s : State) (t : Int) :
    (s.changeEra t).badges = s.badges ∧ (s.changeEra t).inputs = s.inputs ∧ (s.changeEra t).journal = s.journal ∧
    (s.changeEra t).supply = s.supply ∧ (s.changeEra t).inReset = s.inReset ∧ (s.changeEra t).pending = s.pending := by
  simp [State.changeEra]

@[simp] theorem State.takeAgreement_frame (s : State) (n : Nat) :
    (s.takeAgreement n).badges = s.badges ∧ (s.takeAgreement n).inputs = s.inputs ∧
    (s.takeAgreement n).journal = s.journal ∧ (s.takeAgreement n).supply = s.supply ∧
    (s.takeAgreement n).inReset = s.inReset ∧
    (s.takeAgreement n).pending = s.pending := by
  simp only [State.takeAgreement]
  (repeat' split) <;> simp

/-! ## LineOps -/

@[simp] theorem State.leavePlace_frame (s : State) (h : InHand) :
    (s.leavePlace h).badges = s.badges ∧ (s.leavePlace h).lanes = s.lanes ∧ (s.leavePlace h).inputs = s.inputs ∧
    (s.leavePlace h).pay = s.pay ∧ (s.leavePlace h).clock = s.clock ∧ (s.leavePlace h).bell = s.bell ∧
    (s.leavePlace h).peers = s.peers ∧ (s.leavePlace h).watch = s.watch ∧ (s.leavePlace h).faults = s.faults ∧
    (s.leavePlace h).control = s.control ∧ (s.leavePlace h).port = s.port ∧ (s.leavePlace h).supply = s.supply ∧
    (s.leavePlace h).inReset = s.inReset ∧
    (s.leavePlace h).pending = s.pending := by
  simp only [State.leavePlace]
  (repeat' split) <;> simp

@[simp] theorem State.sentWhole_frame (s : State) (x : Sending) :
    (s.sentWhole x).badges = s.badges ∧ (s.sentWhole x).lanes = s.lanes ∧ (s.sentWhole x).inputs = s.inputs ∧
    (s.sentWhole x).pay = s.pay ∧ (s.sentWhole x).clock = s.clock ∧ (s.sentWhole x).bell = s.bell ∧
    (s.sentWhole x).watch = s.watch ∧ (s.sentWhole x).control = s.control ∧ (s.sentWhole x).port = s.port ∧
    (s.sentWhole x).supply = s.supply ∧ (s.sentWhole x).inReset = s.inReset ∧ (s.sentWhole x).pending = s.pending := by
  simp [State.sentWhole]

@[simp] theorem State.dropFrame_frame (s : State) (x : Sending) :
    (s.dropFrame x).badges = s.badges ∧ (s.dropFrame x).inputs = s.inputs ∧ (s.dropFrame x).pay = s.pay ∧
    (s.dropFrame x).clock = s.clock ∧ (s.dropFrame x).port = s.port ∧ (s.dropFrame x).supply = s.supply ∧
    (s.dropFrame x).inReset = s.inReset ∧
    (s.dropFrame x).pending = s.pending := by
  simp only [State.dropFrame]
  (repeat' split) <;> simp

@[simp] theorem State.collide_frame (s : State) (x : Sending) :
    (s.collide x).badges = s.badges ∧ (s.collide x).inputs = s.inputs ∧ (s.collide x).pay = s.pay ∧
    (s.collide x).clock = s.clock ∧ (s.collide x).port = s.port ∧ (s.collide x).supply = s.supply ∧
    (s.collide x).inReset = s.inReset ∧
    (s.collide x).pending = s.pending := by
  simp only [State.collide]
  (repeat' split) <;> simp

/-! ## PortOps -/

@[simp] theorem State.load_frame (s : State) (r : Request) :
    (s.load r).badges = s.badges ∧ (s.load r).lanes = s.lanes ∧ (s.load r).inputs = s.inputs ∧
    (s.load r).pay = s.pay ∧ (s.load r).clock = s.clock ∧ (s.load r).bell = s.bell ∧ (s.load r).line = s.line ∧
    (s.load r).journal = s.journal ∧ (s.load r).peers = s.peers ∧ (s.load r).watch = s.watch ∧
    (s.load r).faults = s.faults ∧ (s.load r).control = s.control ∧ (s.load r).supply = s.supply ∧
    (s.load r).inReset = s.inReset ∧
    (s.load r).pending = s.pending := by
  simp only [State.load]
  (repeat' split) <;> simp

@[simp] theorem State.answer_frame (s : State) (c : ResultCode) :
    (s.answer c).badges = s.badges ∧ (s.answer c).lanes = s.lanes ∧ (s.answer c).inputs = s.inputs ∧
    (s.answer c).pay = s.pay ∧ (s.answer c).clock = s.clock ∧ (s.answer c).bell = s.bell ∧
    (s.answer c).line = s.line ∧ (s.answer c).journal = s.journal ∧ (s.answer c).peers = s.peers ∧
    (s.answer c).watch = s.watch ∧ (s.answer c).faults = s.faults ∧ (s.answer c).control = s.control ∧
    (s.answer c).supply = s.supply ∧ (s.answer c).inReset = s.inReset ∧ (s.answer c).pending = s.pending := by
  simp [State.answer]

@[simp] theorem State.answerData_frame (s : State) (c : ResultCode) (b : List Byte) :
    (s.answerData c b).badges = s.badges ∧ (s.answerData c b).lanes = s.lanes ∧ (s.answerData c b).inputs = s.inputs ∧
    (s.answerData c b).pay = s.pay ∧ (s.answerData c b).clock = s.clock ∧ (s.answerData c b).bell = s.bell ∧
    (s.answerData c b).line = s.line ∧ (s.answerData c b).journal = s.journal ∧ (s.answerData c b).peers = s.peers ∧
    (s.answerData c b).watch = s.watch ∧ (s.answerData c b).faults = s.faults ∧
    (s.answerData c b).control = s.control ∧ (s.answerData c b).supply = s.supply ∧
    (s.answerData c b).inReset = s.inReset ∧
    (s.answerData c b).pending = s.pending := by
  simp [State.answerData]

@[simp] theorem State.answerReply_frame (s : State) (c : ResultCode) (r : Reply) :
    (s.answerReply c r).badges = s.badges ∧ (s.answerReply c r).lanes = s.lanes ∧
    (s.answerReply c r).inputs = s.inputs ∧ (s.answerReply c r).pay = s.pay ∧ (s.answerReply c r).clock = s.clock ∧
    (s.answerReply c r).bell = s.bell ∧ (s.answerReply c r).line = s.line ∧ (s.answerReply c r).journal = s.journal ∧
    (s.answerReply c r).peers = s.peers ∧ (s.answerReply c r).watch = s.watch ∧
    (s.answerReply c r).faults = s.faults ∧ (s.answerReply c r).control = s.control ∧
    (s.answerReply c r).supply = s.supply ∧ (s.answerReply c r).inReset = s.inReset ∧
    (s.answerReply c r).pending = s.pending := by
  simp [State.answerReply]

end Sys2Proof.Machine
end

