-- ==== Sys2Proof/Laws/PerInstr.lean ====
section
/-! SUPPORT. One fact for each command of the table: no row of the table gives bits, so no word spells a command. -/

namespace Sys2Proof.Laws.Table

/-- No word spells the command. -/
def Statement (i : Instr) : Prop := ∀ nbits w : Nat, decodeTableWord nbits w ≠ some i

/-- A word that spells no command spells none in particular. -/
theorem no_word (i : Instr) : Statement i := fun _ _ h => by simp [decodeTableWord] at h

theorem setWord (w : SetWordBlock) : Statement (.setWord w) := no_word _
theorem loadClass (a : BitVec 16) (c : ClassBlock) : Statement (.loadClass a c) := no_word _
theorem loadBell (a : BitVec 16) (e : BellBlock) : Statement (.loadBell a e) := no_word _
theorem loadPattern (a : BitVec 16) (p : PatternBlock) : Statement (.loadPattern a p) := no_word _
theorem loadRule (a : BitVec 16) (r : RuleBlock) : Statement (.loadRule a r) := no_word _
theorem setTime (time : BitVec 32) (era : BitVec 8) : Statement (.setTime time era) := no_word _
theorem ready : Statement .ready := no_word _
theorem badgePut (b : BadgeBlock) : Statement (.badgePut b) := no_word _
theorem badgeDrop (force : BitVec 16) (badge : BitVec 24) : Statement (.badgeDrop force badge) := no_word _
theorem badgeRead (a : BitVec 16) (badge : BitVec 24) : Statement (.badgeRead a badge) := no_word _
theorem musterRead (a : BitVec 16) : Statement (.musterRead a) := no_word _
theorem payRead (a : BitVec 16) (badge : BitVec 24) : Statement (.payRead a badge) := no_word _
theorem periodClose : Statement .periodClose := no_word _
theorem traceMark : Statement .traceMark := no_word _
theorem traceRead : Statement .traceRead := no_word _
theorem incidentTake : Statement .incidentTake := no_word _
theorem statusRead (a b : BitVec 16) : Statement (.statusRead a b) := no_word _
theorem peerRead (a : BitVec 16) : Statement (.peerRead a) := no_word _
theorem hold (a : BitVec 16) : Statement (.hold a) := no_word _
theorem resume : Statement .resume := no_word _
theorem arm (a : BitVec 16) : Statement (.arm a) := no_word _
theorem disarm (a : BitVec 16) : Statement (.disarm a) := no_word _
theorem passbackMode (a : BitVec 16) : Statement (.passbackMode a) := no_word _
theorem evacuate : Statement .evacuate := no_word _
theorem allClear : Statement .allClear := no_word _
theorem shiftTime (a : BitVec 16) : Statement (.shiftTime a) := no_word _
theorem attentionRead : Statement .attentionRead := no_word _
theorem unknownCommand (code : Byte) : Statement (.unknownCommand code) := no_word _
theorem mailboxWrite (address : Byte) (bytes : List Byte) : Statement (.mailboxWrite address bytes) := no_word _
theorem overrun (addr : BitVec 7) (byte : Byte) : Statement (.overrun addr byte) := no_word _
theorem fullReset : Statement .fullReset := no_word _
theorem supplyFailure : Statement .supplyFailure := no_word _
theorem supplyReturn : Statement .supplyReturn := no_word _
theorem backupLoss : Statement .backupLoss := no_word _
theorem readerFrame (l : Lane) (chars : List ReaderChar) : Statement (.readerFrame l chars) := no_word _
theorem readerBreakSecond (l : Lane) : Statement (.readerBreakSecond l) := no_word _
theorem inputLevelChange (i : Input) (level : Bool) : Statement (.inputLevelChange i level) := no_word _
theorem debounceExpiry (i : LaneInput) : Statement (.debounceExpiry i) := no_word _
theorem firstLevelFound (i : DebouncedInput) : Statement (.firstLevelFound i) := no_word _
theorem evacContactEdge : Statement .evacContactEdge := no_word _
theorem senseCheckExpiry (l : Lane) : Statement (.senseCheckExpiry l) := no_word _
theorem releaseTimerExpiry (l : Lane) : Statement (.releaseTimerExpiry l) := no_word _
theorem heldOpenExpiry (l : Lane) : Statement (.heldOpenExpiry l) := no_word _
theorem evacReadExpiry (l : Lane) : Statement (.evacReadExpiry l) := no_word _
theorem clockSecond : Statement .clockSecond := no_word _
theorem clockEndReached : Statement .clockEndReached := no_word _
theorem endHoldSecond : Statement .endHoldSecond := no_word _
theorem oscillatorStop : Statement .oscillatorStop := no_word _
theorem degradedSecond : Statement .degradedSecond := no_word _
theorem ringInstant (entry : Fin 48) : Statement (.ringInstant entry) := no_word _
theorem dayRoll : Statement .dayRoll := no_word _
theorem doubtEnd : Statement .doubtEnd := no_word _
theorem beaconTime : Statement .beaconTime := no_word _
theorem endOfJoin : Statement .endOfJoin := no_word _
theorem peerSilence (peer : Station) : Statement (.peerSilence peer) := no_word _
theorem clashTimerExpiry : Statement .clashTimerExpiry := no_word _
theorem windowExpiry (r : RuleNo) : Statement (.windowExpiry r) := no_word _
theorem punch (f : PunchFrame) : Statement (.punch f) := no_word _
theorem beacon (f : BeaconFrame) : Statement (.beacon f) := no_word _
theorem bellCue (f : CueFrame) : Statement (.bellCue f) := no_word _
theorem clear (f : ClearFrame) : Statement (.clear f) := no_word _
theorem allClearFrame (source : Station) : Statement (.allClearFrame source) := no_word _
theorem lineError (run : LineRun) : Statement (.lineError run) := no_word _
theorem numberClash (f : Frame) : Statement (.numberClash f) := no_word _
theorem deferralStart : Statement .deferralStart := no_word _
theorem yield : Statement .yield := no_word _
theorem deferralEnd : Statement .deferralEnd := no_word _
theorem sentWhole : Statement .sentWhole := no_word _
theorem collision : Statement .collision := no_word _
theorem patternPhaseEnd : Statement .patternPhaseEnd := no_word _
theorem patternComplete : Statement .patternComplete := no_word _
theorem resetRelease : Statement .resetRelease := no_word _

end Sys2Proof.Laws.Table
end

