-- ==== Sys2Proof/Laws/Port.lean ====
section
/-! SUPPORT. The terminal port: what putting a command in the mailbox and completing it do, and the cases of how a command
is judged. -/

namespace Sys2Proof.Machine

theorem resultByte_toNat (c : ResultCode) (o : Bool) :
    (resultByte c o).toNat = c.code + (if o then 128 else 0) := by
  cases c <;> cases o <;> rfl

/-! ## A command put in the mailbox -/

@[simp] theorem State.load_overrun (s : State) (r : Request) : (s.load r).port.overrun = s.port.overrun := by
  unfold State.load; split <;> rfl

@[simp] theorem State.load_payFlag (s : State) (r : Request) : (s.load r).port.payFlag = s.port.payFlag := by
  unfold State.load; split <;> rfl

@[simp] theorem State.load_unstated (s : State) (r : Request) : (s.load r).port.unstated = s.port.unstated := by
  unfold State.load; split <;> rfl

@[simp] theorem State.load_go (s : State) (r : Request) : (s.load r).port.go = true := by
  unfold State.load; split <;> simp_all

/-- Putting a command in the mailbox changes nothing but the port. -/
theorem State.load_only (s : State) (r : Request) : s.load r = { s with port := (s.load r).port } := by
  unfold State.load; split <;> rfl

/-! ## A command completed -/

/-- Completing a command changes nothing but the port. -/
theorem State.answer_only (s : State) (c : ResultCode) : s.answer c = { s with port := (s.answer c).port } := rfl

/-- A returned block changes nothing but the port. -/
theorem State.answerData_only (s : State) (c : ResultCode) (bytes : List Byte) :
    s.answerData c bytes = { s with port := (s.answerData c bytes).port } := rfl

/-- Returned fields change nothing but the port. -/
theorem State.answerReply_only (s : State) (c : ResultCode) (r : Reply) :
    s.answerReply c r = { s with port := (s.answerReply c r).port } := rfl

@[simp] theorem State.answer_payFlag (s : State) (c : ResultCode) : (s.answer c).port.payFlag = s.port.payFlag := rfl
@[simp] theorem State.answer_data (s : State) (c : ResultCode) : (s.answer c).port.data = s.port.data := rfl
@[simp] theorem State.answerData_payFlag (s : State) (c : ResultCode) (bytes : List Byte) :
    (s.answerData c bytes).port.payFlag = s.port.payFlag := rfl
@[simp] theorem State.answerData_data (s : State) (c : ResultCode) (bytes : List Byte) :
    (s.answerData c bytes).port.data = fillBlock bytes := rfl
@[simp] theorem State.answerReply_payFlag (s : State) (c : ResultCode) (r : Reply) :
    (s.answerReply c r).port.payFlag = s.port.payFlag := rfl
@[simp] theorem State.answerReply_reply (s : State) (c : ResultCode) (r : Reply) :
    (s.answerReply c r).port.reply = r := rfl

/-- A state with the OVERRUN mark of `s` that is answered has completed with the result. -/
theorem completed_answer {s u : State} (c : ResultCode) (h : u.port.overrun = s.port.overrun) :
    Completed s (u.answer c) c :=
  ⟨by rw [← h]; exact resultByte_toNat c u.port.overrun, rfl, rfl⟩

theorem completed_answerData {s u : State} (c : ResultCode) (bytes : List Byte) (h : u.port.overrun = s.port.overrun) :
    Completed s (u.answerData c bytes) c :=
  ⟨by rw [← h]; exact resultByte_toNat c u.port.overrun, rfl, rfl⟩

theorem completed_answerReply {s u : State} (c : ResultCode) (r : Reply) (h : u.port.overrun = s.port.overrun) :
    Completed s (u.answerReply c r) c :=
  ⟨by rw [← h]; exact resultByte_toNat c u.port.overrun, rfl, rfl⟩

/-- A command put in the mailbox and answered has changed nothing else. -/
theorem onlyAnswered_load (s : State) (r : Request) (c : ResultCode) : OnlyAnswered s ((s.load r).answer c) c :=
  ⟨by rw [State.answer_only, State.load_only], by simp, completed_answer c (by simp)⟩

/-! ## How a command is judged -/

/-- What `State.portTakes` says, as the port tests it. -/
theorem State.heeds_iff (s : State) (c : Instr) : s.heeds c = true ↔ s.portTakes c := by
  cases h : s.port.go <;> simp [State.heeds, State.portTakes, h]

theorem State.command_inReset (s : State) (c : Instr) (r : Request) (k : Bool) (t : TakenIn) (act : State → State)
    (h : s.inReset = true) : s.command c r k t act = s := by
  simp [State.command, h]

/-- The writes of a command that comes while another is in flight: OVERRUN alone is set. -/
theorem State.command_discarded (s : State) (c : Instr) (r : Request) (k : Bool) (t : TakenIn) (act : State → State)
    (h : s.inReset = false) (hc : ¬ s.portTakes c) :
    s.command c r k t act = { s with port := { s.port with overrun := true } } := by
  have : s.heeds c = false := by rw [← Bool.not_eq_true, s.heeds_iff]; exact hc
  simp [State.command, h, this, State.discard, State.modPort]

theorem State.command_locked (s : State) (c : Instr) (r : Request) (t : TakenIn) (act : State → State)
    (h : s.inReset = false) (hc : s.portTakes c) (hs : s.station ≠ .setup) :
    s.command c r true t act = (s.load r).answer .locked := by
  simp [State.command, h, (s.heeds_iff c).2 hc, hs]

theorem State.command_refused (s : State) (c : Instr) (r : Request) (t : TakenIn) (act : State → State)
    (h : s.inReset = false) (hc : s.portTakes c) (ht : t.takes s.station = false) :
    s.command c r false t act = (s.load r).answer .notInState := by
  simp [State.command, h, (s.heeds_iff c).2 hc, ht]

theorem State.command_taken (s : State) (c : Instr) (r : Request) (t : TakenIn) (act : State → State)
    (h : s.inReset = false) (hc : s.portTakes c) (ht : t.takes s.station = true) :
    s.command c r false t act = act (s.load r) := by
  simp [State.command, h, (s.heeds_iff c).2 hc, ht]

theorem State.command_setup (s : State) (c : Instr) (r : Request) (act : State → State) (h : s.inReset = false)
    (hc : s.portTakes c) (hs : s.station = .setup) : s.command c r true .setup act = act (s.load r) := by
  simp [State.command, h, (s.heeds_iff c).2 hc, hs, TakenIn.takes]

/-! ## Events outside the terminal port -/

theorem State.event_inReset (s : State) (act : State → State) (h : s.inReset = true) : s.event act = s := by
  simp [State.event, h]

theorem State.event_taken (s : State) (act : State → State) (h : s.inReset = false) : s.event act = act s := by
  simp [State.event, h]

end Sys2Proof.Machine
end

