-- ==== Sys2Proof/Laws/Supply.lean ====
section
/-! SUPPORT. What a full reset and the end of one leave: one lemma for each outcome. -/

namespace Sys2Proof.Machine

/-- A full reset keeps the pins and the waiting commands, and nothing else. -/
@[simp] theorem State.fullReset_kept (s : State) :
    s.fullReset.inputs = s.inputs ∧ s.fullReset.pending = s.pending ∧ s.fullReset.inReset = true ∧
    s.fullReset = { State.reset with inputs := s.inputs, inReset := true, pending := s.pending } :=
  ⟨rfl, rfl, rfl, rfl⟩

/-- A reset ends with its line released and the part under power. -/
theorem State.endReset_ends {s : State} (hr : s.inReset = true) (hl : s.inputs.resetLine = false)
    (hp : s.supply.unpowered = false) :
    s.endReset = { s with inReset := false, supply := s.supply.resetEnd s.inputs.gateLow s.inputs.backupLow } := by
  simp [State.endReset, hr, hl, hp, State.modSupply]

/-- A reset that does not end changes nothing. -/
theorem State.endReset_stays {s : State}
    (h : s.inReset = false ∨ s.inputs.resetLine = true ∨ s.supply.unpowered = true) : s.endReset = s := by
  rcases h with h | h | h <;> simp [State.endReset, h]

/-- Whether a reset ends or not, the reset line and every other pin stand. -/
@[simp] theorem State.endReset_frame (s : State) :
    s.endReset.inputs = s.inputs ∧ s.endReset.pending = s.pending ∧ s.endReset.lanes = s.lanes ∧
    s.endReset.control = s.control ∧ s.endReset.port = s.port ∧ s.endReset.clock = s.clock := by
  unfold State.endReset; split <;> simp

end Sys2Proof.Machine
end

