-- ==== Sys2Proof/Laws/Tables.lean ====
section
/-! SUPPORT. The tables kept by number: what changing one item does to each item and to the length. -/

namespace Sys2Proof.Machine

@[simp] theorem modAt_length {α : Type} (f : α → α) (n : Nat) (xs : List α) : (modAt f n xs).length = xs.length := by
  induction xs generalizing n with
  | nil => simp [modAt]
  | cons x xs ih => cases n <;> simp [modAt, ih]

theorem getD_modAt {α : Type} (f : α → α) (d : α) (n k : Nat) (xs : List α) (h : n < xs.length) :
    (modAt f n xs).getD k d = if k = n then f (xs.getD n d) else xs.getD k d := by
  induction xs generalizing n k with
  | nil => simp at h
  | cons x xs ih =>
    cases n with
    | zero => cases k <;> simp [modAt]
    | succ n =>
      cases k with
      | zero => simp [modAt]
      | succ k => simpa [modAt] using ih n k (by simpa using h)

/-- The entry of a peer after the entry of one peer is changed. -/
theorem State.peer_modPeer (s : State) (p q : Station) (f : PeerEntry → PeerEntry) (h : s.peers.entries.length = 16) :
    (s.modPeer p f).peer q = if q = p then f (s.peer p) else s.peer q := by
  have hp : p.val < s.peers.entries.length := by omega
  simp only [State.peer, State.modPeer, State.modPeers_peers, getD_modAt f _ _ _ _ hp, Fin.ext_iff]

/-- A schedule entry after one is changed. -/
theorem State.bellEntry_modBellEntry (s : State) (e k : Fin 48) (f : BellEntry → BellEntry)
    (h : s.bell.entries.length = 48) :
    (s.modBellEntry e f).bellEntry k = if k = e then f (s.bellEntry e) else s.bellEntry k := by
  have he : e.val < s.bell.entries.length := by omega
  simp only [State.bellEntry, State.modBellEntry, State.modBell_bell, getD_modAt f _ _ _ _ he, Fin.ext_iff]

@[simp] theorem State.modPeer_length (s : State) (p : Station) (f : PeerEntry → PeerEntry) :
    (s.modPeer p f).peers.entries.length = s.peers.entries.length := by
  simp [State.modPeer]

@[simp] theorem State.modBellEntry_length (s : State) (e : Fin 48) (f : BellEntry → BellEntry) :
    (s.modBellEntry e f).bell.entries.length = s.bell.entries.length := by
  simp [State.modBellEntry]

end Sys2Proof.Machine
end

