-- ==== Sys2Proof/Tests/Slice0.lean ====
section
/-! SUPPORT. The tests: ill-formed commands refused, the worked cases of the manual, the codes of the formats, and for each
statement of Sys2Proof/Certificates/Slice0/Obligations.lean a state that meets its hypotheses, with the boundary values of its
ranges. Expected values are the manual's, or worked by hand from its tables. -/

namespace Sys2Proof.Machine.Tests

/-! ## Well-formedness: each check refuses an ill-formed term -/

theorem test_wellFormed_setWord : (Instr.setWord (.undefined 5)).wellFormed = false ∧
    (Instr.setWord (.undefined 6)).wellFormed = true := by decide
theorem test_wellFormed_unknown : (Instr.unknownCommand 0x16).wellFormed = false ∧
    (Instr.unknownCommand 0x17).wellFormed = true := by decide
theorem test_wellFormed_reader : (Instr.readerFrame .lane1 []).wellFormed = false := by decide
theorem test_wellFormed_lineError : (Instr.lineError (.trailing [])).wellFormed = false ∧
    (Instr.lineError (.heard [])).wellFormed = false := by decide

/-- A PUNCH frame of station 2 with a badge number. -/
def punchOf (badge : Nat) (seq : BitVec 8) (dir : Direction) (time : Nat) : PunchFrame :=
  { source := 2, seq, badge := BitVec.ofNat 24 badge, lane := .lane2, direction := dir, outcome := .passed,
    time := BitVec.ofNat 32 time, era := 0 }

theorem test_wellFormed_punch : (Instr.punch (punchOf 0 0 .dirIn 0)).wellFormed = false ∧
    (Instr.numberClash (.punch (punchOf 16777215 0 .dirIn 0))).wellFormed = false ∧
    (Instr.punch (punchOf 16777214 0 .dirIn 0)).wellFormed = true := by decide

/-! ## A small station

Station 5 with the day roll at 04:00; lanes 1 and 2 TURNSTILE on IN, lane 3 DOOR on IN, lane 4 DOOR on OUT; plant day 150,
05:05:00. Badge 40117 is homed here, class 2, STRICT, OUT; badge 51002 is homed at station 2 and IN. -/

/-- A plant time of day 150. -/
def clockAt (hour minute second : Nat) : Nat := 150 * 1382400 + ((hour * 60 + minute) * 60 + second) * 16

/-- The shift class of the worked cases (03 section 3.7, class 2). -/
def dayClass : ShiftClass :=
  { hours := some (360, 870), lead := 60, graceIn := 15, graceLate := 5, graceOut := 10, quantum := 6,
    breakAfter := 360, breakMinutes := 30, t1 := 480, t2 := 600, dayMax := 960, weekly := 2400,
    night := some (1320, 360) }

/-- The lane settings of SW1. -/
def laneSettings : PerLane LaneSetting :=
  { lane1 := ⟨.turnstile, .dirIn, .lock⟩, lane2 := ⟨.turnstile, .dirIn, .lock⟩, lane3 := ⟨.door, .dirIn, .lock⟩,
    lane4 := ⟨.door, .dirOut, .release⟩ }

/-- A fitted lane at rest, its inputs found low. -/
def restLane (kind : LaneKind) : LaneUnit :=
  { LaneUnit.reset with kind, state := .idle, aux := ⟨some false, none⟩, sense := ⟨some false, none⟩ }

/-- The set words. -/
def settings : Control :=
  { State.reset.control with
    station := .live
    sw0 := some { station := 5, weekday := 0, rate := .bps19200 }
    sw1 := some laneSettings
    sw2 := some { limits := .same { release := 6, heldOpen := 30 }, debounce := 2, reread := 3 }
    sw3 := some { beaconInterval := 10, silenceLimit := 60, joinPeriod := 20, doubtHold := 10, latency := 0 }
    sw4 := some { stepThreshold := 160, dayRoll := 240, bellAdvance := 0, cueWindow := 60, evacPattern := 1,
                  alarmPattern := 2 }
    sw5 := some { reader := ⟨1, .actHold⟩, strike := ⟨1, .actNote⟩, doorHeld := ⟨2, .actOpen⟩, line := ⟨1, .actHold⟩,
                  clock := ⟨2, .actAlarm⟩, retention := .essential, journalThreshold := 48 }
    contactFound := true }

/-- Badge 40117. -/
def badgeHere : BadgeEntry :=
  { number := 40117, cls := 2, status := .active, expiry := none, mode := .strict, home := 5, paySlot := some 0,
    presence := { state := .isOut, time := 0, source := none } }

/-- Badge 51002. -/
def badgeAway : BadgeEntry :=
  { number := 51002, cls := 0, status := .active, expiry := none, mode := .soft, home := 2, paySlot := none,
    presence := { state := .isIn, time := 100, source := some 2 } }

/-- The station in LIVE. -/
def live : State :=
  { State.reset with
    badges := { State.reset.badges with entries := [badgeHere, badgeAway], muster := 1 }
    lanes := ⟨restLane .turnstile, restLane .turnstile, restLane .door, restLane .door⟩
    pay := { State.reset.pay with
             classes := [.plain, .plain, dayClass, .plain, .plain, .plain, .plain, .plain]
             records := [(0, .fresh 150)], today := 150 }
    clock := { State.reset.clock with time := clockAt 5 5 0, clockSet := true, countedFrom := clockAt 5 5 0 }
    control := settings }

/-- The small station in a station state. -/
def inState (x : StationState) : State := { live with control := { settings with station := x } }

/-- The small station with one lane unit changed. -/
def withLane (l : Lane) (f : LaneUnit → LaneUnit) : State := live.modLane l f

/-- The state a command leaves. -/
def after (c : Instr) (s : State) : State :=
  match exec c s with
  | .next t => t
  | .fault _ => s
  | .refused _ => s

/-- The result byte a command leaves. -/
def result (c : Instr) (s : State) : Nat := (after c s).port.command.toNat

theorem live_calm : live.calm := ⟨rfl, fun r => by cases r <;> rfl⟩
theorem live_sized : TablesSized live := by unfold TablesSized; decide
theorem live_schedule : ScheduleInRange live := by unfold ScheduleInRange; decide
theorem live_served : live.served := by unfold State.served; decide
theorem live_sends : live.sends := by unfold State.sends; decide
theorem live_releases : ReleasesPlaced live := by intro l; cases l <;> decide
theorem live_drives : DrivesFollow live := by intro l; cases l <;> decide
theorem live_ordered : TableOrdered live ∧ RecordsOrdered live ∧ RecordsSingle live := by
  unfold TableOrdered RecordsOrdered RecordsSingle
  decide

/-! ## The terminal port -/

/-- Witness of StepRunsFront: the front command is run. -/
theorem test_step_front : step { live with pending := [.resume] } = exec .resume live := rfl

/-- Witness of RefusedByState. -/
theorem test_refused_states : (State.reset.inReset = false ∧ refusedIn .evacuate State.reset.station = some .notInState) ∧
    result .evacuate State.reset = 2 ∧ result .ready live = 3 ∧ result (.statusRead 0 0) live = 0 ∧
    result (.unknownCommand 0x17) live = 11 := by decide

/-- Witness of MailboxWrites, at the ends of the mailbox (R203). -/
theorem test_mailbox_bounds :
    (after (.mailboxWrite 0x4F [7]) live).readPort 0x4F = 7 ∧ (after (.mailboxWrite 0x05 [7]) live).readPort 0x05 = 7 ∧
    (after (.mailboxWrite 0x06 [7]) live).port = live.port ∧ (after (.mailboxWrite 0x50 [7]) live).port = live.port ∧
    (after (.mailboxWrite 0x01 [1]) live).port.go = true := by decide

/-- A transaction of more than one byte writes rising addresses, one whose address byte has its top bit set reads, and the
address past 0x7F is outside the mailbox (R196). -/
theorem test_mailbox_transaction :
    (after (.mailboxWrite 0x02 [1, 2, 3]) live).port.paramA = 0x0201 ∧
    (after (.mailboxWrite 0x02 [1, 2, 3]) live).port.paramB = 3 ∧
    (after (.mailboxWrite 0x82 [1, 2, 3]) live).port = live.port ∧
    (after (.mailboxWrite 0x7F [1, 2]) live).port = live.port ∧
    (after (.mailboxWrite 0x00 [0x70, 1, 5]) live).port.overrun = true := by decide

/-- The state with GO set and ATTENTION READ in the mailbox. -/
def busy : State := { live with port := { live.port with go := true, command := 0x70 } }

/-- Witness of the clauses of the port with a command in flight: the one in the mailbox is taken, the writes of another are
discarded and set OVERRUN (R198). -/
theorem test_port_takes :
    live.port.go = false ∧ busy.port.held = .attentionRead ∧ (after .attentionRead busy).port.go = false ∧
    isTerminal (.hold 0) ∧ busy.port.held ≠ .hold 0 ∧ (after (.hold 0) busy).port.overrun = true ∧
    (after (.hold 0) busy).control = busy.control := by
  refine ⟨rfl, rfl, by decide, trivial, ?_, by decide, by decide⟩
  decide

/-- The overrun of 12 section 12.5: the stray write is discarded, and the result carries bit 7. -/
theorem test_overrun_case :
    (after (.overrun 0x10 0x55) busy).port.overrun = true ∧ (after (.overrun 0x06 0x55) busy).port.overrun = false ∧
    result .attentionRead (after (.overrun 0x10 0x55) busy) = 0x80 := by decide

/-! ## The commands of SETUP -/

/-- The small station in SETUP. -/
def setup : State := inState .setup

/-- Witness of the hypotheses of the commands of SETUP. -/
theorem test_setup_witness : setup.inSetup ∧ TablesSized setup := by
  unfold State.inSetup TablesSized; decide

/-- Ranges and codes of SW0, SW2, SW3, SW4 (R174). -/
theorem test_setWord_bounds :
    result (.setWord (.sw0 ⟨15, 6, some .bps19200⟩)) setup = 0 ∧ result (.setWord (.sw0 ⟨16, 6, some .bps19200⟩)) setup = 5 ∧
    result (.setWord (.sw0 ⟨15, 7, some .bps19200⟩)) setup = 5 ∧ result (.setWord (.undefined 6)) setup = 5 ∧
    result (.setWord (.sw3 ⟨4, 600, 60, 120, 15⟩)) setup = 0 ∧ result (.setWord (.sw3 ⟨3, 600, 60, 120, 15⟩)) setup = 1 ∧
    result (.setWord (.sw4 ⟨16, 1439, 160, 120, 7, 7⟩)) setup = 0 ∧
    result (.setWord (.sw4 ⟨15, 1439, 160, 120, 7, 7⟩)) setup = 1 ∧
    result (.setWord (.sw4 ⟨15, 1439, 160, 120, 8, 7⟩)) setup = 5 := by decide

/-- A class block with every field in range. -/
def goodClass : ClassBlock :=
  { hours := .present 1439 0, lead := 240, graceIn := 60, graceLate := 60, graceOut := 60, quantum := 30,
    breakAfter := 720, breakMinutes := 90, t1 := 1440, t2 := 1440, dayMax := 60, weekly := 65535, night := .absent }

/-- Class 7 is the last; T2 below T1 is raised; quantum 7 is refused (R48, R49). -/
theorem test_loadClass_bounds :
    result (.loadClass 7 goodClass) setup = 0 ∧ result (.loadClass 8 goodClass) setup = 5 ∧
    result (.loadClass 0 { goodClass with t2 := 1439 }) setup = 1 ∧
    result (.loadClass 0 { goodClass with quantum := 7 }) setup = 5 ∧
    ((after (.loadClass 0 { goodClass with t2 := 0 }) setup).pay.shiftClass 0).t2 = 1440 := by decide

/-- A schedule entry in range. -/
def goodBell : BellBlock := { minute := 1439, second := 59, mask := 0x7F, pattern := 7, role := some .signal }

theorem test_loadBell_bounds :
    result (.loadBell 47 goodBell) setup = 0 ∧ result (.loadBell 48 goodBell) setup = 5 ∧
    result (.loadBell 0 { goodBell with minute := 1440 }) setup = 1 ∧
    result (.loadBell 0 { goodBell with pattern := 8 }) setup = 5 := by decide

/-- The period is clamped after the on time, from the clamped on time up (R95). -/
theorem test_loadPattern_bounds :
    result (.loadPattern 7 { on := 160, period := 160, repeats := 1 }) setup = 0 ∧
    result (.loadPattern 8 { on := 160, period := 160, repeats := 1 }) setup = 5 ∧
    result (.loadPattern 0 { on := 160, period := 159, repeats := 1 }) setup = 1 ∧
    (after (.loadPattern 0 { on := 200, period := 10, repeats := 1 }) setup).pattern 0 = ⟨160, 160, 1⟩ := by decide

/-- A condition block and a rule block in range. -/
def anyRefusal : ConditionBlock := { kinds := [some .refuse], lanes := [some (.own .lane2)], test := some .any, limit := 0 }
def goodRule : RuleBlock :=
  { a := anyRefusal, b := { anyRefusal with kinds := [] }, combine := some .either, window := 3600, sameBadge := false,
    count := 255, action := some .holdLane }

theorem test_loadRule_bounds :
    result (.loadRule 3 goodRule) setup = 0 ∧ result (.loadRule 4 goodRule) setup = 5 ∧
    result (.loadRule 0 { goodRule with window := 3601 }) setup = 1 ∧
    result (.loadRule 0 { goodRule with action := none }) setup = 5 := by decide

/-- SET TIME in SETUP at the end of the range, and SHIFT TIME at the ends of its own (R79, R89, R203). -/
theorem test_setTime_end : (after (.setTime 0xFFFFFFFF 3) setup).clock.endMark = true ∧
    (after (.setTime 0xFFFFFFFE 3) setup).clock.endMark = false ∧
    (after (.setTime 0xFFFFFFFE 3) setup).clock.era = 3 := by decide

theorem test_shiftTime_bounds :
    live.sends ∧ result (.shiftTime 180) live = 0 ∧ result (.shiftTime 181) live = 5 ∧
    result (.shiftTime (BitVec.ofInt 16 (-180))) live = 0 ∧ result (.shiftTime (BitVec.ofInt 16 (-181))) live = 5 ∧
    (after (.shiftTime 1) live).clock.time = live.clock.time + 960 ∧ (after (.shiftTime 1) live).clock.era = 1 :=
  ⟨live_sends, by decide⟩

/-- READY with every mark set, and with one missing (R177). -/
theorem test_ready_marks :
    (after .ready setup).station = .join ∧ result .ready { setup with clock := { setup.clock with clockSet := false } } = 4 ∧
    (after .ready setup).control.joinTimer = some 320 := by decide

/-! ## Badges and pay -/

/-- A block for a badge. -/
def block (number : Nat) (home : Nat) : BadgeBlock :=
  { number := BitVec.ofNat 24 number, cls := 2, status := 1, mode := 1, home := BitVec.ofNat _ home, expiry := 3106,
    expiryPresent := 1 }

/-- Witness of BadgePut for a new badge: the hypotheses, and the ends of the badge numbers. -/
theorem test_badgePut_new :
    (live.served ∧ RecordsOrdered live) ∧ live.lookup 1 = none ∧ result (.badgePut (block 1 5)) live = 0 ∧
    result (.badgePut (block 16777214 2)) live = 0 ∧ result (.badgePut (block 0 5)) live = 5 ∧
    result (.badgePut (block 16777215 5)) live = 5 ∧
    result (.badgePut { block 1 5 with expiry := 3107 }) live = 5 ∧
    ((after (.badgePut (block 1 5)) live).lookup 1).map BadgeEntry.paySlot = some (some 1) :=
  ⟨⟨live_served, live_ordered.2.1⟩, by decide⟩

/-- Witness of BadgePut for a badge of the table, whose pay record is freed by a new home. -/
theorem test_badgePut_old :
    live.lookup 40117 = some badgeHere ∧ (after (.badgePut (block 40117 2)) live).pay.record 0 = none ∧
    ((after (.badgePut (block 40117 2)) live).lookup 40117).map BadgeEntry.presence = some badgeHere.presence := by decide

/-- The small station with an open IN for badge 40117. -/
def openIn : State :=
  { live with pay := { live.pay with
      records := [(0, { PayRecord.fresh 150 with
        openIn := some { time := clockAt 5 52 40, day := 150, era := 0, cls := 0, source := 5, flagged := false } })] } }

/-- BADGE DROP: without force an open IN stops it (R5, R6). -/
theorem test_badgeDrop_open :
    result (.badgeDrop 0 40117) openIn = 8 ∧ result (.badgeDrop 1 40117) openIn = 0 ∧ result (.badgeDrop 2 40117) openIn = 5 ∧
    result (.badgeDrop 0 40118) openIn = 6 ∧ (after (.badgeDrop 1 40117) openIn).pay.records = [] ∧
    result (.badgePut (block 40117 2)) openIn = 8 := by decide

/-- BADGE READ: EXACT and NEXT at their ends (R7, R206). -/
theorem test_badgeRead_bounds :
    (live.served ∧ TableOrdered live) ∧ result (.badgeRead 0 0) live = 5 ∧ result (.badgeRead 1 0) live = 0 ∧
    result (.badgeRead 1 51002) live = 6 ∧ result (.badgeRead 0 40118) live = 6 ∧ result (.badgeRead 2 1) live = 5 ∧
    (after (.badgeRead 0 40117) live).port.data.take 8 = [0xB5, 0x9C, 0, 0, 2, 1, 1, 5] ∧
    ((after (.badgeRead 0 40117) live).port.data.drop 8).take 6 = [0, 0, 0, 1, 2, 0xFF] :=
  ⟨⟨live_served, live_ordered.1⟩, by decide⟩

theorem test_musterRead_walk :
    (after (.musterRead 0) live).port.reply = .muster ⟨1, [51002], 1, true⟩ ∧
    (after (.musterRead 0) live).badges.cursor = 51002 ∧ result (.musterRead 2) live = 5 := by decide

theorem test_payRead_bounds :
    result (.payRead 3 40117) live = 0 ∧ result (.payRead 4 40117) live = 5 ∧ result (.payRead 0 51002) live = 6 ∧
    (after (.payRead 0 40117) openIn).port.data.getD 20 0 = 1 := by decide

/-- Case 1 of 03 section 3.7: regular 240, OT1 360, OT2 12, last out 762, break mark set. -/
theorem test_credit_case1 :
    let d := (DaySlot.empty 150).credit dayClass 2 240 2160 (payTicks 240 150 (clockAt 5 52 40))
      (payTicks 240 150 (clockAt 16 47 10)) 0
    (d.regular, d.ot1, d.ot2, d.night) = (240, 360, 12, 0) ∧ (d.intervals, d.breakMark) = (1, true) ∧
    d.lastOut = some (762, 2) := by
  decide

/-- Case 3 of 03 section 3.7: the late first interval, then the interval after a lunch through the gate. -/
theorem test_credit_case3 :
    let first := (DaySlot.empty 150).credit dayClass 2 240 0 (payTicks 240 150 (clockAt 6 7 20))
      (payTicks 240 150 (clockAt 10 31 50)) 0
    let second := first.credit dayClass 2 240 0 (payTicks 240 150 (clockAt 11 4 0)) (payTicks 240 150 (clockAt 14 34 0)) 0
    (first.regular, first.lastOut, first.flags) = (258, some (390, 2), 0x001) ∧
    (second.regular, second.intervals, second.breakMark, second.lastOut) = (462, 2, true, some (630, 2)) := by
  decide

/-- Witness of the clauses of IntervalCredit for any class: LATE begins a tick after the late grace (125 minutes after the roll),
EARLY a tick before the in grace (105), and the out grace ends at 640 minutes for the end of shift at 630 (R60, R62). -/
theorem test_credit_bounds :
    let credit (mIn mOut : Int) := (DaySlot.empty 150).credit dayClass 2 240 0 mIn mOut 0
    0 < dayClass.quantum ∧ (credit (960 * 125) (960 * 630)).flags = 0 ∧ (credit (960 * 125 + 1) (960 * 630)).flags = 0x001 ∧
    (credit (960 * 105) (960 * 630)).flags = 0 ∧ (credit (960 * 105 - 1) (960 * 630)).flags = 0x002 ∧
    (credit (960 * 120) (960 * 640)).lastOut = some (630, 2) ∧
    (credit (960 * 120) (960 * 640 + 1)).lastOut = some (636, 2) := by decide

/-- Case 6 of 03 section 3.7: a forgotten OUT held to the day maximum. -/
theorem test_credit_case6 :
    let d := (DaySlot.empty 150).credit dayClass 2 240 0 (payTicks 240 150 (clockAt 6 1 0))
      (payTicks 240 150 (clockAt 14 32 0 + 1382400)) 0
    (d.regular, d.ot1, d.ot2, d.night, d.clamped) = (480, 120, 360, 480, 960) := by
  decide

/-- PERIOD CLOSE, taken in LIVE and refused in SETUP (R73). -/
theorem test_periodClose :
    (live.inReset = false ∧ live.station.serving = true) ∧ result .periodClose live = 0 ∧
    (setup.inReset = false ∧ setup.station = .setup) ∧ result .periodClose setup = 2 := by decide

/-! ## Records, status and control -/

/-- The ring of 08 section 8.6 case 3: with the ring full the oldest entry is at the write position. -/
def ringFull : State :=
  { live with watch := { live.watch with
      trace := List.replicate 32 (some ⟨200, 0, .lane1, none, .refuse, none, false⟩), writePos := 8, readPtr := 31 } }

theorem test_trace_commands :
    (after .traceMark ringFull).watch.readPtr = 8 ∧ (after .traceMark live).watch.readPtr = 0 ∧
    (after .traceRead ringFull).watch.readPtr = 0 ∧ result .traceRead ringFull = 0 ∧ result .traceRead live = 9 := by decide

/-- A station with one incident and a lost count. -/
def oneIncident : State :=
  { live with watch := { live.watch with
      incidents := [⟨.forced, 7, some .lane2, none, none, none, none⟩], lost := 3 } }

theorem test_incidentTake :
    result .incidentTake oneIncident = 0 ∧ (after .incidentTake oneIncident).watch.incidents = [] ∧
    (after .incidentTake oneIncident).watch.lost = 0 ∧ (after .incidentTake oneIncident).port.data.getD 6 0 = 3 ∧
    (after .incidentTake oneIncident).port.data.getD 1 0 = 1 ∧
    result .incidentTake live = 9 := by decide

theorem test_statusRead_bounds :
    result (.statusRead 9 0) live = 0 ∧ result (.statusRead 10 0) live = 5 ∧ result (.statusRead 2 4) live = 0 ∧
    result (.statusRead 2 5) live = 5 ∧ result (.statusRead 2 0) live = 5 ∧ result (.statusRead 8 47) live = 0 ∧
    result (.statusRead 8 48) live = 5 := by decide

/-- Fields of the STATION, LANE and LINE parts that no byte position shows (R200). -/
theorem test_statusRead_fields :
    (after (.statusRead 0 0) live).port.reply = .status (.station
      { state := .live, marks := ⟨true, true, true, true, true, true, true⟩, holdoverCount := 0, elapsed := none,
        backupLow := false, contact := false, evacRecord := none, pendingEvac := none, reasons := [], override := .follow,
        deadline := 0, isolated := false, doubt := false }) ∧
    (match (after (.statusRead 2 3) live).port.reply with
      | .status (.lane x) => decide ((x.written, x.heldOpenLimit, x.kind) = (some .door, some 30, .door))
      | _ => false) = true ∧
    (match (after (.statusRead 5 0) { live with line := { live.line with inHand := some ⟨.allClear, 7⟩ } }).port.reply with
      | .status (.line x) => decide ((x.inHand, x.never) = (some .allClear, 16))
      | _ => false) = true := by decide

theorem test_peerRead_bounds :
    result (.peerRead 15) live = 0 ∧ result (.peerRead 16) live = 5 ∧ result (.peerRead 15) (inState .holdover) = 0 := by
  decide

theorem test_attentionRead :
    (after .attentionRead oneIncident).port.data.getD 0 0 = 0x01 ∧ oneIncident.attentionLine = true ∧
    live.attentionLine = false := by decide

/-- HOLD of the station and of a lane, and the numbers beyond (R153, R152). -/
theorem test_hold_bounds :
    (after (.hold 0) live).station = .held ∧ ((after (.hold 0) live).lane .lane1).state = .held ∧
    ((after (.hold 4) live).lane .lane4).state = .held ∧ ((after (.hold 4) live).lane .lane3).state = .idle ∧
    result (.hold 5) live = 5 ∧ (after (.hold 4) live).control.context.map HoldContext.lane = some (some .lane4) := by decide

theorem test_resume :
    (after .resume (after (.hold 0) live)).station = .live ∧
    ((after .resume (after (.hold 0) live)).lane .lane1).state = .idle ∧
    (after .resume (after (.hold 0) live)).control.context = none := by decide

/-- The small station with rule 0 of 08 section 8.6 case 1. -/
def refusalRule : Rule :=
  { Rule.plain with
    a := { kinds := [.refuse], lanes := [.own .lane2], test := .any, limit := 0 }
    count := 3
    action := .holdLane }
def ruled : State := { live with watch := { live.watch with rules := { live.watch.rules with rule0 := refusalRule } } }

/-- A REFUSE event of lane 2. -/
def refusal : LaneEvent := live.laneEvent .refuse .lane2 (badge := some 90123) (reason := some .unknown)

theorem test_arm_bounds :
    (after (.arm 0) ruled).watch.rules.rule0.counter = 2 ∧ (after (.arm 0) ruled).watch.rules.rule0.armed = true ∧
    result (.arm 3) live = 0 ∧ result (.arm 4) live = 5 ∧ result (.disarm 4) live = 5 ∧ result (.arm 0) setup = 2 ∧
    (after (.disarm 0) (after (.arm 0) ruled)).watch.rules.rule0.armed = false := by decide

/-- 08 section 8.6 case 1: the third refusal trips the rule, and holds lane 2. -/
theorem test_rule_case1 :
    let armed := after (.arm 0) ruled
    let twice := (armed.matchRule .rule0 refusal).matchRule .rule0 refusal
    let tripped := twice.matchRule .rule0 refusal
    twice.watch.rules.rule0.counter = 0 ∧ tripped.control.laneReasons.lane2 = [.watch .rule0] ∧
    tripped.watch.rules.rule0.trips = 1 ∧ tripped.watch.rules.rule0.counter = 2 ∧ tripped.watch.incidents.length = 1 := by
  decide

/-- The refusal rule armed with N = 1 and an action, in a station state. -/
def armedRule (x : StationState) (a : WatchAction) : State :=
  (inState x).modRule .rule0 fun _ => { refusalRule with count := 1, action := a, armed := true }

/-- Witness of RuleMatches, every action of a trip (R150, R163). -/
theorem test_rule_actions :
    let trip (x : StationState) (a : WatchAction) : State := (armedRule x a).occurrence .rule0 refusal
    (trip .live .note).watch.incidents.map Incident.kind = [.watch] ∧
    (trip .live .alarm).bell.arbiter.map Sounding.rank = some .alarm ∧
    (trip .live .holdStation).station = .held ∧ ((trip .live .holdStation).lane .lane1).state = .held ∧
    (trip .live .evacuate).line.evac.map EvacSlot.frame = some (.clear .watch) ∧
    (trip .live .evacuate).watch.incidents.map Incident.kind = [.evacBegin, .watch] ∧
    (trip .join .evacuate).control.pendingEvac = some ⟨.watch, true⟩ ∧
    (trip .evacuate .evacuate).control = (inState .evacuate).control ∧
    (trip .live .evacuate).watch.rules.rule0.trips = 1 := by decide

/-- The five badge tests at the limit and beside it, and without a badge (R144). -/
theorem test_badge_tests :
    let passes (t : BadgeTest) (b : Option Nat) : Bool := { Condition.plain with test := t, limit := 5 }.badgeTest b
    passes .any none = true ∧ passes .equal (some 5) = true ∧ passes .notEqual (some 5) = false ∧
    passes .below (some 4) = true ∧ passes .below (some 5) = false ∧ passes .above (some 5) = false ∧
    passes .above (some 6) = true ∧ passes .notEqual none = false := by decide

theorem test_passbackMode_bounds :
    (after (.passbackMode 1) live).control.override = .forceSoft ∧ result (.passbackMode 2) live = 5 ∧
    result (.passbackMode 0) live = 0 ∧ result (.passbackMode 0) setup = 2 := by decide

/-! ## Evacuation -/

/-- Witness of EvacuateCommand, from LIVE and from EVACUATE. -/
theorem test_evacuate :
    (live.sends ∧ live.calm) ∧ (after .evacuate live).station = .evacuate ∧
    ((after .evacuate live).lane .lane4).drive = true ∧
    (after .evacuate live).line.evac.map EvacSlot.frame = some (.clear .terminal) ∧
    (after .evacuate (after .evacuate live)).watch.incidents.length = 1 :=
  ⟨⟨live_sends, live_calm⟩, by decide⟩

/-- The small station in EVACUATE. -/
def evacuating : State := inState .evacuate

/-- Witness of the hypotheses of AllClearCommand and of the evacuation clause of ClearFrames. -/
theorem test_evacuating_witness :
    evacuating.control.contact = false ∧ evacuating.watch.handed = [] ∧ ReleasesPlaced evacuating ∧
    TablesSized evacuating ∧ evacuating.served ∧ evacuating.line.sending = none :=
  ⟨rfl, rfl, by intro l; cases l <;> decide, live_sized, by unfold State.served; decide, rfl⟩

theorem test_allClear :
    (after .allClear evacuating).station = .live ∧ result .allClear live = 2 ∧
    result .allClear { evacuating with control := { evacuating.control with contact := true } } = 10 ∧
    (after .allClear evacuating).line.evac.map EvacSlot.frame = some .allClear := by decide

/-- The contact with its debounce timer run out and its raw level different. -/
def contactEdge (x : StationState) : State :=
  { live with
    inputs := { live.inputs with contact := true }
    control := { settings with station := x, contactTimer := some 0 } }

theorem test_contactEdge :
    ((contactEdge .live).served ∧ (contactEdge .live).calm) ∧
    (after .evacContactEdge (contactEdge .live)).station = .evacuate ∧
    (after .evacContactEdge (contactEdge .join)).station = .join ∧
    (after .evacContactEdge (contactEdge .join)).control.contact = true ∧
    (after .evacContactEdge (contactEdge .evacuate)).line.evac.map EvacSlot.frame = some (.clear .input) :=
  ⟨⟨by unfold State.served; decide, ⟨rfl, fun r => by cases r <;> rfl⟩⟩, by decide⟩

theorem test_clearFrame :
    (live.line.sending = none ∧ (2 : Station) ≠ live.ownStation) ∧
    (after (.clear ⟨2, .relay⟩) live).control.evacRecord.map EvacRecord.reason = some (.frame 2 .relay) ∧
    (after (.clear ⟨2, .input⟩) (inState .join)).control.pendingEvac = some ⟨.frame 2 .input, false⟩ ∧
    (after (.clear ⟨2, .input⟩) evacuating).control = evacuating.control := by decide

theorem test_allClearFrame :
    (after (.allClearFrame 2) evacuating).station = .live ∧ (after (.allClearFrame 2) evacuating).line.evac = none ∧
    (after (.allClearFrame 2) { evacuating with control := { evacuating.control with contact := true } }).line.evac.map
      EvacSlot.frame = some (.clear .relay) := by decide

/-! ## Readers, inputs and passages -/

/-- Reader characters with even parity and their stop bits at mark. -/
def readerChars (bytes : List Byte) : List ReaderChar := bytes.map fun b => { data := b, parity := oddOnes b, stop := true }

/-- Badge 40117 as a reader sends it: 0xB5 + 0x9C + 0x00 + 0xAF is 0 modulo 256 (R205). -/
def read40117 : List ReaderChar := readerChars [0x02, 0xB5, 0x9C, 0x00, 0xAF, 0x03]

theorem test_readReader :
    readReader read40117 = some 40117 ∧ readReader (readerChars [0x02, 0xB5, 0x9C, 0x00, 0xAE, 0x03]) = none ∧
    readReader (readerChars [0x02, 0, 0, 0, 0, 0x03]) = none ∧ readReader (read40117.drop 1) = none := by decide

/-- Witness of BadReaderFrame at its filter (1, with HOLD), below it, and with the record ACTIVE. -/
theorem test_badFrame :
    live.watches .lane2 ∧ (after (.readerFrame .lane2 []) live).faults.lanes.lane2.reader.state = .active ∧
    ((after (.readerFrame .lane2 []) live).lane .lane2).state = .held ∧
    ((after (.readerBreakSecond .lane2) live).lane .lane2).readerErrors = 1 :=
  ⟨⟨live_served, by decide⟩, by decide⟩

/-- At the filter under OPEN: a released lane goes to FAULT and its release closes UNUSED, in EVACUATE the lane stands (R40,
R192). -/
theorem test_badFrame_open :
    let opens (x : StationState) : State :=
      { (inState x).modLane .lane2 fun u => { u with state := .released, drive := true, release := some ⟨40117, 9, false, 0⟩ } with
        control := { settings with station := x, sw5 := settings.sw5.map fun w => { w with reader := ⟨1, .actOpen⟩ } } }
    let t (x : StationState) : State := after (.readerFrame .lane2 []) (opens x)
    ((t .live).lane .lane2).state = .fault ∧ ((t .live).lane .lane2).release = none ∧
    ((t .live).lane .lane2).readerErrors = 1 ∧
    ((t .live).watch.trace.getD 0 none).map TraceEntry.outcome = some .unused ∧
    ((t .evacuate).lane .lane2).state = .released ∧ ((t .evacuate).lane .lane2).readerErrors = 1 := by decide

/-- 02 section 2.11 case 1: OFF_SHIFT at 04:50:00, ADMIT at 05:05:00. -/
theorem test_verdict_case1 :
    { live with clock := { live.clock with time := clockAt 4 50 0 } }.verdict .lane2 40117 = .refuse .offShift ∧
    live.verdict .lane2 40117 = .admitted ∧ refusalRow live .lane2 40117 = none ∧
    refusalRow live .lane2 99 = some .unknown ∧ refusalRow evacuating .lane2 40117 = some .evac ∧
    refusalRow evacuating .lane4 40117 = none := by decide

/-- Witness of GoodRead: an admission, a refusal, a repeat within the window and an EVAC admission. -/
theorem test_goodRead :
    live.watches .lane2 ∧
    ((after (.readerFrame .lane2 read40117) live).lane .lane2).release.map PendingRelease.badge = some 40117 ∧
    ((after (.readerFrame .lane2 read40117) (after (.readerFrame .lane2 read40117) live)).lane .lane2).repeats = 1 ∧
    ((after (.readerFrame .lane4 read40117) evacuating).lane .lane4).evacRead.map EvacRead.badge = some 40117 ∧
    (after (.readerFrame .lane2 read40117) (after (.hold 2) live)).watch.nextEvent = 1 :=
  ⟨⟨live_served, by decide⟩, by decide⟩

/-- A raw level that moves away starts the debounce timer, and back again stops it (R18). -/
theorem test_inputLevel :
    let moved := after (.inputLevelChange (.aux .lane2) true) live
    live.inputs.level (.aux .lane2) ≠ true ∧ (moved.lane .lane2).aux.timer = some 2 ∧
    ((after (.inputLevelChange (.aux .lane2) false) moved).lane .lane2).aux.timer = none ∧
    (after (.inputLevelChange (.strap .lane2) false) live).lanes = live.lanes := by decide

/-- A lane whose auxiliary input is sought with its contact open, as after READY. -/
def sought : State :=
  { withLane .lane3 (fun u => { u with aux := ⟨none, some 0⟩, sense := ⟨none, some 0⟩ }) with
    inputs := { live.inputs with aux := { live.inputs.aux with lane3 := true } }
    control := { settings with contactFound := false, contactTimer := some 0 } }

theorem test_firstLevel :
    ((after (.firstLevelFound (.aux .lane3)) sought).lane .lane3).state = .opened ∧
    ((after (.firstLevelFound (.aux .lane3)) sought).lane .lane3).heldOpen = some 480 ∧
    ((after (.firstLevelFound (.sense .lane3)) sought).lane .lane3).sense.level = some false ∧
    (after (.firstLevelFound .contact) sought).control.contactFound = true := by decide

/-- A lane whose auxiliary input is about to rise. -/
def rising (l : Lane) (f : LaneUnit → LaneUnit) : State :=
  { withLane l (fun u => f { u with aux := ⟨some false, some 0⟩ }) with
    inputs := { live.inputs with aux := live.inputs.aux.set l true } }

/-- A release of badge 40117, read at 05:05:00. -/
def release : PendingRelease := { badge := 40117, readTime := clockAt 5 5 0, flagged := false, rereadUntil := 48 }

/-- Lane 2 RELEASED, and the door of lane 4 the same. -/
def released (l : Lane) : State :=
  rising l fun u => { u with state := .released, drive := true, release := some release, releaseTimer := some 96 }

/-- Witness of PassageReleased, on a turnstile and on a door; 02 section 2.11 case 2, first order. -/
theorem test_passage_released :
    ((released .lane2).watches .lane2 ∧ (released .lane2).calm ∧ EdgeReady ((released .lane2).lane .lane2).aux true) ∧
    ((after (.debounceExpiry (.aux .lane2)) (released .lane2)).lane .lane2).state = .idle ∧
    ((after (.debounceExpiry (.aux .lane4)) (released .lane4)).lane .lane4).state = .opened ∧
    ((after (.debounceExpiry (.aux .lane2)) (released .lane2)).lookup 40117).map (·.presence.state) = some .isIn ∧
    (after (.debounceExpiry (.aux .lane2)) (released .lane2)).badges.muster = 2 ∧
    (after (.debounceExpiry (.aux .lane2)) (released .lane2)).journal.entries.length = 1 :=
  ⟨⟨⟨by unfold State.served; decide, by decide⟩, ⟨rfl, fun r => by cases r <;> rfl⟩, by unfold EdgeReady; decide⟩,
    by decide⟩

/-- Witness of PunchClosed for a badge homed here: the own punch opens an interval in its pay record (R45, R57). -/
theorem test_own_punch_paid :
    live.lookup 40117 = some badgeHere ∧ (released .lane2).pay.record 0 = some (.fresh 150) ∧
    ((after (.debounceExpiry (.aux .lane2)) (released .lane2)).pay.record 0).bind PayRecord.openIn =
      some ⟨clockAt 5 5 0, 150, 0, 2, 5, false⟩ := by decide

/-- Witness of PassagesUnreleased: forced in IDLE (02 section 2.11 case 2), open in FAULT, and in EVACUATE. -/
theorem test_passage_unreleased :
    let evac (r : Option EvacRead) : State := { rising .lane4 (fun u => { u with evacRead := r }) with
      control := { settings with station := .evacuate } }
    ((after (.debounceExpiry (.aux .lane2)) (rising .lane2 id)).lane .lane2).forced = 1 ∧
    ((after (.debounceExpiry (.aux .lane2)) (rising .lane2 fun u => { u with state := .fault })).lane .lane2).openPassages
      = 1 ∧
    ((after (.debounceExpiry (.aux .lane4)) (evac none)).lane .lane4).evacPassages = 1 ∧
    (after (.debounceExpiry (.aux .lane4)) (evac (some ⟨40117, clockAt 5 4 57, 48⟩))).journal.entries.map
      JournalEntry.outcome = [.evac] := by decide

/-- An open door about to close, with and without a waiting release (02 section 2.11 case 4). -/
def closing (r : Option PendingRelease) : State :=
  withLane .lane4 fun u => { u with state := .opened, release := r, aux := ⟨some true, some 0⟩, heldOpen := some 100 }

theorem test_doorClosing :
    ((closing none).watches .lane4 ∧ (closing none).watch.handed = [] ∧ EdgeReady ((closing none).lane .lane4).aux false) ∧
    ((after (.debounceExpiry (.aux .lane4)) (closing (some release))).lane .lane4).state = .released ∧
    ((after (.debounceExpiry (.aux .lane4)) (closing (some release))).lane .lane4).releaseTimer = some 96 ∧
    ((after (.debounceExpiry (.aux .lane4)) (closing none)).lane .lane4).state = .idle :=
  ⟨⟨⟨by unfold State.served; decide, by decide⟩, rfl, by unfold EdgeReady; decide⟩, by decide⟩

/-- Witness of the resting edge of a turnstile: the level alone changes, a release running (R19). -/
theorem test_turnstile_rest :
    let s := withLane .lane2 fun u => { u with state := .released, release := some release, aux := ⟨some true, some 0⟩ }
    (s.watches .lane2 ∧ s.watch.handed = [] ∧ s.inputs.aux.get .lane2 = false ∧ EdgeReady (s.lane .lane2).aux false) ∧
    (after (.debounceExpiry (.aux .lane2)) s).lane .lane2 =
      { s.lane .lane2 with aux := { level := some false, timer := none } } :=
  ⟨⟨⟨by unfold State.served; decide, by decide⟩, rfl, rfl, by unfold EdgeReady; decide⟩, by decide⟩

/-- A sense check that waits, with the sense in agreement or not. -/
def checking (level : Bool) : State :=
  withLane .lane2 fun u => { u with senseCheck := some 0, sense := ⟨some level, none⟩ }

/-- A sense input about to move, driven RELEASED. -/
def senseMoves (drive : Bool) : State :=
  { withLane .lane2 (fun u => { u with drive, senseCheck := some 9, sense := ⟨some false, some 0⟩ }) with
    inputs := { live.inputs with sense := { live.inputs.sense with lane2 := true } } }

theorem test_senseCheck :
    (after (.senseCheckExpiry .lane2) (checking true)).faults.lanes.lane2.strike.state = .active ∧
    (after (.senseCheckExpiry .lane2) (checking false)).faults = live.faults ∧
    ((after (.debounceExpiry (.sense .lane2)) (senseMoves true)).lane .lane2).senseCheck = none ∧
    ((after (.debounceExpiry (.sense .lane2)) (senseMoves false)).lane .lane2).senseCheck = some 9 := by decide

/-- The release timer, the held-open timer (02 section 2.11 case 4: detection 1 of 2) and the evacuation read. -/
theorem test_laneTimers :
    let waiting := withLane .lane2 fun u => { u with state := .released, release := some release, releaseTimer := some 0 }
    let door := withLane .lane4 fun u => { u with state := .opened, heldOpen := some 0 }
    ((after (.releaseTimerExpiry .lane2) waiting).lane .lane2).state = .idle ∧
    (after (.releaseTimerExpiry .lane2) waiting).watch.nextEvent = 1 ∧
    ((after (.heldOpenExpiry .lane4) door).lane .lane4).heldOpen = some 480 ∧
    (after (.heldOpenExpiry .lane4) door).faults.lanes.lane4.doorHeld.count = 1 ∧
    ((after (.evacReadExpiry .lane4) (withLane .lane4 fun u => { u with evacRead := some ⟨1, 0, 0⟩ })).lane
      .lane4).evacRead = none := by decide

/-- An UNUSED event marks the entry of its ADMIT, and no other position (R157). -/
theorem test_trace_unused :
    let admitted := after (.readerFrame .lane2 read40117) live
    let t := after (.releaseTimerExpiry .lane2) admitted
    (admitted.watch.trace.getD 0 none).map (fun x => (x.outcome, x.unused)) = some (.admitted, false) ∧
    (t.watch.trace.getD 0 none).map (fun x => (x.outcome, x.unused)) = some (.admitted, true) ∧
    (t.watch.trace.getD 1 none).map (fun x => (x.outcome, x.unused)) = some (.unused, true) ∧
    t.watch.trace.getD 2 none = none ∧ t.watch.writePos = 2 := by decide

/-! ## Plant time, the bell and the timers -/

/-- At the last tick before the end of the range a second stops there, and takes no slew tick (R76, R77). -/
theorem test_clockSecond_end :
    let near (k : Nat) : State := { live with clock := { live.clock with time := 4294967295 - k, remainder := 3 } }
    (after .clockSecond (near 1)).clock.time = 4294967295 ∧ (after .clockSecond (near 1)).clock.remainder = 3 ∧
    (after .clockSecond (near 16)).clock.time = 4294967295 ∧ (after .clockSecond (near 17)).clock.remainder = 2 ∧
    (after .clockSecond (near 1)).clock.realTime = live.clock.realTime + 16 := by decide

/-- A second with a positive remainder is seventeen ticks long, with a negative one fifteen (R76). -/
theorem test_clockSecond :
    (after .clockSecond live).clock.time = live.clock.time + 16 ∧
    (after .clockSecond { live with clock := { live.clock with remainder := 1 } }).clock.time = live.clock.time + 17 ∧
    (after .clockSecond { live with clock := { live.clock with remainder := -1 } }).clock.time = live.clock.time + 15 ∧
    (after .clockSecond { live with clock := { live.clock with endMark := true } }).clock.time = live.clock.time := by decide

theorem test_clockFaults :
    let last : State := { live with clock := { live.clock with time := 4294967295 } }
    (after .clockEndReached last).clock.endMark = true ∧ (after .clockEndReached last).faults.clock.count = 1 ∧
    (after .endHoldSecond (after .clockEndReached last)).faults.clock.state = .active ∧
    (after .oscillatorStop live).clock.degraded = true ∧
    (after .degradedSecond (after .oscillatorStop live)).faults.clock.state = .active ∧
    (after .degradedSecond live).faults = live.faults := by decide

/-- The small station at 06:00:00 with entry 3 set for that instant on the day's weekday, day 150 being a Thursday when day 0
is a Monday. -/
def ringing (x : StationState) : State :=
  { inState x with
    clock := { live.clock with time := clockAt 6 0 0, countedFrom := clockAt 6 0 0 - 1 }
    bell := { live.bell with
      entries := modAt (fun e => { e with minute := 360, mask := 0x08 }) 3 live.bell.entries } }

/-- Witness of RingInstant in every station state. -/
theorem test_ringInstant :
    (after (.ringInstant 3) (ringing .live)).bell.arbiter.map Sounding.entry = some (some 3) ∧
    (after (.ringInstant 3) (ringing .live)).line.cues.length = 1 ∧
    (after (.ringInstant 3) (ringing .evacuate)).bell.suppressed = 1 ∧
    (after (.ringInstant 3) (ringing .holdover)).bell.missed = 1 ∧
    (after (.ringInstant 3) (ringing .setup)).bell = (ringing .setup).bell ∧
    (after (.ringInstant 4) (ringing .live)).bell = (ringing .live).bell := by decide

/-- After a counting of 17 ticks to 06:00:00, entry 3 of that instant comes after entry 7 of the instant 16 ticks before it,
and before entry 5 of its own instant (R97). -/
theorem test_ringsDue :
    let set (k minute second : Nat) := modAt (fun e => { e with minute, second, mask := 0x08 : BellEntry }) k
    let s : State :=
      { ringing .live with
        clock := { (ringing .live).clock with countedFrom := clockAt 6 0 0 - 17 }
        bell := { live.bell with entries := set 5 360 0 (set 7 359 59 (ringing .live).bell.entries) } }
    s.ringsDue = [7, 3, 5] := by decide

/-- A sounding claim. -/
def sounding (rank : Rank) (on : Bool) (n : Nat) : State :=
  { live with bell := { live.bell with
      patterns := List.replicate 8 { on := 8, period := 24, repeats := 2 }
      arbiter := some { rank, pattern := 0, entry := none, repeatNo := n, on, left := 0 } } }

theorem test_patternPhases :
    (after .patternPhaseEnd (sounding .scheduled true 1)).bell.arbiter = some ⟨.scheduled, 0, none, 1, false, 16⟩ ∧
    (after .patternPhaseEnd (sounding .scheduled false 1)).bell.arbiter = some ⟨.scheduled, 0, none, 2, true, 8⟩ ∧
    (after .patternComplete (sounding .scheduled false 2)).bell.arbiter = none ∧
    (after .patternComplete (sounding .evacuation false 2)).bell.arbiter ≠ none := by decide

/-- A day roll due, and none due; the open IN of the pay day before the last is closed MISSING_OUT (03 section 3.7 case 6). -/
theorem test_dayRoll :
    let due : State := { openIn with pay := { openIn.pay with today := 151 }, clock := { openIn.clock with time := clockAt 4 0 0 + 2 * 1382400 } }
    (after .dayRoll due).pay.today = 152 ∧ (after .dayRoll due).port.payFlag = true ∧
    ((after .dayRoll due).pay.record 0).map (fun r => (r.openIn, r.period.flags)) = some (none, 0x010) ∧
    (after .dayRoll live).pay = live.pay := by decide

/-- A period figure that reaches its top exactly sets SATURATED, of minutes and of days alike (R53). -/
theorem test_period_top :
    let p : Period := { Period.zero with regular := 65500, days := 254 }
    let d : DaySlot := { DaySlot.empty 150 with regular := 35 }
    (p.addSlot d).regular = 65535 ∧ (p.addSlot d).saturated = true ∧
    (p.addSlot { d with regular := 34 }).saturated = false ∧
    (p.addSlot { d with regular := 34, intervals := 1 }).saturated = true := by decide

/-- A HEARD peer whose silence timer ran out, the clash timer, a window and the end of doubt. -/
theorem test_timerEnds :
    let silent := live.modPeer 2 fun e => { e with state := .heard, silence := some 0 }
    let clashed := after (.numberClash (.allClear 5)) live
    ((after (.peerSilence 2) silent).peer 2).state = .lost ∧ (after (.peerSilence 2) silent).doubtActive = true ∧
    clashed.faults.line.state = .active ∧ (after .clashTimerExpiry clashed).faults.line.state = .normal ∧
    (after (.windowExpiry .rule0) (live.modRule .rule0 fun r => { r with first := some ⟨0, none, 0⟩ })).watch.rules.rule0.first
      = none ∧ after .doubtEnd live = live := by decide

/-- Witness of ScheduleInRange in the statements about steps of plant time. -/
theorem test_witness_schedule : ScheduleInRange live ∧ TablesSized live ∧ (live.sends ∧ live.served) :=
  ⟨live_schedule, live_sized, live_sends, live_served⟩

/-- Two heard peers of the own era whose offsets are 400 and 500 ticks: the median of 0, 400, 500 is a step of 400. -/
def twoPeers : State :=
  let heard (ticks : Int) (e : PeerEntry) : PeerEntry :=
    { e with state := .heard, era := some 0, offset := some { ticks, takenAt := 0 } }
  { (live.modPeer 2 (heard 400)).modPeer 3 (heard 500) with
    line := { live.line with beaconTimer := some 0 }
    bell := { live.bell with entries := List.replicate 48 .reset } }

theorem test_beaconTime :
    (after .beaconTime twoPeers).clock.time = live.clock.time + 400 ∧
    ((after .beaconTime twoPeers).peer 3).offset.map Offset.ticks = some 100 ∧
    (after .beaconTime twoPeers).line.beacon.isSome = true ∧ medianOf (sortInts [0, 5, -2]) = 0 ∧
    medianOf (sortInts [0, 5, -2, -8]) = -1 := by decide

/-- The small station at the end of JOIN. -/
def joining : State := { live with control := { settings with station := .join, joinTimer := some 0 } }

theorem test_endOfJoin :
    joining.calm ∧ (after .endOfJoin joining).station = .live ∧ (after .endOfJoin joining).doubtActive = true ∧
    (after .endOfJoin { joining with control := { joining.control with contact := true } }).line.evac.map EvacSlot.frame
      = some (.clear .input) ∧
    (after .endOfJoin { joining with control := { joining.control with
      pendingEvac := some ⟨.frame 2 .watch, false⟩ } }).control.evacRecord.map EvacRecord.reason = some (.frame 2 .watch) :=
  ⟨⟨rfl, fun r => by cases r <;> rfl⟩, by decide⟩

/-- A pending evacuation with its CLEAR mark clear places nothing, and removes an unsent ALL CLEAR (R162, R169). -/
theorem test_endOfJoin_allClear :
    let s : State := { joining with
      line := { joining.line with evac := some { tag := 0, frame := .allClear } }
      control := { joining.control with pendingEvac := some { reason := .watch, clearMark := false } } }
    (after .endOfJoin s).station = .evacuate ∧ (after .endOfJoin s).line.evac = none := by decide

/-! ## The gate line -/

/-- 06 section 6.7 case 3, the last line: PUNCH 43 with 40 expected is a gap of 3; late is 128 or more ahead (R132). -/
theorem test_punch_sequence :
    let expecting := live.modPeer 2 fun e => { e with expected := some 40 }
    ((after (.punch (punchOf 51002 43 .dirIn 200)) expecting).peer 2).gap = 3 ∧
    (after (.punch (punchOf 51002 43 .dirIn 200)) expecting).doubtActive = true ∧
    ((after (.punch (punchOf 51002 167 .dirIn 200)) expecting).peer 2).gap = 127 ∧
    ((after (.punch (punchOf 51002 168 .dirIn 200)) expecting).peer 2).late = 1 ∧
    ((after (.punch (punchOf 51002 40 .dirIn 99)) expecting).peer 2).stale = 1 ∧
    ((after (.punch (punchOf 7 40 .dirIn 99)) expecting).peer 2).stranger = 1 := by decide

/-- A PUNCH with a rule armed to evacuate: PEER_PUNCH trips it, and the UNUSED event it brings is then traced (R141). -/
theorem test_punch_watched :
    let s : State := ((withLane .lane2 fun u => { u with state := .released, release := some ⟨40117, 9, false, 0⟩ }).modRule
      .rule2 fun _ => { refusalRule with
        a := { kinds := [.peerPunch], lanes := [.peer], test := .above, limit := 51001 }
        count := 1, action := .evacuate, armed := true })
    let t := after (.punch (punchOf 51002 0 .dirIn 200)) s
    t.station = .evacuate ∧ t.watch.rules.rule2.trips = 1 ∧ t.watch.handed = [] ∧
    t.watch.incidents.map Incident.kind = [.evacBegin, .watch] ∧
    t.watch.incidents.map Incident.peer = [none, some 2] ∧
    (t.watch.trace.getD 0 none).map TraceEntry.outcome = some .unused ∧
    (after (.punch (punchOf 51001 0 .dirIn 200)) s).station = .live := by decide

/-- An early roll rolls every record and sets PAY_FLAG, and the punch is then paired (R71). -/
theorem test_early_roll :
    let s : State := { live with pay := { live.pay with
      records := [(0, .fresh 150), (1, { PayRecord.fresh 150 with previous := { DaySlot.empty 149 with flags := 0x010 } })] } }
    let t := after (.punch (punchOf 40117 0 .dirIn (clockAt 5 0 0 + 1382400))) s
    t.pay.today = 151 ∧ t.pay.earlyRolls = 1 ∧ t.port.payFlag = true ∧
    (t.pay.record 1).map (fun r => (r.period.flags, r.previous.day, r.current.day)) = some (0x010, 150, 151) ∧
    (t.pay.record 0).map (fun r => (r.openIn.map OpenIn.day, r.previous.day)) = some (some 151, 150) := by decide

/-- Witness of PayPairing at the ends of the pay days it tells apart (R56). -/
theorem test_pay_days :
    let record (day : Nat) (dir : Direction) : Option PayRecord :=
      (after (.punch (punchOf 40117 0 dir (clockAt 5 0 0 + day * 1382400 - 10 * 1382400))) live).pay.record 0
    (record 8 .dirIn).map (·.previous.flags) = some 0x100 ∧ (record 9 .dirOut).map (·.orphan.isSome) = some true ∧
    (record 10 .dirIn).map (·.openIn.isSome) = some true ∧ (record 11 .dirIn).map (·.openIn.map OpenIn.day) = some (some 151) ∧
    (record 12 .dirIn).map (·.current.flags) = some 0x200 := by decide

/-- An orphan OUT, and the IN that pairs with it: one not later than the orphan is credited, a later one is not (R57). -/
theorem test_orphan_paired :
    let s : State := { live with pay := { live.pay with
      records := [(0, { PayRecord.fresh 150 with orphan := some ⟨clockAt 4 30 0, 0, 2⟩ })] } }
    let taken (time : Nat) := ((after (.punch (punchOf 40117 0 .dirIn time)) s).pay.record 0).map fun r =>
      (r.current.intervals, r.orphan.isSome, r.openIn.isSome)
    taken (clockAt 4 30 0) = some (1, false, false) ∧ taken (clockAt 4 10 0) = some (1, false, false) ∧
    taken (clockAt 4 30 0 + 1) = some (0, false, true) := by decide

/-- Witness of IntervalCredit: a plain class from 05:52:40 to 06:10:30 is credited from 05:53 to 06:10. -/
theorem test_plain_interval :
    ((after (.punch (punchOf 40117 0 .dirOut (clockAt 6 10 30))) openIn).pay.record 0).map
      (fun r => (r.current.regular, r.current.lastOut, r.openIn.isSome)) = some (17, some (130, 0), false) := by decide

/-- A BEACON frame of station 2. -/
def beaconOf (era : BitVec 8) (time : Nat) (fresh : Bool) (next : BitVec 8) : BeaconFrame :=
  { source := 2, state := .live, fresh, isolated := false, era, time := BitVec.ofNat 32 time, next }

theorem test_beacon :
    let quiet : State := { live with bell := { live.bell with entries := List.replicate 48 .reset } }
    ((after (.beacon (beaconOf 0 (clockAt 5 5 1) false 9)) live).peer 2).offset.map Offset.ticks = some 16 ∧
    (after (.beacon (beaconOf 127 (clockAt 5 5 1) false 9)) quiet).clock.era = 127 ∧
    (after (.beacon (beaconOf 127 (clockAt 5 5 1) false 9)) quiet).clock.time = clockAt 5 5 1 ∧
    ((after (.beacon (beaconOf 128 (clockAt 5 5 1) false 9)) live).peer 2).behindEra = 1 ∧
    (after (.beacon (beaconOf 0 (clockAt 5 5 1) true 9)) live).doubtActive = true := by decide

/-- A peer behind in era, or 128 apart, keeps no offset, and an earlier one is cleared (R135). -/
theorem test_beacon_behind :
    let held := after (.beacon (beaconOf 0 (clockAt 5 5 1) false 9)) live
    (held.peer 2).offset.isSome = true ∧
    ((after (.beacon (beaconOf 255 (clockAt 5 5 1) false 9)) held).peer 2).offset = none ∧
    ((after (.beacon (beaconOf 128 (clockAt 5 5 1) false 9)) held).peer 2).offset = none ∧
    ((after (.beacon (beaconOf 255 (clockAt 5 5 1) false 9)) held).peer 2).behindEra = 1 := by decide

/-- Cues for entry 3: early, in the window, in EVACUATE, and for the numbers beyond the schedule (R101). -/
theorem test_bellCue :
    let at0 (x : StationState) (h m s : Nat) : State :=
      { ringing x with clock := { (ringing x).clock with time := clockAt h m s } }
    let cue : Instr := .bellCue { source := 2, entry := 3, day := 150 }
    (after cue (at0 .live 5 58 59)).bell.earlyCue = 1 ∧ (after cue (at0 .live 5 59 0)).bell.arbiter.isSome = true ∧
    (after cue (at0 .evacuate 5 59 0)).bell.suppressed = 1 ∧
    (after (.bellCue { source := 2, entry := 48, day := 150 }) (at0 .live 6 0 0)).bell = (ringing .live).bell ∧
    after cue (at0 .setup 6 0 0) = at0 .setup 6 0 0 := by decide

/-- A PUNCH with no badge number, a run that is no frame, and a frame of the own number (R113, R114). -/
theorem test_lineErrors :
    (after (.punch (punchOf 0 0 .dirIn 0)) live).line.errors = 1 ∧
    (after (.lineError (.heard [⟨0xA5, true⟩])) live).line.errors = 1 ∧
    (after (.lineError (.trailing [⟨0x00, true⟩])) live).line.errors = 1 ∧
    (after (.clear ⟨5, .input⟩) live).line.clashes = 1 ∧ (after (.allClearFrame 5) live).line.clashTimer = some 960 ∧
    (after (.lineError (.heard [])) setup).line.errors = 0 := by decide

/-- A station with a punch in its journal. -/
def queued : State :=
  { live with journal := { live.journal with
      entries := [⟨4, 17, 40117, .lane2, .dirIn, .passed, clockAt 5 5 4, 0⟩], next := 18 } }

/-- 06 section 6.7 case 1: station 5, attempt 0, waits 6 slots; then the punch is sent and leaves the journal. -/
theorem test_sending_case1 :
    let deferring := after .deferralStart queued
    let sending := after .deferralEnd deferring
    queued.sends ∧ deferring.line.deferral = some 6 ∧ (after .yield deferring).line.deferral = none ∧
    sending.line.sending.map (frameSource ·.frame) = some 5 ∧ (after .sentWhole sending).journal.entries = [] := by
  refine ⟨by unfold State.sends; decide, ?_⟩
  decide

/-- A station that sends at an attempt with a number of consecutive drops. -/
def cut (attempt drops : Nat) : State :=
  { queued with line := { queued.line with
      attempt, drops, inHand := some ⟨.punch, 4⟩, sending := some ⟨⟨.punch, 4⟩, .allClear 5⟩ } }

/-- 06 section 6.7 case 3: the sixteenth collision drops the frame, and the third drop in a row isolates the station. -/
theorem test_collision_case3 :
    (after .collision (cut 14 0)).line.attempt = 15 ∧ (after .collision (cut 15 0)).journal.entries = [] ∧
    (after .collision (cut 15 1)).peers.isolated = false ∧ (after .collision (cut 15 2)).peers.isolated = true ∧
    (after .collision (cut 15 2)).faults.line.causes = [.isolated] ∧
    (after .sentWhole (after .collision (cut 15 2))).peers.isolated = true := by decide

/-- The check value that R204's register gives for the nine digits: the generator 0xA001, start 0xFFFF, no inversion. -/
theorem test_crc_check : crc16 [0x31, 0x32, 0x33, 0x34, 0x35, 0x36, 0x37, 0x38, 0x39] = 0x4B37#16 := by
  decide +kernel

/-- The bytes of a PUNCH and of a BEACON before the CRC, by the tables of R204. -/
theorem test_frame_bytes :
    frameBody (.punch (punchOf 40117 17 .dirOut 0x01020304)) =
      [0x31, 0x02, 0x11, 0xB5, 0x9C, 0x00, 0x62, 0x04, 0x03, 0x02, 0x01, 0x00] ∧
    frameBody (.beacon { beaconOf 7 0x01020304 true 9 with state := .evacuate }) =
      [0x32, 0x02, 0x43, 0x07, 0x04, 0x03, 0x02, 0x01, 0x09] ∧
    readFrame (frameBytes (.clear ⟨2, .relay⟩)) = some (.clear ⟨2, .relay⟩) ∧ frameValid (.allClear 3) = true := by
  decide +kernel

/-! ## Supply and reset -/

theorem test_holdover :
    (live.station.serving = true ∧ live.inputs.backupLow = false) ∧
    (after .supplyFailure live).station = .holdover ∧ ((after .supplyFailure live).lane .lane4).drive = true ∧
    ((after .supplyFailure live).lane .lane1).drive = false ∧
    (after .supplyReturn (after .supplyFailure live)).station = .join ∧
    (after .supplyFailure setup).station = .setup ∧
    (after .supplyFailure { live with inputs := { live.inputs with backupLow := true } }).station = .setup := by decide

/-- Under ESSENTIAL the evac slot is emptied and the frame in hand stays named (assumption 36). -/
theorem test_holdover_inHand :
    let s := { live with line := { live.line with evac := some ⟨7, .allClear⟩, inHand := some ⟨.allClear, 7⟩, attempt := 3 } }
    (after .supplyFailure s).line.evac = none ∧ (after .supplyFailure s).line.inHand = some ⟨.allClear, 7⟩ ∧
    (after .supplyFailure s).line.attempt = 3 := by decide

theorem test_reset :
    (after .fullReset live).inReset = true ∧ (after .resetRelease (after .fullReset live)).inReset = false ∧
    (after .backupLoss live).badges.entries = [] ∧
    after (.hold 0) (after .fullReset live) = after .fullReset live ∧ (after .fullReset live).readPort 0x00 = 0 := by decide

/-- While the reset line is held asserted the part stays in reset, through a backup loss and the return of the gate supply
(R172, R186). -/
theorem test_reset_line :
    let lost := after .backupLoss (after .fullReset live)
    let back := after .supplyReturn lost
    lost.inputs.resetLine = true ∧ back.inReset = true ∧ back.supply.unpowered = false ∧ back.idle = back ∧
    (after .resetRelease back).inReset = false ∧ (after .resetRelease lost).inReset = true ∧
    (after .supplyReturn (after .resetRelease lost)).inReset = false := by decide

/-- The levels count when a reset ends: both supplies low are a backup loss, and the gate supply alone starts the failure
delay (R180). -/
theorem test_reset_levels :
    let held (i : Input) (s : State) : State := after (.inputLevelChange i true) s
    let gate := after .resetRelease (held .gateSupply (after .fullReset live))
    let both := after .resetRelease (held .backupSupply (held .gateSupply (after .fullReset live)))
    gate.inReset = false ∧ gate.supply.failing = some 1 ∧ gate.supply.loss = false ∧
    both.supply.loss = true ∧ both.idle.pending = [.backupLoss] ∧
    (after .resetRelease (after .fullReset live)).supply = State.reset.supply := by decide

/-- Witness of TablesKept, DrivesKept, ReleasesKept, EventsTaken and NeverLowered. -/
theorem test_invariants_witness :
    (TablesSized live ∧ TableOrdered live ∧ RecordsOrdered live ∧ RecordsSingle live) ∧ DrivesFollow live ∧
    ReleasesPlaced live ∧ live.watch.handed = [] ∧ live.station ≠ .setup ∧ step live = .next live.idle :=
  ⟨⟨live_sized, live_ordered⟩, live_drives, live_releases, rfl, by decide, rfl⟩

/-! ## The supply monitor (R180, R181, R186) -/

/-- The gate supply below its failure threshold, and in HOLDOVER. -/
def gateFallen : State := after (.inputLevelChange .gateSupply true) live
def heldOver : State := after .supplyFailure live

/-- A level change of each supply sense, where it starts a delay and where it stops one. -/
theorem test_supply_levels :
    live.inputs.level .gateSupply ≠ true ∧ gateFallen.supply.failing = some 1 ∧
    (after (.inputLevelChange .gateSupply false) gateFallen).supply.failing = none ∧
    (after (.inputLevelChange .gateReturn true) heldOver).supply.returning = some 8 ∧
    (after (.inputLevelChange .gateReturn false) (after (.inputLevelChange .gateReturn true) heldOver)).supply.returning
      = none ∧
    (after (.inputLevelChange .backupSupply true) live).supply.loss = false ∧
    (after (.inputLevelChange .backupSupply true) gateFallen).supply.loss = true ∧
    (after (.inputLevelChange .gateReturn true) { live with inputs := { live.inputs with gateGood := false } }).supply.returning
      = none := by decide

/-- READY with the gate supply low is followed by the failure in JOIN (R180): the delay is counted afresh. -/
theorem test_ready_gateLow :
    (after .ready { setup with inputs := { setup.inputs with gateLow := true } }).supply.failing = some 1 ∧
    (after .ready setup).supply.failing = none := by decide

/-- On an empty queue the failure delay runs out, and SUPPLY_FAILURE is queued. -/
theorem test_supply_due : gateFallen.idle.supply.failing = some 0 ∧ gateFallen.idle.idle.pending = [.supplyFailure] := by
  decide

/-- After a backup loss the part is without power: nothing is taken until SUPPLY_RETURN, its power-on reset (R186). -/
theorem test_unpowered :
    let lost := after .backupLoss live
    lost.supply.unpowered = true ∧ after .resetRelease lost = lost ∧ after (.hold 0) lost = lost ∧
    (after .supplyReturn lost).inReset = false ∧ (after .supplyReturn lost).supply.unpowered = false ∧
    (after .supplyReturn lost).station = .setup ∧ (after .supplyReturn live).station = .live ∧
    (after .fullReset lost).supply.unpowered = true ∧ lost.idle = lost ∧
    { lost with inputs := live.inputs }.idle.pending = [.supplyReturn] ∧
    (after .fullReset { lost with inputs := live.inputs }).supply.unpowered = false ∧
    (after .supplyFailure heldOver).control = heldOver.control := by decide

/-! ## Faults left by a clearing (R40, R193) -/

/-- Lane `l` in FAULT by one of its records, ACTIVE under action OPEN. -/
def faulted (l : Lane) (k : LaneFaultKind) (f : LaneUnit → LaneUnit) : State :=
  { withLane l (fun u => f { u with state := .fault }) with
    faults := { live.faults with lanes := live.faults.lanes.set l ((live.faults.lanes.get l).set k
      { state := .active, count := 1, causes := [], action := some .actOpen }) } }

/-- Witness of FaultLeft in GoodRead, SenseCheck and DoorClosing: READER by a good frame, STRIKE by an agreement, DOOR_HELD by a
closing; and a lane with another such fault stays in FAULT. -/
theorem test_fault_left :
    ((after (.readerFrame .lane4 read40117) (faulted .lane4 .reader id)).lane .lane4).state ≠ .fault ∧
    ((after (.senseCheckExpiry .lane2) (faulted .lane2 .strike fun u =>
      { u with senseCheck := some 0, sense := ⟨some false, none⟩ })).lane .lane2).state = .idle ∧
    ((after (.debounceExpiry (.aux .lane4)) (faulted .lane4 .doorHeld fun u => { u with aux := ⟨some true, some 0⟩ })).lane
      .lane4).state = .idle ∧
    ((after (.readerFrame .lane2 read40117) (faulted .lane2 .strike id)).lane .lane2).state = .fault := by decide

/-! ## Steps of plant time in the bell unit and the pay unit (R69, R86, R99) -/

/-- The small station 30 seconds before the instant of entry 3. -/
def beforeRing (x : StationState) : State :=
  { ringing x with clock := { live.clock with time := clockAt 5 59 30, countedFrom := clockAt 5 59 30 } }

/-- Witness of BellStepped: a step over the instant is caught up to the end of the cue window of 60 seconds, SUPPRESSED in
EVACUATE, and MISSED beyond it; a step to the tick before the instant takes nothing. -/
theorem test_bell_stepped :
    let stepped (x : StationState) (time : Nat) : State := after (.setTime (BitVec.ofNat 32 time) 1) (beforeRing x)
    (stepped .live (clockAt 6 1 0)).bell.arbiter.map Sounding.entry = some (some 3) ∧
    (stepped .live (clockAt 6 1 0)).line.cues.length = 1 ∧
    (stepped .live (clockAt 6 1 0 + 1)).bell.missed = 1 ∧ (stepped .live (clockAt 6 1 0 + 1)).bell.arbiter = none ∧
    (stepped .evacuate (clockAt 6 0 0)).bell.suppressed = 1 ∧
    (stepped .live (clockAt 6 0 0 - 1)).bell = (beforeRing .live).bell ∧
    (stepped .live (clockAt 5 0 0)).bell = (beforeRing .live).bell := by decide

/-- Several instants stepped over are taken in the order of R99: entry 7 before the cue window is MISSED, entry 3 takes the
output, and entry 5 of the same instant meets it there. -/
theorem test_bells_stepped :
    let set (k minute : Nat) := modAt (fun e => { e with minute, mask := 0x08 : BellEntry }) k
    let s : State := { beforeRing .live with
      clock := { live.clock with time := clockAt 5 30 0, countedFrom := clockAt 5 30 0 }
      bell := { live.bell with entries := set 5 360 (set 7 340 (ringing .live).bell.entries) } }
    let t := after (.setTime (BitVec.ofNat 32 (clockAt 6 0 30)) 1) s
    t.bell.trace.map (fun r => (r.entry, r.outcome)) = [(7, .missed), (3, .rung), (5, .suppressed)] ∧
    t.line.cues.map Cue.entry = [3, 5] ∧ t.bell.missed = 1 ∧ t.bell.suppressed = 1 := by decide

/-- Witness of EndMarked: a step onto the end of the range hands a CLOCK detection, and a step away from it
clears the cause (R77). -/
theorem test_end_stepped :
    let ended := after (.setTime 0xFFFFFFFF 1) { live with pay := { live.pay with today := 3106 } }
    ended.clock.endMark = true ∧ ended.faults.clock.causes = [.endOfTime] ∧
    ended.faults.clock.count = 1 ∧ ended.watch.incidents.map Incident.kind = [.eraChange] ∧
    (after (.setTime 0xFFFFFF00 1) ended).clock.endMark = false ∧
    (after (.setTime 0xFFFFFF00 1) ended).faults.clock.causes = [] := by decide

/-- Witness of RollsTaken: a step over one roll and over two, and back. -/
theorem test_rolls_taken :
    (after (.setTime (BitVec.ofNat 32 (clockAt 4 0 0 + 1382400)) 1) openIn).pay.today = 151 ∧
    (after (.setTime (BitVec.ofNat 32 (clockAt 4 0 0 + 2 * 1382400)) 1) openIn).port.payFlag = true ∧
    (after (.setTime (BitVec.ofNat 32 (clockAt 4 0 0 + 2 * 1382400)) 1) openIn).pay.today = 152 ∧
    (after (.setTime (BitVec.ofNat 32 (clockAt 3 59 59)) 1) openIn).pay = openIn.pay := by decide

/-! ## Witnesses: for each statement with hypotheses, a state and operands that meet them all, clause by clause

The statements of the commands of SETUP have `test_setup_witness`, AllClearCommand and ClearFrames `test_evacuating_witness`,
the invariants `test_invariants_witness`; those that ask for a part out of reset, a served station or a sending one have
`live_served` and `live_sends`. The codes at the ends of each range are in the tests above. -/

/-- Nothing waits and no rule is armed, of a state with the watch unit of `live`. -/
theorem calm_of {s : State} (h : s.watch = live.watch) : s.calm := by
  unfold State.calm; rw [h]; exact live_calm

/-- The tables of a state have their sizes, with those of `live`. -/
theorem sized_of {s : State} (h : (s.pay, s.bell, s.peers, s.watch, s.port) = (live.pay, live.bell, live.peers, live.watch,
    live.port)) : TablesSized s := by
  obtain ⟨h1, h2, h3, h4, h5⟩ : s.pay = live.pay ∧ s.bell = live.bell ∧ s.peers = live.peers ∧ s.watch = live.watch ∧
      s.port = live.port := by simpa [Prod.ext_iff] using h
  unfold TablesSized; rw [h1, h2, h3, h4, h5]; exact live_sized

theorem test_witness_resetCommands : (after .fullReset live).inReset = true ∧ Instr.resume ≠ .fullReset ∧
    Instr.resume ≠ .resetRelease ∧ Instr.resume ≠ .backupLoss := by decide

theorem test_witness_mailbox : (live.inReset = false ∧ live.port.data.length = 64 ∧ live.port.go = false) ∧
    busy.inReset = false ∧ busy.port.data.length = 64 ∧ busy.port.go = true := by decide

theorem test_witness_badgePut : Spells (block 40117 2)
    { number := 40117, cls := 2, status := .active, mode := .strict, home := 2, expiry := some 3106 } ∧
    badgeHere.paySlot = some 0 ∧ badgeAway.paySlot = none ∧ live.pay.records.length < 1024 := by
  unfold Spells; decide

/-- PayRead's linked record, the ring of RecordReads with an entry and without, and an incident to take. -/
theorem test_witness_reads : live.lookup 40117 = some badgeHere ∧ live.pay.record 0 = some (.fresh 150) ∧
    live.watch.trace.getD live.watch.readPtr none = none ∧
    (ringFull.watch.trace.getD ringFull.watch.readPtr none).isSome = true ∧ live.watch.incidents = [] ∧
    oneIncident.watch.incidents.length = 1 := by decide

theorem test_witness_armDisarm : (live.inReset = false ∧ live.station.serving = true ∧ (3 : BitVec 16).toNat = RuleNo.rule3.number) ∧
    live.control.laneReasons.get .lane4 = [] ∧ (4 : BitVec 16).toNat = Lane.lane4.number := by decide

theorem test_witness_badReader : live.watches .lane2 ∧ live.calm ∧ readReader [] = none ∧
    live.faults.lanes.lane2.reader.state = .normal ∧ live.sw5.reader.filter ≤ live.faults.lanes.lane2.reader.count + 1 :=
  ⟨⟨live_served, by decide⟩, live_calm, by decide⟩

theorem test_witness_goodRead : live.watches .lane2 ∧ live.calm ∧ TablesSized live ∧ readReader read40117 = some 40117 ∧
    (live.lane .lane2).state = .idle ∧ (live.lane .lane2).release = none ∧ refusalRow live .lane2 40117 = none :=
  ⟨⟨live_served, by decide⟩, live_calm, live_sized, by decide⟩

theorem test_witness_firstLevel : sought.watches .lane3 ∧ (sought.lane .lane3).aux.level = none ∧
    (sought.lane .lane3).aux.timer.isSome = true ∧ sought.control.contactFound = false ∧
    sought.control.contactTimer.isSome = true :=
  ⟨⟨by unfold State.served; decide, by decide⟩, by decide⟩

theorem test_witness_passageReleased : (released .lane2).watches .lane2 ∧ (released .lane2).calm ∧
    (released .lane2).inputs.aux.get .lane2 = true ∧ EdgeReady ((released .lane2).lane .lane2).aux true ∧
    (released .lane2).station = .live ∧ ((released .lane2).lane .lane2).state = .released ∧
    ((released .lane2).lane .lane2).release = some release ∧ TablesSized (released .lane2) :=
  ⟨⟨by unfold State.served; decide, by decide⟩, calm_of rfl, by decide, by unfold EdgeReady; decide, by decide, by decide,
    by decide, sized_of rfl⟩

theorem test_witness_passagesUnreleased : (rising .lane2 id).watches .lane2 ∧ (rising .lane2 id).calm ∧
    (rising .lane2 id).inputs.aux.get .lane2 = true ∧ EdgeReady ((rising .lane2 id).lane .lane2).aux true ∧
    (rising .lane2 id).station ≠ .evacuate ∧ ((rising .lane2 id).lane .lane2).state = .idle ∧
    ((rising .lane2 id).lane .lane2).evacRead = none ∧ TablesSized (rising .lane2 id) :=
  ⟨⟨by unfold State.served; decide, by decide⟩, calm_of rfl, by decide, by unfold EdgeReady; decide, by decide, by decide,
    by decide, sized_of rfl⟩

theorem test_witness_senseCheck : (checking true).watches .lane2 ∧ (checking true).calm ∧
    ((checking true).lane .lane2).state ≠ .fault ∧ ((checking true).lane .lane2).senseCheck.isSome = true ∧
    ((checking true).lane .lane2).sense.level ≠ some ((checking true).lane .lane2).drive ∧
    EdgeReady ((senseMoves true).lane .lane2).sense ((senseMoves true).inputs.sense.get .lane2) :=
  ⟨⟨by unfold State.served; decide, by decide⟩, calm_of rfl, by decide, by decide, by decide, by unfold EdgeReady; decide⟩

/-- A release whose timer ran out, and a door held open. -/
def expired : State :=
  { withLane .lane2 (fun u => { u with state := .released, release := some release, releaseTimer := some 0 }) with
    control := settings }
def heldDoor : State := withLane .lane4 fun u => { u with state := .opened, heldOpen := some 0 }

theorem test_witness_laneTimers : (expired.watches .lane2 ∧ expired.calm ∧ (expired.lane .lane2).state = .released ∧
    (expired.lane .lane2).releaseTimer.isSome = true ∧ (expired.lane .lane2).release = some release ∧
    expired.station ≠ .evacuate) ∧ heldDoor.watches .lane4 ∧ heldDoor.calm ∧ (heldDoor.lane .lane4).state = .opened ∧
    (heldDoor.lane .lane4).heldOpen.isSome = true :=
  ⟨⟨⟨by unfold State.served; decide, by decide⟩, calm_of rfl, by decide⟩, ⟨by unfold State.served; decide, by decide⟩,
    calm_of rfl, by decide⟩

theorem test_witness_clock : live.inReset = false ∧ live.clock.sixteenth ≤ 15 ∧ live.clock.time + 17 < 4294967295 ∧
    live.clock.endMark = false ∧ live.clock.degraded = false ∧ live.station ≠ .holdover ∧
    payDay live.dayRollMinute live.clock.time ≤ live.pay.today := by decide

theorem test_witness_ringInstant : TablesSized (ringing .live) ∧ (ringing .live).inReset = false ∧
    (let x := (ringing .live).bellEntry 3
     let instant := 150 * 1382400 + (x.minute * 60 + x.second) * 16
     (ringing .live).clock.countedFrom + (ringing .live).sw4.bellAdvance < instant ∧
       instant ≤ (ringing .live).clock.time + (ringing .live).sw4.bellAdvance ∧
       x.mask.getLsbD ((150 + (ringing .live).sw0.weekday) % 7) = true ∧ x.mark = none) := by
  unfold TablesSized; decide

theorem test_witness_patternPhases : (sounding .scheduled true 1).inReset = false ∧
    (sounding .scheduled true 1).bell.arbiter.isSome = true := by decide

/-- A roll due, a silent peer, a running clash timer and a beacon interval that ran out. -/
theorem test_witness_timers :
    (let s : State := { live with pay := { live.pay with today := 149 } }
     s.inReset = false ∧ s.station ≠ .setup ∧ payDay s.dayRollMinute s.clock.time = s.pay.today + 1) ∧
    (let s := live.modPeer 2 fun e => { e with state := .heard, silence := some 0 }
     s.station.serving = true ∧ (s.peer 2).state = .heard ∧ (s.peer 2).silence.isSome = true) ∧
    (after (.numberClash (.allClear 5)) live).line.clashTimer.isSome = true ∧ twoPeers.line.beaconTimer.isSome = true := by
  decide

theorem test_witness_endOfJoin : joining.inReset = false ∧ joining.calm ∧ joining.station = .join ∧
    joining.control.joinTimer.isSome = true := ⟨rfl, calm_of rfl, rfl, rfl⟩

theorem test_witness_ruleMatches : (after (.arm 0) ruled).watch.rules.rule0.armed = true ∧
    (after (.arm 0) ruled).watch.rules.rule0.combine = .either ∧ refusal.kind ∈ refusalRule.a.kinds ∧
    refusal.lane ∈ refusalRule.a.lanes ∧ badgePasses refusalRule.a refusal.badge :=
  ⟨by decide, by decide, by decide, by decide, trivial⟩

/-- One event waiting, of EventTaking. -/
theorem test_witness_eventTaking :
    TablesSized (live.hand refusal) ∧ (live.hand refusal).watch.handed = [refusal] ∧
    ((live.hand refusal).settleEvents.watch.trace.getD 0 none).map TraceEntry.outcome = some .refuse ∧
    (live.hand refusal).settleEvents.watch.handed = [] := by unfold TablesSized; decide

theorem test_witness_frames : live.served ∧ live.calm ∧ TablesSized live ∧ live.line.sending = none ∧
    (punchOf 40117 0 .dirOut 0).source ≠ live.ownStation ∧ live.inReset = false ∧ live.station.serving = true ∧
    frameValid (.allClear 5) = true ∧ frameSource (.allClear 5) = live.ownStation :=
  ⟨live_served, live_calm, live_sized, by decide⟩

theorem test_witness_payPairing : live.lookup 40117 = some badgeHere ∧ badgeHere.paySlot = some 0 ∧
    live.pay.record 0 = some (.fresh 150) ∧ (punchOf 40117 0 .dirOut 0).badge.toNat = 40117 := by decide

theorem test_witness_intervalCredit : openIn.served ∧ openIn.calm ∧
    (openIn.pay.record 0).bind PayRecord.openIn = some ⟨clockAt 5 52 40, 150, 0, 0, 5, false⟩ ∧
    clockAt 5 52 40 ≤ (punchOf 40117 0 .dirOut (clockAt 6 10 30)).time.toNat ∧
    payDay openIn.dayRollMinute (clockAt 6 10 30) = openIn.pay.today ∧ openIn.pay.shiftClass 0 = .plain :=
  ⟨by unfold State.served; decide, calm_of rfl, by decide⟩

theorem test_witness_sending : queued.sends ∧ queued.line.deferral = none ∧ queued.line.sending = none ∧
    (after .deferralStart queued).line.deferral.isSome = true ∧
    (after .deferralStart queued).line.inHand = some ⟨.punch, 4⟩ ∧ (cut 15 2).sends ∧
    (cut 15 2).line.sending.isSome = true ∧ (cut 14 0).line.attempt < 15 :=
  ⟨by unfold State.sends; decide, by decide, by decide, by decide, by decide, by unfold State.sends; decide, by decide⟩

theorem test_witness_holdover : live.inReset = false ∧ live.station.serving = true ∧ live.inputs.backupLow = false ∧
    live.calm ∧ (after .supplyFailure live).station = .holdover ∧ (after .supplyFailure live).inReset = false :=
  ⟨rfl, rfl, rfl, live_calm, by decide⟩

end Sys2Proof.Machine.Tests
end

section
/-! SUPPORT. Commands of the terminal port that change the pay unit: what they leave alone, and PERIOD CLOSE (R73). -/

namespace Sys2Proof.Machine

/-- A command that changes the pay unit and completes has changed nothing but the pay unit and the port. -/
theorem State.answer_modPay_load_only (s : State) (r : Request) (f : PayUnit → PayUnit) (c : ResultCode) :
    let t := ((s.load r).modPay f).answer c
    t = { s with pay := t.pay, port := t.port } := by
  intro t
  calc t = { (s.load r) with pay := t.pay, port := t.port } := rfl
    _ = { s with pay := t.pay, port := t.port } := by rw [State.load_only]

/-- The pay unit after a command that changes it and completes. -/
theorem State.answer_modPay_load_pay (s : State) (r : Request) (f : PayUnit → PayUnit) (c : ResultCode) :
    (((s.load r).modPay f).answer c).pay = f s.pay := by
  simp

/-- A period closed, field by field: the zero period has no flags and SATURATED clear (R53, R73). -/
theorem PayRecord.closePeriod_eq (r : PayRecord) :
    r.closePeriod =
      { r with
        last := r.period
        period := { regular := 0, ot1 := 0, ot2 := 0, night := 0, days := 0, flags := 0, saturated := false } } := rfl

/-- Where PERIOD CLOSE is taken, every linked record's period is closed (R73). -/
theorem exec_periodClose_taken (s : State) (h : s.inReset = false) (hc : s.portTakes .periodClose)
    (hs : s.station.serving = true) :
    exec .periodClose s = .next (((s.load { code := 0x31 }).modPay fun p =>
      { p with records := p.records.map fun r => (r.1, r.2.closePeriod) }).answer .done) :=
  congrArg _ (s.command_taken .periodClose _ .served _ h hc hs)

/-- Where PERIOD CLOSE is not taken, it is answered NOT_IN_STATE (12 section 12.2). -/
theorem exec_periodClose_refused (s : State) (h : s.inReset = false) (hc : s.portTakes .periodClose)
    (hs : s.station.serving = false) :
    exec .periodClose s = .next ((s.load { code := 0x31 }).answer .notInState) :=
  congrArg _ (s.command_refused .periodClose _ .served _ h hc hs)

/-- Settles O16: the cases of how the port judges PERIOD CLOSE, by the station state. -/
theorem periodClose : Obligations.PeriodClose := by
  intro s hreset htakes
  constructor
  · intro hserving
    refine ⟨_, exec_periodClose_taken s hreset htakes hserving, completed_answer .done ?overrun,
      State.answer_modPay_load_only .., ?payFlag, ?pay⟩
    case overrun => simp
    case payFlag => simp
    case pay => simp only [State.answer_modPay_load_pay, PayRecord.closePeriod_eq]
  · intro hstation
    have hserving : s.station.serving = false := by
      obtain hsetup | hholdover := hstation
      · rw [hsetup]; rfl
      · rw [hholdover]; rfl
    exact ⟨_, exec_periodClose_refused s hreset htakes hserving, onlyAnswered_load s _ .notInState⟩

end Sys2Proof.Machine
end

section
/-! SUPPORT. Strikes driven in LIVE and HELD (R24), a step taken by every lane in turn, doubt and incidents as the statements
say them (R138, R155), and the departure from EVACUATE with the ALL CLEAR command (R43, R165, R167). -/

namespace Sys2Proof.Machine

/-! ## A step taken by every lane in turn -/

/-- Each lane's item changed by a step that may depend on the lane. -/
def PerLane.mapEach {α β : Type} (f : Lane → α → β) (p : PerLane α) : PerLane β :=
  ⟨f .lane1 p.lane1, f .lane2 p.lane2, f .lane3 p.lane3, f .lane4 p.lane4⟩

@[simp] theorem PerLane.get_mapEach {α β : Type} (f : Lane → α → β) (p : PerLane α) (l : Lane) :
    (p.mapEach f).get l = f l (p.get l) := by
  cases l <;> rfl

/-- A step that changes the lane it is taken on alone, taken on lanes that all have a property it asks for, changes each lane
once and nothing else. -/
theorem State.foldl_lanes {op : State → Lane → State} {g : Lane → LaneUnit → LaneUnit} (s : State) (P : LaneUnit → Prop)
    (hop : ∀ (p : PerLane LaneUnit) (l : Lane), P (p.get l) →
      op (s.modLanes fun _ => p) l = (s.modLanes fun _ => p).modLane l (g l))
    (hs : ∀ l, P (s.lane l)) :
    Lane.all.foldl op s = s.modLanes (PerLane.mapEach g) := by
  have step : ∀ (p : PerLane LaneUnit) (l : Lane), P (p.get l) →
      op (s.modLanes fun _ => p) l = s.modLanes fun _ => p.set l (g l (p.get l)) := hop
  change op (op (op (op (s.modLanes fun _ => s.lanes) .lane1) .lane2) .lane3) .lane4 = _
  rw [step s.lanes .lane1 (hs .lane1), step _ .lane2, step _ .lane3, step _ .lane4]
  exacts [rfl, hs .lane4, hs .lane3, hs .lane2]

/-! ## The strike drive in LIVE and HELD (R20, R24) -/

/-- A lane's strike driven, outside HOLDOVER: a lane that is OFF starts no sense check (R20). -/
def LaneUnit.driven (u : LaneUnit) (drive : Bool) : LaneUnit :=
  if u.kind = .off then { u with drive } else drivenLane u drive

/-- A lane with its strike driven by its state, as in LIVE and HELD (R24). -/
def LaneUnit.followed (u : LaneUnit) : LaneUnit := u.driven (liveDrive u)

theorem LaneUnit.followed_off {u : LaneUnit} (h : u.kind = .off) : u.followed = { u with drive := liveDrive u } := by
  simp [LaneUnit.followed, LaneUnit.driven, h]

theorem LaneUnit.followed_fitted {u : LaneUnit} {d : Bool} (h : u.kind ≠ .off) (hd : liveDrive u = d) :
    u.followed = drivenLane u d := by
  simp [LaneUnit.followed, LaneUnit.driven, h, hd]

/-- A strike that has its drive already starts nothing. -/
theorem LaneUnit.driven_self (u : LaneUnit) : u.driven u.drive = u := by
  simp [LaneUnit.driven, drivenLane]

/-- A strike driven by its lane's state stays as it is when it is driven so again. -/
@[simp] theorem LaneUnit.followed_followed (u : LaneUnit) : u.followed.followed = u.followed := by
  by_cases h : u.kind = .off <;> simp [LaneUnit.followed, LaneUnit.driven, drivenLane, liveDrive, h]

/-- One lane changed twice. -/
theorem State.modLane_modLane (s : State) (l : Lane) (f g : LaneUnit → LaneUnit) :
    (s.modLane l f).modLane l g = s.modLane l fun u => g (f u) := by
  simp [State.modLane, State.modLanes]

theorem State.modLane_self (s : State) (l : Lane) : s.modLane l id = s := by
  simp [State.modLane, State.modLanes]

theorem State.modLane_congr {s : State} {l : Lane} {f g : LaneUnit → LaneUnit} (h : f (s.lane l) = g (s.lane l)) :
    s.modLane l f = s.modLane l g := by
  simp only [State.modLane, State.modLanes]; rw [h]

/-- In LIVE and HELD a lane's strike is driven by the lane's state. -/
theorem State.driveOf_live {s : State} (h : s.station = .live ∨ s.station = .held) (l : Lane) :
    s.driveOf l = liveDrive (s.lane l) := by
  rcases h with h | h <;> simp only [State.driveOf, h] <;> rfl

theorem State.refreshDrive_live {s : State} (h : s.station = .live ∨ s.station = .held) (l : Lane) :
    s.refreshDrive l = s.modLane l LaneUnit.followed := by
  have hh : s.station ≠ .holdover := by rcases h with h | h <;> simp [h]
  simp only [State.refreshDrive, State.driveOf_live h]
  split
  next hd =>
    calc s = s.modLane l id := (s.modLane_self l).symm
      _ = _ := State.modLane_congr (by rw [LaneUnit.followed, hd, LaneUnit.driven_self]; rfl)
  next hd =>
    refine State.modLane_congr ?_
    by_cases hk : (s.lane l).kind = .off
    · simp [LaneUnit.followed_off hk, hk]
    · simp [LaneUnit.followed_fitted hk rfl, drivenLane, hk, hh, Ne.symm hd]

/-- In LIVE and HELD driving every strike changes the lanes alone. -/
theorem State.refreshDrives_live {s : State} (h : s.station = .live ∨ s.station = .held) :
    s.refreshDrives = s.modLanes (PerLane.mapEach fun _ => LaneUnit.followed) :=
  s.foldl_lanes (fun _ => True) (fun p l _ => State.refreshDrive_live (s := s.modLanes fun _ => p) h l)
    fun _ => trivial

/-! ## Lanes as a departure from EVACUATE leaves them (R43) -/

/-- A lane with no pending release has none to close. -/
theorem State.dropRelease_none {s : State} {l : Lane} (h : (s.lane l).release = none) : s.dropRelease l = s := by
  simp [State.dropRelease, h]

theorem LaneUnit.doorOpen_iff (u : LaneUnit) : u.doorOpen = true ↔ u.kind = .door ∧ u.aux.level = some true := by
  simp [LaneUnit.doorOpen]

theorem State.laneFaulted_iff (s : State) (l : Lane) : s.laneFaulted l = true ↔ openFault s l := by
  simp only [State.laneFaulted, FaultRecord.opens, Bool.or_eq_true, Bool.and_eq_true, decide_eq_true_eq, openFault]
  constructor
  · rintro ((h | h) | h)
    · exact ⟨.reader, h⟩
    · exact ⟨.strike, h⟩
    · exact ⟨.doorHeld, h⟩
  · rintro ⟨k, h⟩
    cases k
    case reader => exact .inl (.inl h)
    case strike => exact .inl (.inr h)
    case doorHeld => exact .inr h

/-- A lane as R43 leaves it before its strike is driven: OFF, or FAULT, OPEN, HELD or IDLE. -/
def State.freedLane (s : State) (l : Lane) (u : LaneUnit) : LaneUnit :=
  if u.kind = .off then { u with evacRead := none }
  else if s.laneFaulted l then
    { u with evacRead := none, state := .fault, heldOpen := if u.state = .fault then u.heldOpen else none }
  else if u.doorOpen then
    { u with evacRead := none, state := .opened, openDrive := false, heldOpen := some (s.heldOpenLimit l),
             releaseTimer := none }
  else { u with evacRead := none, state := s.restState l, heldOpen := none }

section
variable (s : State) (l : Lane) {u : LaneUnit}

theorem State.freedLane_off (h : u.kind = .off) : s.freedLane l u = { u with evacRead := none } := by
  simp [State.freedLane, h]

theorem State.freedLane_fault (h : u.kind ≠ .off) (hf : s.laneFaulted l = true) :
    s.freedLane l u =
      { u with evacRead := none, state := .fault, heldOpen := if u.state = .fault then u.heldOpen else none } := by
  simp [State.freedLane, h, hf]

theorem State.freedLane_door (h : u.kind ≠ .off) (hf : s.laneFaulted l = false) (hd : u.doorOpen = true) :
    s.freedLane l u =
      { u with evacRead := none, state := .opened, openDrive := false, heldOpen := some (s.heldOpenLimit l),
               releaseTimer := none } := by
  simp [State.freedLane, h, hf, hd]

theorem State.freedLane_rest (h : u.kind ≠ .off) (hf : s.laneFaulted l = false) (hd : u.doorOpen = false) :
    s.freedLane l u = { u with evacRead := none, state := s.restState l, heldOpen := none } := by
  simp [State.freedLane, h, hf, hd]

end

/-- A lane as its own step of the departure leaves it: a lane in FAULT that stays there is not driven by it. -/
def State.leftLane (s : State) (l : Lane) (u : LaneUnit) : LaneUnit :=
  if u.kind ≠ .off ∧ s.laneFaulted l = true ∧ u.state = .fault then s.freedLane l u else (s.freedLane l u).followed

theorem State.leftLane_kept {s : State} {l : Lane} {u : LaneUnit} (hk : u.kind ≠ .off) (hf : s.laneFaulted l = true)
    (hs : u.state = .fault) : s.leftLane l u = { u with evacRead := none } := by
  rw [State.leftLane, if_pos ⟨hk, hf, hs⟩, s.freedLane_fault l hk hf, if_pos hs, ← hs]

theorem State.leftLane_driven {s : State} {l : Lane} {u : LaneUnit}
    (h : ¬ (u.kind ≠ .off ∧ s.laneFaulted l = true ∧ u.state = .fault)) :
    s.leftLane l u = (s.freedLane l u).followed := if_neg h

/-- Once every strike is driven, each lane is as R43 leaves it with its strike following its state. -/
theorem State.leftLane_followed (s : State) (l : Lane) (u : LaneUnit) :
    (s.leftLane l u).followed = (s.freedLane l u).followed := by
  unfold State.leftLane; split <;> simp

theorem State.openDoor_live {s : State} (h : s.station = .live ∨ s.station = .held) (l : Lane) (d : Bool) :
    s.openDoor l d = s.modLane l fun u =>
      LaneUnit.followed
        { u with state := .opened, openDrive := d, heldOpen := some (s.heldOpenLimit l), releaseTimer := none } := by
  have hstart : s.heldOpenStart l = some (s.heldOpenLimit l) := by
    rcases h with h | h <;> simp only [State.heldOpenStart, h]
  rw [State.openDoor, State.refreshDrive_live (s := s.modLane l _) h, State.modLane_modLane, hstart]

theorem State.settleLane_live {s : State} (h : s.station = .live ∨ s.station = .held) (l : Lane) :
    s.settleLane l = s.modLane l fun u =>
      LaneUnit.followed
        (if u.doorOpen then
          { u with state := .opened, openDrive := false, heldOpen := some (s.heldOpenLimit l), releaseTimer := none }
         else { u with state := s.restState l, heldOpen := none }) := by
  unfold State.settleLane
  split
  next hd =>
    rw [State.openDoor_live h]
    exact State.modLane_congr (by simp [hd])
  next hd =>
    rw [State.refreshDrive_live (s := s.modLane l _) h, State.modLane_modLane]
    exact State.modLane_congr (by simp [hd])

theorem State.enterFault_live {s : State} (h : s.station = .live ∨ s.station = .held) {l : Lane}
    (hr : (s.lane l).release = none) :
    s.enterFault l =
      if (s.lane l).state = .fault then s
      else s.modLane l fun u => LaneUnit.followed { u with state := .fault, heldOpen := none } := by
  unfold State.enterFault
  split
  · rfl
  · rw [State.dropRelease_none hr, State.refreshDrive_live (s := s.modLane l _) h, State.modLane_modLane]

/-- A lane with no pending release taken out of EVACUATE, by the cases of R43. -/
theorem State.releaseLane_live {s : State} (h : s.station = .live ∨ s.station = .held) {l : Lane}
    (hr : (s.lane l).release = none) : s.releaseLane l = s.modLane l (s.leftLane l) := by
  simp only [State.releaseLane]
  split
  case isTrue hk =>
    rw [State.refreshDrive_live (s := s.modLane l _) h, State.modLane_modLane]
    exact State.modLane_congr (by rw [State.leftLane_driven fun ⟨hfit, _⟩ => hfit hk, s.freedLane_off l hk])
  case isFalse hk =>
    split
    case isTrue hf =>
      rw [State.enterFault_live (s := s.modLane l _) h (by simpa using hr), State.modLane_lane_same]
      split
      next hs => exact State.modLane_congr (by rw [State.leftLane_kept hk hf hs])
      next hs =>
        rw [State.modLane_modLane]
        have hs' : (s.lane l).state ≠ .fault := hs
        exact State.modLane_congr (by
          rw [State.leftLane_driven fun ⟨_, _, hfault⟩ => hs' hfault, s.freedLane_fault l hk hf, if_neg hs'])
    case isFalse hf =>
      rw [State.settleLane_live (s := s.modLane l _) h, State.modLane_modLane]
      refine State.modLane_congr ?_
      rw [State.leftLane_driven fun ⟨_, hfault, _⟩ => hf hfault]
      cases hd : (s.lane l).doorOpen
      case true =>
        rw [s.freedLane_door l hk (Bool.eq_false_iff.2 hf) hd]; exact congrArg LaneUnit.followed (if_pos hd)
      case false =>
        rw [s.freedLane_rest l hk (Bool.eq_false_iff.2 hf) hd]
        exact congrArg LaneUnit.followed (if_neg (Bool.eq_false_iff.1 hd))

/-- Every lane taken out of EVACUATE and every strike driven: the lanes alone are changed. -/
theorem State.releaseLanes_live {s : State} (h : s.station = .live ∨ s.station = .held)
    (hr : ∀ l, (s.lane l).release = none) :
    (Lane.all.foldl (fun s l => s.releaseLane l) s).refreshDrives =
      s.modLanes (PerLane.mapEach fun l u => (s.freedLane l u).followed) := by
  have hlanes : Lane.all.foldl (fun s l => s.releaseLane l) s = s.modLanes (PerLane.mapEach s.leftLane) :=
    s.foldl_lanes (fun u => u.release = none)
      (fun p _ hp => State.releaseLane_live (s := s.modLanes fun _ => p) h hp) hr
  rw [hlanes, State.refreshDrives_live (s := s.modLanes _) h]
  simp only [State.modLanes, PerLane.mapEach, State.leftLane_followed]

/-! ## Incidents and doubt (R138, R155) -/

theorem State.recordIncident_eq (s : State) (kind : IncidentKind) (lane : Option Lane) (badge : Option Nat)
    (rule : Option RuleNo) (peer : Option Station) (detail : Option Int) :
    s.recordIncident kind lane badge rule peer detail =
      { s with watch := s.watch.queue { kind, time := s.clock.time, lane, badge, rule, peer, detail } } := by
  simp only [State.recordIncident, State.modWatch, WatchUnit.queue, satAdd]

@[simp] theorem WatchUnit.queue_handed (w : WatchUnit) (i : Incident) : (w.queue i).handed = w.handed := by
  unfold WatchUnit.queue; split <;> rfl

theorem State.openDoubt_eq (s : State) (cause : DoubtCause) (peer : Option Station) :
    s.openDoubt cause peer =
      { s with
        peers := { s.peers with deadline := doubtDeadline s }
        watch := doubtQueue s s.watch cause peer } := by
  have hdeadline : s.doubtUntil = doubtDeadline s := by
    simp only [State.doubtUntil, doubtDeadline, Nat.mul_comm s.sw3.doubtHold]
  have hactive : s.doubtActive = true ↔ s.clock.time < s.peers.deadline ∨ s.peers.isolated = true := by
    simp [State.doubtActive]
  simp only [State.openDoubt, hactive, hdeadline, doubtQueue, State.recordIncident_eq]
  split <;> rfl

@[simp] theorem doubtQueue_handed (s : State) (w : WatchUnit) (cause : DoubtCause) (peer : Option Station) :
    (doubtQueue s w cause peer).handed = w.handed := by
  unfold doubtQueue; split <;> simp

/-! ## The departure from EVACUATE (R167) -/

/-- Station control with the evacuation ended: HELD or LIVE by the station reasons, and no record. -/
def endedControl (c : Control) : Control :=
  { c with station := if c.stationReasons = [] then .live else .held, evacRecord := none }

/-- The EVAC_END incident of a departure; an ALL CLEAR frame gives its source. -/
def evacEnd (s : State) (source : Option Station) : Incident :=
  { kind := .evacEnd, time := s.clock.time, lane := none, badge := none, rule := none, peer := source,
    detail := some (if source.isSome then 4 else 3) }

theorem endedControl_station (c : Control) : (endedControl c).station = .live ∨ (endedControl c).station = .held := by
  unfold endedControl; split <;> simp

/-- A lane at rest after the departure is held by a reason of its own or of the station. -/
theorem State.restState_ended (s : State) (l : Lane) :
    (s.modControl endedControl).restState l =
      if s.control.stationReasons = [] ∧ s.control.laneReasons.get l = [] then .idle else .held := by
  have hstation : (endedControl s.control).station = .held ↔ s.control.stationReasons ≠ [] := by
    unfold endedControl; split <;> simp_all
  have hheld : (s.modControl endedControl).laneHeld l = true ↔
      ¬ (s.control.stationReasons = [] ∧ s.control.laneReasons.get l = []) := by
    simp only [State.laneHeld, State.station, State.modControl_control, hstation]
    simp only [endedControl, Bool.or_eq_true, Bool.not_eq_true', List.isEmpty_eq_false_iff, decide_eq_true_eq]
    tauto
  simp only [State.restState, hheld, ite_not]

/-- A departure with no release pending, block by block. -/
theorem State.leaveEvacuate_eq (s : State) (source : Option Station) (hr : ∀ l, (s.lane l).release = none) :
    s.leaveEvacuate source =
      { s with
        control := endedControl s.control
        lanes := s.lanes.mapEach fun l u => ((s.modControl endedControl).freedLane l u).followed
        bell := { s.bell with arbiter := none }
        peers := { s.peers with deadline := doubtDeadline s }
        watch := (doubtQueue s s.watch .evacEnd none).queue (evacEnd s source) } := by
  have hleft : (s.modControl fun c =>
      { c with station := if c.stationReasons.isEmpty then .live else .held, evacRecord := none }) =
      s.modControl endedControl := by
    simp [State.modControl, endedControl]
  simp only [State.leaveEvacuate, hleft]
  rw [State.releaseLanes_live (s := s.modControl endedControl) (endedControl_station s.control) hr, State.openDoubt_eq,
    State.recordIncident_eq]
  rfl

/-- A lane after the departure: as R43 leaves it, its strike following its state. -/
theorem State.leaveEvacuate_lane (s : State) (source : Option Station) (hr : ∀ l, (s.lane l).release = none) (l : Lane) :
    (s.leaveEvacuate source).lane l = ((s.modControl endedControl).freedLane l (s.lane l)).followed := by
  rw [s.leaveEvacuate_eq source hr]
  exact PerLane.get_mapEach ..

/-- The departure is the one that `EvacuationEnded` says, lane by lane by the cases of R43. -/
theorem evacuationEnded_leaveEvacuate (s : State) (source : Option Station) (hr : ∀ l, (s.lane l).release = none) :
    EvacuationEnded s (s.leaveEvacuate source) source := by
  have hblocks := s.leaveEvacuate_eq source hr
  refine ⟨by rw [hblocks]; rfl, fun l => ?lanes, by rw [hblocks], by rw [hblocks], by rw [hblocks]; rfl⟩
  have hfaulted (h : openFault s l) : (s.modControl endedControl).laneFaulted l = true := (s.laneFaulted_iff l).2 h
  have hsound (h : ¬ openFault s l) : (s.modControl endedControl).laneFaulted l = false :=
    Bool.eq_false_iff.2 fun hf => h ((s.laneFaulted_iff l).1 hf)
  rw [s.leaveEvacuate_lane source hr l]
  refine ⟨fun (hoff : (s.lane l).kind = .off) => ?off, fun (hfit : (s.lane l).kind ≠ .off) hfault => ?fault,
    fun (hfit : (s.lane l).kind ≠ .off) hfault (hdoor : (s.lane l).kind = .door ∧ (s.lane l).aux.level = some true) => ?door,
    fun (hfit : (s.lane l).kind ≠ .off) hfault (hdoor : ¬ ((s.lane l).kind = .door ∧ (s.lane l).aux.level = some true)) =>
      ?rest⟩
  case off => rw [State.freedLane_off _ l hoff]; exact LaneUnit.followed_off hoff
  case fault => rw [State.freedLane_fault _ l hfit (hfaulted hfault)]; exact LaneUnit.followed_fitted hfit rfl
  case door =>
    rw [State.freedLane_door _ l hfit (hsound hfault) ((LaneUnit.doorOpen_iff _).2 hdoor), State.heldOpenLimit, sixteenths,
      Nat.mul_comm]
    exact LaneUnit.followed_fitted hfit rfl
  case rest =>
    have hshut : (s.lane l).doorOpen = false := Bool.eq_false_iff.2 fun h => hdoor ((LaneUnit.doorOpen_iff _).1 h)
    rw [State.freedLane_rest _ l hfit (hsound hfault) hshut, State.restState_ended]
    exact LaneUnit.followed_fitted hfit (by split <;> rfl)

/-! ## ALL CLEAR (R165) -/

/-- With nothing handed to the watch unit there is nothing to take. -/
theorem State.settleEvents_nil {s : State} (h : s.watch.handed = []) : s.settleEvents = s := by
  simp [State.settleEvents, State.takeEvents, h]

/-- No release is pending while the station evacuates (R41). -/
theorem ReleasesPlaced.release_none {s : State} (h : ReleasesPlaced s) (hs : s.station = .evacuate) (l : Lane) :
    (s.lane l).release = none := by
  by_contra hne
  obtain ⟨-, hstation, -⟩ := (h l).1 (Option.isSome_iff_ne_none.2 hne)
  rcases hstation with hlive | hheld
  · simp [hs] at hlive
  · simp [hs] at hheld

/-- ALL CLEAR where the port takes it in a served state: refused outside EVACUATE or with the contact ASSERTED, and otherwise
the departure with an ALL CLEAR placed. -/
theorem exec_allClear_served (s : State) (h : s.inReset = false) (hc : s.portTakes .allClear)
    (hs : s.station.serving = true) :
    exec .allClear s = .next (
      let x := s.load { code := 0x66 }
      if s.station ≠ .evacuate then x.answer .notInState
      else if s.control.contact then x.answer .inputActive
      else (((x.leaveEvacuate none).placeEvac .allClear).settleEvents).answer .done) := by
  have hcontrol : (s.load { code := 0x66 }).control = s.control := by simp
  refine congrArg _ ((s.command_taken .allClear _ .served _ h hc hs).trans ?_)
  simp only [State.station, hcontrol]

/-- Outside EVACUATE ALL CLEAR is answered NOT_IN_STATE, whether the port or station control refuses it. -/
theorem exec_allClear_notEvacuating (s : State) (h : s.inReset = false) (hc : s.portTakes .allClear)
    (hs : s.station ≠ .evacuate) :
    exec .allClear s = .next ((s.load { code := 0x66 }).answer .notInState) := by
  cases hserving : s.station.serving
  case false => exact congrArg _ (s.command_refused .allClear _ .served _ h hc hserving)
  case true => rw [exec_allClear_served s h hc hserving]; simp only [if_pos hs]

/-- With the contact ASSERTED an evacuating station refuses ALL CLEAR. -/
theorem exec_allClear_contact (s : State) (h : s.inReset = false) (hc : s.portTakes .allClear)
    (hs : s.station = .evacuate) (hcontact : s.control.contact = true) :
    exec .allClear s = .next ((s.load { code := 0x66 }).answer .inputActive) := by
  rw [exec_allClear_served s h hc (by rw [hs]; rfl)]
  simp [hs, hcontact]

/-- A command put in the mailbox changes no lane. -/
theorem State.load_lane (s : State) (r : Request) (l : Lane) : (s.load r).lane l = s.lane l := by
  simp [State.lane_eq]

/-- ALL CLEAR taken with no event waiting: the departure, and an ALL CLEAR placed in the evac slot. -/
theorem exec_allClear_leaves (s : State) (h : s.inReset = false) (hc : s.portTakes .allClear)
    (hs : s.station = .evacuate) (hcontact : s.control.contact = false) (hw : s.watch.handed = [])
    (hr : ∀ l, (s.lane l).release = none) :
    exec .allClear s =
      .next ((((s.load { code := 0x66 }).leaveEvacuate none).placeEvac .allClear).answer .done) := by
  have hnone : (((s.load { code := 0x66 }).leaveEvacuate none).placeEvac .allClear).watch.handed = [] := by
    rw [State.leaveEvacuate_eq _ none fun l => by rw [State.load_lane, hr]]
    simp [State.placeEvac, hw]
  rw [exec_allClear_served s h hc (by rw [hs]; rfl), ← State.settleEvents_nil hnone]
  simp only [hs, hcontact, ne_eq, not_true_eq_false, if_false, Bool.false_eq_true]

/-- What a departure leaves does not hang on the mailbox. -/
theorem EvacuationEnded.of_load {s t : State} {r : Request} {source : Option Station}
    (h : EvacuationEnded (s.load r) t source) : EvacuationEnded s t source := by
  rw [State.load_only] at h
  exact h

/-- A frame placed and an answer given leave a departure as it is. -/
theorem EvacuationEnded.placeEvac_answer {s t : State} {source : Option Station} (h : EvacuationEnded s t source)
    (f : EvacFrame) (c : ResultCode) : EvacuationEnded s ((t.placeEvac f).answer c) source := h

/-- A departure changes the lanes, the bell, the peer table, the watch unit and station control alone. -/
theorem State.leaveEvacuate_only (s : State) (source : Option Station) (hr : ∀ l, (s.lane l).release = none) :
    let t := s.leaveEvacuate source
    t = { s with lanes := t.lanes, bell := t.bell, peers := t.peers, watch := t.watch, control := t.control } := by
  intro t
  have ht : t = _ := s.leaveEvacuate_eq source hr
  rw [ht]

/-- Settles O24: the refusals by state and by the contact, and the departure with its ALL CLEAR placed; `test_evacuating_witness`
meets the hypotheses. -/
theorem allClearCommand : Obligations.AllClearCommand := by
  intro s hreset htakes
  refine ⟨fun hs => ?elsewhere, fun hs hcontact => ?contact, fun hs hcontact hwaiting hplaced => ?leaves⟩
  case elsewhere => exact ⟨_, exec_allClear_notEvacuating s hreset htakes hs, onlyAnswered_load s _ .notInState⟩
  case contact => exact ⟨_, exec_allClear_contact s hreset htakes hs hcontact, onlyAnswered_load s _ .inputActive⟩
  case leaves =>
    have hr := hplaced.release_none hs
    have hloaded (r : Request) (l : Lane) : ((s.load r).lane l).release = none := by rw [State.load_lane, hr]
    refine ⟨_, s.line.nextTag, exec_allClear_leaves s hreset htakes hs hcontact hwaiting hr,
      completed_answer .done (by simp), by simp, ?ended, ?frame, ?line, le_refl _, ?tag⟩
    case ended => exact (evacuationEnded_leaveEvacuate _ none (hloaded _)).of_load.placeEvac_answer _ _
    case frame =>
      have honly := State.leaveEvacuate_only _ none (hloaded { code := 0x66 })
      generalize State.leaveEvacuate _ none = left at honly ⊢
      calc (left.placeEvac .allClear).answer .done = { left with line := _, port := _ } := rfl
        _ = _ := by rw [honly, State.load_only]; rfl
    case line => simp [State.placeEvac]
    case tag => simp [State.placeEvac]

end Sys2Proof.Machine
end

section
/-! SUPPORT. PASSBACK MODE (R202): how it judges parameter A, and what a command that changes station control leaves alone. -/

namespace Sys2Proof.Machine

/-- A command that changes station control and completes has changed nothing but station control and the port. -/
theorem State.answer_modControl_load_only (s : State) (r : Request) (f : Control → Control) (c : ResultCode) :
    let t := ((s.load r).modControl f).answer c
    t = { s with control := t.control, port := t.port } := by
  intro t
  calc t = { (s.load r) with control := t.control, port := t.port } := rfl
    _ = { s with control := t.control, port := t.port } := by rw [State.load_only]

/-- Station control after a command that changes it and completes. -/
theorem State.answer_modControl_load_control (s : State) (r : Request) (f : Control → Control) (c : ResultCode) :
    (((s.load r).modControl f).answer c).control = f s.control := by
  simp

/-- SETUP and HOLDOVER are not served. -/
theorem State.not_serving {s : State} (h : s.station = .setup ∨ s.station = .holdover) : s.station.serving = false := by
  rcases h with h | h <;> rw [h] <;> rfl

/-- PASSBACK MODE in a state that does not take it is answered NOT_IN_STATE (12 section 12.2). -/
theorem exec_passbackMode_refused (a : BitVec 16) (s : State) (h : s.inReset = false) (hc : s.portTakes (.passbackMode a))
    (hs : s.station.serving = false) :
    exec (.passbackMode a) s = .next ((s.load { code := 0x64, a := some a }).answer .notInState) :=
  congrArg _ (s.command_refused (.passbackMode a) _ .served _ h hc hs)

/-- PASSBACK MODE where it is taken: FOLLOW for 0, FORCE_SOFT for 1, and any other value refused (R202). -/
theorem exec_passbackMode_served (a : BitVec 16) (s : State) (h : s.inReset = false) (hc : s.portTakes (.passbackMode a))
    (hs : s.station.serving = true) :
    exec (.passbackMode a) s = .next (
      let x := s.load { code := 0x64, a := some a }
      if a = 0 then (x.modControl fun c => { c with override := .follow }).answer .done
      else if a = 1 then (x.modControl fun c => { c with override := .forceSoft }).answer .done
      else x.answer .badValue) :=
  congrArg _ (s.command_taken (.passbackMode a) _ .served _ h hc hs)

/-- PASSBACK MODE with a value that R202 does not define is answered BAD_VALUE. -/
theorem exec_passbackMode_undefined (a : BitVec 16) (s : State) (h : s.inReset = false)
    (hc : s.portTakes (.passbackMode a)) (hs : s.station.serving = true) (ha : 1 < a.toNat) :
    exec (.passbackMode a) s = .next ((s.load { code := 0x64, a := some a }).answer .badValue) := by
  have hfollow : a ≠ 0 := by bv_omega
  have hsoft : a ≠ 1 := by bv_omega
  rw [exec_passbackMode_served a s h hc hs]
  simp only [if_neg hfollow, if_neg hsoft]

/-- PASSBACK MODE with a defined value sets the override that the value names. -/
theorem exec_passbackMode_sets (a : BitVec 16) (s : State) (h : s.inReset = false) (hc : s.portTakes (.passbackMode a))
    (hs : s.station.serving = true) (ha : a.toNat ≤ 1) :
    exec (.passbackMode a) s = .next (((s.load { code := 0x64, a := some a }).modControl fun c =>
      { c with override := if a = 0 then .follow else .forceSoft }).answer .done) := by
  rw [exec_passbackMode_served a s h hc hs]
  by_cases hfollow : a = 0
  · simp only [if_pos hfollow]
  · have hsoft : a = 1 := by bv_omega
    simp only [if_neg hfollow, if_pos hsoft]

/-- Settles O22: the refusals by the station state and by the value, and the override set; `live_served` and
`test_passbackMode_bounds` meet the hypotheses. -/
theorem passbackMode : Obligations.PassbackMode := by
  intro a s hreset htakes
  refine ⟨fun hstation => ?notTaken, fun hserving ha => ?undefined, fun hserving ha => ?sets⟩
  case notTaken =>
    exact ⟨_, exec_passbackMode_refused a s hreset htakes (State.not_serving hstation), onlyAnswered_load s _ .notInState⟩
  case undefined =>
    exact ⟨_, exec_passbackMode_undefined a s hreset htakes hserving ha, onlyAnswered_load s _ .badValue⟩
  case sets =>
    exact ⟨_, exec_passbackMode_sets a s hreset htakes hserving ha, completed_answer .done (by simp),
      State.answer_modControl_load_only .., by simp, State.answer_modControl_load_control ..⟩

end Sys2Proof.Machine
end

section
/-! SUPPORT. What every operation keeps of the tables (R1, R14, R48, R50, R51, R93, R95, R129, R157, R158, R196) and what none
outside SETUP lowers (R9, R10, R69, R98): two relations between the state before and the state after, each reflexive and
transitive, so that an operation made of others is covered by theirs. -/

namespace Sys2Proof.Machine

/-! ## The blocks as `TablesKept` asks for them -/

/-- The badge table as `TableOrdered` asks for it. -/
def BadgeTable.Good (b : BadgeTable) : Prop :=
  b.entries.length ≤ 4096 ∧ (b.entries.map BadgeEntry.number).Pairwise (· < ·) ∧
  (∀ e ∈ b.entries, 1 ≤ e.number ∧ e.number ≤ 16777214) ∧ b.muster = b.entries.countP BadgeEntry.present

/-- A list of pay records as `RecordsOrdered` and `RecordsSingle` ask for it. -/
def GoodRecords (xs : List (Nat × PayRecord)) : Prop :=
  (xs.map Prod.fst).Pairwise (· < ·) ∧ (∀ x ∈ xs, x.1 < 1024) ∧ ∀ x ∈ xs, x.2.openIn = none ∨ x.2.orphan = none

/-- The pay unit as `TablesKept` asks for it. -/
def PayUnit.Good (p : PayUnit) : Prop := p.classes.length = 8 ∧ GoodRecords p.records

/-- The bell unit as `TablesKept` asks for it. -/
def BellUnit.Good (b : BellUnit) : Prop :=
  b.entries.length = 48 ∧ b.patterns.length = 8 ∧ ∀ e ∈ b.entries, e.minute ≤ 1439 ∧ e.second ≤ 59

/-- The watch unit as `TablesSized` asks for it. -/
def WatchUnit.Good (w : WatchUnit) : Prop := w.trace.length = 32 ∧ w.writePos < 32 ∧ w.readPtr < 32

/-- The tables of a state are as `TablesKept` asks for them. -/
structure State.Tables (s : State) : Prop where
  badges : s.badges.Good
  pay : s.pay.Good
  bell : s.bell.Good
  peers : s.peers.entries.length = 16
  watch : s.watch.Good
  port : s.port.data.length = 64

theorem State.tables_iff (s : State) :
    s.Tables ↔ TablesSized s ∧ TableOrdered s ∧ RecordsOrdered s ∧ RecordsSingle s ∧ ScheduleInRange s := by
  constructor
  · rintro ⟨hbadges, ⟨hclasses, hascending, hslots, hsingle⟩, ⟨hentries, hpatterns, hrange⟩, hpeers, ⟨htrace, hwrite, hread⟩,
      hdata⟩
    exact ⟨⟨hclasses, hentries, hpatterns, hpeers, htrace, hwrite, hread, hdata⟩, hbadges, ⟨hascending, hslots⟩, hsingle,
      hrange⟩
  · rintro ⟨⟨hclasses, hentries, hpatterns, hpeers, htrace, hwrite, hread, hdata⟩, hbadges, ⟨hascending, hslots⟩, hsingle,
      hrange⟩
    exact ⟨hbadges, ⟨hclasses, hascending, hslots, hsingle⟩, ⟨hentries, hpatterns, hrange⟩, hpeers, ⟨htrace, hwrite, hread⟩,
      hdata⟩

/-! ## The two relations -/

/-- Each block that was as `TablesKept` asks is so afterwards. -/
structure Kept (s t : State) : Prop where
  badges : s.badges.Good → t.badges.Good
  pay : s.pay.Good → t.pay.Good
  bell : s.bell.Good → t.bell.Good
  peers : s.peers.entries.length = 16 → t.peers.entries.length = 16
  watch : s.watch.Good → t.watch.Good
  port : s.port.data.length = 64 → t.port.data.length = 64

/-- A schedule entry that has a day mark has one afterwards that is no lower. -/
def MarkRaised (x y : BellEntry) : Prop := ∀ m, x.mark = some m → ∃ n, y.mark = some n ∧ m ≤ n

/-- An entry of a number that a table holds is held afterwards with a change time that is no lower. -/
def PresenceRaised (b c : BadgeTable) : Prop :=
  ∀ (n : Nat) (e : BadgeEntry), b.entries.find? (fun x => decide (x.number = n)) = some e →
    ∃ f, c.entries.find? (fun x => decide (x.number = n)) = some f ∧ e.presence.time ≤ f.presence.time

/-- The pay day number, the day marks and the change times are no lower afterwards, and no badge has left the table. -/
structure Raised (s t : State) : Prop where
  today : s.pay.today ≤ t.pay.today
  marks : ∀ k, MarkRaised (s.bell.entries.getD k .reset) (t.bell.entries.getD k .reset)
  presence : PresenceRaised s.badges t.badges

/-- Both. -/
structure Forward (s t : State) : Prop where
  kept : Kept s t
  raised : Raised s t

theorem MarkRaised.refl (x : BellEntry) : MarkRaised x x := fun m h => ⟨m, h, le_refl m⟩

theorem MarkRaised.trans {x y z : BellEntry} (h : MarkRaised x y) (h' : MarkRaised y z) : MarkRaised x z := by
  intro m hm
  obtain ⟨n, hn, hmn⟩ := h m hm
  obtain ⟨k, hk, hnk⟩ := h' n hn
  exact ⟨k, hk, hmn.trans hnk⟩

theorem PresenceRaised.refl (b : BadgeTable) : PresenceRaised b b := fun _ e h => ⟨e, h, le_refl _⟩

theorem PresenceRaised.trans {b c d : BadgeTable} (h : PresenceRaised b c) (h' : PresenceRaised c d) :
    PresenceRaised b d := by
  intro n e he
  obtain ⟨f, hf, hef⟩ := h n e he
  obtain ⟨g, hg, hfg⟩ := h' n f hf
  exact ⟨g, hg, hef.trans hfg⟩

theorem Kept.refl (s : State) : Kept s s := ⟨id, id, id, id, id, id⟩

theorem Kept.trans {s t u : State} (h : Kept s t) (h' : Kept t u) : Kept s u :=
  ⟨h'.badges ∘ h.badges, h'.pay ∘ h.pay, h'.bell ∘ h.bell, h'.peers ∘ h.peers, h'.watch ∘ h.watch, h'.port ∘ h.port⟩

theorem Kept.tables {s t : State} (h : Kept s t) (hs : s.Tables) : t.Tables :=
  ⟨h.badges hs.badges, h.pay hs.pay, h.bell hs.bell, h.peers hs.peers, h.watch hs.watch, h.port hs.port⟩

theorem Raised.refl (s : State) : Raised s s := ⟨le_refl _, fun _ => .refl _, .refl _⟩

theorem Raised.trans {s t u : State} (h : Raised s t) (h' : Raised t u) : Raised s u :=
  ⟨h.today.trans h'.today, fun k => (h.marks k).trans (h'.marks k), h.presence.trans h'.presence⟩

theorem Forward.refl (s : State) : Forward s s := ⟨.refl s, .refl s⟩

theorem Forward.trans {s t u : State} (h : Forward s t) (h' : Forward t u) : Forward s u :=
  ⟨h.kept.trans h'.kept, h.raised.trans h'.raised⟩

/-- What changes neither the badge table, the pay unit, the schedule nor the sizes of the other tables goes forward. -/
theorem Forward.of_frame {s t : State} (hbadges : t.badges = s.badges) (hpay : t.pay = s.pay) (hbell : t.bell = s.bell)
    (hpeers : t.peers = s.peers) (hport : t.port = s.port) (hwatch : s.watch.Good → t.watch.Good) : Forward s t := by
  refine ⟨⟨?_, ?_, ?_, ?_, hwatch, ?_⟩, ⟨?_, ?_, ?_⟩⟩
  · rw [hbadges]; exact id
  · rw [hpay]; exact id
  · rw [hbell]; exact id
  · rw [hpeers]; exact id
  · rw [hport]; exact id
  · rw [hpay]
  · rw [hbell]; exact fun _ => .refl _
  · rw [hbadges]; exact .refl _

/-! ## One rule for each update of a block -/

section
variable (s : State)

theorem State.forward_modLanes (f : PerLane LaneUnit → PerLane LaneUnit) : Forward s (s.modLanes f) :=
  .of_frame rfl rfl rfl rfl rfl id
theorem State.forward_modLane (l : Lane) (f : LaneUnit → LaneUnit) : Forward s (s.modLane l f) :=
  .of_frame rfl rfl rfl rfl rfl id
theorem State.forward_modInputs (f : Inputs → Inputs) : Forward s (s.modInputs f) := .of_frame rfl rfl rfl rfl rfl id
theorem State.forward_modClock (f : Clock → Clock) : Forward s (s.modClock f) := .of_frame rfl rfl rfl rfl rfl id
theorem State.forward_modLine (f : LinePort → LinePort) : Forward s (s.modLine f) := .of_frame rfl rfl rfl rfl rfl id
theorem State.forward_modJournal (f : Journal → Journal) : Forward s (s.modJournal f) := .of_frame rfl rfl rfl rfl rfl id
theorem State.forward_modFaults (f : FaultMonitor → FaultMonitor) : Forward s (s.modFaults f) :=
  .of_frame rfl rfl rfl rfl rfl id
theorem State.forward_modControl (f : Control → Control) : Forward s (s.modControl f) := .of_frame rfl rfl rfl rfl rfl id
theorem State.forward_modSupply (f : SupplyMonitor → SupplyMonitor) : Forward s (s.modSupply f) :=
  .of_frame rfl rfl rfl rfl rfl id

variable {s}

theorem State.forward_modWatch {f : WatchUnit → WatchUnit} (h : s.watch.Good → (f s.watch).Good) :
    Forward s (s.modWatch f) := .of_frame rfl rfl rfl rfl rfl h

theorem State.forward_modPort {f : TerminalPort → TerminalPort} (h : s.port.data.length = 64 → (f s.port).data.length = 64) :
    Forward s (s.modPort f) :=
  ⟨⟨id, id, id, id, id, h⟩, ⟨le_refl _, fun _ => .refl _, .refl _⟩⟩

theorem State.forward_modPeers {f : PeerTable → PeerTable} (h : (f s.peers).entries.length = s.peers.entries.length) :
    Forward s (s.modPeers f) :=
  ⟨⟨id, id, id, h.trans, id, id⟩, ⟨le_refl _, fun _ => .refl _, .refl _⟩⟩

theorem State.forward_modBadges {f : BadgeTable → BadgeTable} (h : s.badges.Good → (f s.badges).Good)
    (hp : PresenceRaised s.badges (f s.badges)) : Forward s (s.modBadges f) :=
  ⟨⟨h, id, id, id, id, id⟩, ⟨le_refl _, fun _ => .refl _, hp⟩⟩

theorem State.kept_modPay {f : PayUnit → PayUnit} (h : s.pay.Good → (f s.pay).Good) : Kept s (s.modPay f) :=
  ⟨id, h, id, id, id, id⟩

theorem State.forward_modPay {f : PayUnit → PayUnit} (h : s.pay.Good → (f s.pay).Good) (ht : s.pay.today ≤ (f s.pay).today) :
    Forward s (s.modPay f) :=
  ⟨s.kept_modPay h, ⟨ht, fun _ => .refl _, .refl _⟩⟩

theorem State.kept_modBell {f : BellUnit → BellUnit} (h : s.bell.Good → (f s.bell).Good) : Kept s (s.modBell f) :=
  ⟨id, id, h, id, id, id⟩

/-- A change of the bell unit that leaves the schedule and the patterns alone. -/
theorem State.forward_modBell {f : BellUnit → BellUnit} (he : (f s.bell).entries = s.bell.entries)
    (hp : (f s.bell).patterns = s.bell.patterns) : Forward s (s.modBell f) := by
  refine ⟨s.kept_modBell ?_, ⟨le_refl _, fun k => ?_, .refl _⟩⟩
  · simp only [BellUnit.Good, he, hp, imp_self]
  · simp only [State.modBell_bell, he]; exact .refl _

end

/-! ## Ops -/

section
variable (s : State)

theorem State.forward_modPeer (p : Station) (f : PeerEntry → PeerEntry) : Forward s (s.modPeer p f) :=
  State.forward_modPeers (by simp)

theorem State.forward_modRule (r : RuleNo) (f : Rule → Rule) : Forward s (s.modRule r f) := State.forward_modWatch id

theorem State.forward_recordIncident (k : IncidentKind) (l : Option Lane) (b : Option Nat) (r : Option RuleNo)
    (p : Option Station) (d : Option Int) : Forward s (s.recordIncident k l b r p d) :=
  State.forward_modWatch (by split <;> exact id)

theorem State.forward_hand (e : LaneEvent) : Forward s (s.hand e) := State.forward_modWatch id

theorem State.forward_openDoubt (c : DoubtCause) (p : Option Station) : Forward s (s.openDoubt c p) := by
  unfold State.openDoubt
  split
  · exact State.forward_modPeers rfl
  · exact (State.forward_modPeers rfl).trans (State.forward_recordIncident ..)

theorem State.forward_placeEvac (f : EvacFrame) : Forward s (s.placeEvac f) := s.forward_modLine _
theorem State.forward_removeEvac (f : EvacFrame → Bool) : Forward s (s.removeEvac f) := s.forward_modLine _
theorem State.forward_placeCue (e : Fin 48) (d : Nat) : Forward s (s.placeCue e d) := s.forward_modLine _
theorem State.forward_placeBeacon : Forward s s.placeBeacon := s.forward_modLine _

/-- A step taken by every lane in turn goes forward when it does for one lane. -/
theorem State.forward_lanes {op : State → Lane → State} (h : ∀ s l, Forward s (op s l)) :
    Forward s (Lane.all.foldl op s) :=
  (h s .lane1).trans ((h _ .lane2).trans ((h _ .lane3).trans (h _ .lane4)))

/-! ## BellOps -/

theorem State.forward_traceBell (e : Fin 48) (d : Nat) (o : BellOrigin) (x : BellOutcome) :
    Forward s (s.traceBell e d o x) := by
  unfold State.traceBell
  split
  · exact .refl s
  · exact State.forward_modBell rfl rfl

theorem State.forward_sound (k : Rank) (p : Fin 8) (e : Option (Fin 48)) : Forward s (s.sound k p e) :=
  State.forward_modBell rfl rfl
theorem State.forward_silence : Forward s s.silence := State.forward_modBell rfl rfl
theorem State.forward_countSuppressed : Forward s s.countSuppressed := State.forward_modBell rfl rfl
theorem State.forward_countMissed : Forward s s.countMissed := State.forward_modBell rfl rfl

theorem State.forward_countCut : Forward s s.countCut := by
  unfold State.countCut
  split
  · exact State.forward_modBell rfl rfl
  · exact .refl s

theorem State.forward_claimAlarm : Forward s s.claimAlarm := by
  unfold State.claimAlarm
  split
  · split
    · exact .refl s
    · exact s.forward_countCut.trans (State.forward_sound ..)
  · exact .refl s

theorem State.forward_claimEvacuation : Forward s s.claimEvacuation := by
  unfold State.claimEvacuation
  split
  · exact s.forward_countCut.trans (State.forward_sound ..)
  · exact .refl s

theorem State.forward_stopAlarm : Forward s s.stopAlarm := by
  unfold State.stopAlarm
  split
  · exact s.forward_silence
  · exact .refl s

theorem State.forward_stopBell : Forward s s.stopBell := s.forward_countCut.trans (State.forward_silence _)

/-- Changing one item of a table keeps a property of all its items that the change keeps. -/
theorem forall_mem_modAt {α : Type} {P : α → Prop} {f : α → α} (hf : ∀ x, P x → P (f x)) :
    ∀ (n : Nat) (xs : List α), (∀ x ∈ xs, P x) → ∀ x ∈ modAt f n xs, P x
  | _, [], h => by simp [modAt]
  | 0, x :: xs, h => by
    rw [List.forall_mem_cons] at h
    simpa [modAt, List.forall_mem_cons] using ⟨hf x h.1, h.2⟩
  | n + 1, x :: xs, h => by
    rw [List.forall_mem_cons] at h
    simpa [modAt, List.forall_mem_cons] using ⟨h.1, forall_mem_modAt hf n xs h.2⟩

/-- One item of a table changed: the item of any number is the changed one or the one before. -/
theorem getD_modAt_or {α : Type} (f : α → α) (d : α) :
    ∀ (n k : Nat) (xs : List α),
      (k = n ∧ (modAt f n xs).getD k d = f (xs.getD k d)) ∨ (modAt f n xs).getD k d = xs.getD k d
  | _, _, [] => .inr (by simp [modAt])
  | 0, 0, _ :: _ => .inl ⟨rfl, rfl⟩
  | 0, _ + 1, _ :: _ => .inr rfl
  | _ + 1, 0, _ :: _ => .inr rfl
  | n + 1, k + 1, x :: xs => by
    simpa [modAt] using getD_modAt_or f d n k xs

/-- A schedule entry marked for a bell day it is due for: its mark rises. -/
theorem State.forward_markEntry {e : Fin 48} {d : Nat} (h : ∀ m, (s.bellEntry e).mark = some m → m ≤ d) :
    Forward s (s.markEntry e d) := by
  refine ⟨⟨id, id, fun ⟨hlength, hpatterns, hrange⟩ => ⟨(modAt_length ..).trans hlength, hpatterns, ?_⟩, id, id, id⟩,
    ⟨le_refl _, fun k => ?_, .refl _⟩⟩
  · exact forall_mem_modAt (f := fun x : BellEntry => { x with mark := some d })
      (P := fun x => x.minute ≤ 1439 ∧ x.second ≤ 59) (fun _ h => h) _ _ hrange
  · change MarkRaised _ ((modAt (fun x : BellEntry => { x with mark := some d }) e.val s.bell.entries).getD k .reset)
    obtain ⟨rfl, hk⟩ | hk := getD_modAt_or (fun x : BellEntry => { x with mark := some d }) .reset e.val k s.bell.entries
    · rw [hk]; exact fun m hm => ⟨d, rfl, h m hm⟩
    · rw [hk]; exact .refl _

theorem State.forward_rung {e : Fin 48} {d : Nat} (o : BellOrigin) (h : ∀ m, (s.bellEntry e).mark = some m → m ≤ d) :
    Forward s (s.rung e d o) := by
  unfold State.rung
  dsimp only
  split
  · exact (s.forward_markEntry h).trans ((State.forward_sound ..).trans (State.forward_traceBell ..))
  · exact (s.forward_markEntry h).trans ((State.forward_countSuppressed _).trans (State.forward_traceBell ..))

theorem State.forward_passSuppressed {e : Fin 48} {d : Nat} (o : BellOrigin)
    (h : ∀ m, (s.bellEntry e).mark = some m → m ≤ d) : Forward s (s.passSuppressed e d o) :=
  (s.forward_markEntry h).trans ((State.forward_countSuppressed _).trans (State.forward_traceBell ..))

theorem State.forward_passMissed {e : Fin 48} {d : Nat} (o : BellOrigin)
    (h : ∀ m, (s.bellEntry e).mark = some m → m ≤ d) : Forward s (s.passMissed e d o) :=
  (s.forward_markEntry h).trans ((State.forward_countMissed _).trans (State.forward_traceBell ..))

theorem State.forward_takeInstant {e : Fin 48} {d : Nat} (o : BellOrigin)
    (h : ∀ m, (s.bellEntry e).mark = some m → m ≤ d) : Forward s (s.takeInstant e d o) := by
  unfold State.takeInstant
  split
  case h_1 => exact .refl s
  case h_2 => exact s.forward_rung o h
  case h_3 | h_4 => exact (s.forward_rung o h).trans (State.forward_placeCue ..)
  case h_5 => exact s.forward_passSuppressed o h
  case h_6 => exact s.forward_passMissed o h

/-- An entry that is due for a bell day has no mark of that day or a later one. -/
theorem BellEntry.mark_lt_of_due {w : Nat} {e : BellEntry} {d : Nat} (h : e.due w d = true) :
    ∀ m, e.mark = some m → m ≤ d := by
  intro m hm
  simp only [BellEntry.due, hm, Bool.and_eq_true, decide_eq_true_eq] at h
  exact h.2.le

theorem State.forward_catchUpOne (a b d : Nat) (e : Fin 48) : Forward s (s.catchUpOne a b d e) := by
  unfold State.catchUpOne
  dsimp only
  split
  case isTrue h =>
    obtain ⟨-, -, hdue⟩ := h
    split
    · exact s.forward_takeInstant _ (BellEntry.mark_lt_of_due hdue)
    · exact s.forward_passMissed _ (BellEntry.mark_lt_of_due hdue)
  case isFalse => exact .refl s

/-- A step taken for each item of a list goes forward when it does for one item. -/
theorem State.forward_foldl {α : Type} {op : State → α → State} (h : ∀ s x, Forward s (op s x)) (xs : List α) :
    Forward s (xs.foldl op s) := by
  induction xs generalizing s with
  | nil => exact .refl s
  | cons x xs ih => exact (h s x).trans (ih _)

theorem State.forward_catchUpDays (a b : Nat) (order : List (Fin 48)) (d n : Nat) :
    Forward s (s.catchUpDays a b order d n) := by
  induction n generalizing s d with
  | zero => exact .refl s
  | succ n ih => exact (s.forward_foldl (fun s e => s.forward_catchUpOne a b d e) order).trans (ih _ _)

theorem State.forward_catchUp (a b : Nat) : Forward s (s.catchUp a b) := by
  unfold State.catchUp
  dsimp only
  split
  · split
    · exact .refl s
    · exact State.forward_catchUpDays ..
  · exact .refl s

/-! ## LaneOps and FaultOps -/

theorem State.forward_refreshDrive (l : Lane) : Forward s (s.refreshDrive l) := by
  unfold State.refreshDrive
  split
  · exact .refl s
  · exact s.forward_modLane ..

theorem State.forward_refreshDrives : Forward s s.refreshDrives := s.forward_lanes State.forward_refreshDrive

theorem State.forward_dropRelease (l : Lane) : Forward s (s.dropRelease l) := by
  unfold State.dropRelease
  split
  · exact .refl s
  · exact (s.forward_modLane ..).trans (State.forward_hand ..)

theorem State.forward_expireRelease (l : Lane) : Forward s (s.expireRelease l) :=
  (s.forward_dropRelease l).trans ((State.forward_modLane ..).trans (State.forward_refreshDrive ..))

theorem State.forward_openDoor (l : Lane) (d : Bool) : Forward s (s.openDoor l d) :=
  (s.forward_modLane ..).trans (State.forward_refreshDrive ..)

theorem State.forward_settleLane (l : Lane) : Forward s (s.settleLane l) := by
  unfold State.settleLane
  split
  · exact s.forward_openDoor ..
  · exact (s.forward_modLane ..).trans (State.forward_refreshDrive ..)

theorem State.forward_enterFault (l : Lane) : Forward s (s.enterFault l) := by
  unfold State.enterFault
  split
  · exact .refl s
  · exact (s.forward_dropRelease l).trans ((State.forward_modLane ..).trans (State.forward_refreshDrive ..))

/-- A hold changes the lanes and station control alone. -/
theorem State.forward_reachHold (l : Lane) : Forward s (s.reachHold l) :=
  .of_frame (by simp) (by simp) (by simp) (by simp) (by simp) (by simp)
theorem State.forward_endHold (l : Lane) : Forward s (s.endHold l) :=
  .of_frame (by simp) (by simp) (by simp) (by simp) (by simp) (by simp)
theorem State.forward_addLaneReason (l : Lane) (r : HoldReason) : Forward s (s.addLaneReason l r) :=
  .of_frame (by simp) (by simp) (by simp) (by simp) (by simp) (by simp)
theorem State.forward_addStationReason (r : HoldReason) : Forward s (s.addStationReason r) :=
  .of_frame (by simp) (by simp) (by simp) (by simp) (by simp) (by simp)

theorem State.forward_laneAction (l : Lane) (k : LaneFaultKind) (a : FaultAction) : Forward s (s.laneAction l k a) := by
  cases a with
  | actNote => exact .refl s
  | actAlarm => exact s.forward_claimAlarm
  | actHold => exact s.forward_addLaneReason ..
  | actOpen =>
    simp only [State.laneAction]
    split
    case h_4 => exact .refl s
    all_goals exact s.forward_enterFault l

theorem State.forward_stationAction (k : FaultKind) (a : FaultAction) : Forward s (s.stationAction k a) := by
  cases a with
  | actNote => exact .refl s
  | actAlarm => exact s.forward_claimAlarm
  | actHold | actOpen => exact s.forward_addStationReason _

theorem State.forward_detectLane (l : Lane) (k : LaneFaultKind) : Forward s (s.detectLane l k) := by
  unfold State.detectLane
  dsimp only
  split
  · split
    · exact (s.forward_modFaults _).trans ((State.forward_laneAction ..).trans (State.forward_recordIncident ..))
    · exact s.forward_modFaults _
  · exact .refl s

theorem State.forward_detectLine (c : FaultCause) : Forward s (s.detectLine c) := by
  unfold State.detectLine
  dsimp only
  split
  · split
    · exact (s.forward_modFaults _).trans ((State.forward_stationAction ..).trans (State.forward_recordIncident ..))
    · exact s.forward_modFaults _
  · exact .refl s

theorem State.forward_detectClock (c : FaultCause) : Forward s (s.detectClock c) := by
  unfold State.detectClock
  dsimp only
  split
  · split
    · exact (s.forward_modFaults _).trans ((State.forward_stationAction ..).trans (State.forward_recordIncident ..))
    · exact s.forward_modFaults _
  · exact .refl s

theorem State.forward_clearLine (c : FaultCause) : Forward s (s.clearLine c) := by
  unfold State.clearLine
  split
  · exact s.forward_modFaults _
  · exact .refl s

theorem State.forward_clearClock (c : FaultCause) : Forward s (s.clearClock c) := by
  unfold State.clearClock
  split
  · exact s.forward_modFaults _
  · exact .refl s

theorem State.forward_leaveFault (l : Lane) : Forward s (s.leaveFault l) := by
  unfold State.leaveFault
  split
  · exact s.forward_settleLane l
  · exact .refl s

theorem State.forward_clearLane (l : Lane) (k : LaneFaultKind) : Forward s (s.clearLane l k) := by
  unfold State.clearLane
  split
  · exact (s.forward_modFaults _).trans (State.forward_leaveFault ..)
  · exact .refl s

/-! ## WatchOps -/

theorem State.forward_evacuateLane (l : Lane) : Forward s (s.evacuateLane l) := by
  unfold State.evacuateLane
  split
  · exact .refl s
  · exact (s.forward_dropRelease l).trans (State.forward_modLane ..)

theorem State.forward_enterEvacuate (r : EvacReason) : Forward s (s.enterEvacuate r) :=
  (s.forward_modControl _).trans ((State.forward_removeEvac ..).trans ((State.forward_lanes _ State.forward_evacuateLane).trans
    ((State.forward_refreshDrives _).trans ((State.forward_claimEvacuation _).trans (State.forward_recordIncident ..)))))

theorem State.forward_releaseLane (l : Lane) : Forward s (s.releaseLane l) := by
  unfold State.releaseLane
  dsimp only
  refine (s.forward_modLane l fun u => { u with evacRead := none }).trans ?_
  split
  · exact State.forward_refreshDrive ..
  · split
    · exact State.forward_enterFault ..
    · exact State.forward_settleLane ..

theorem State.forward_leaveEvacuate (p : Option Station) : Forward s (s.leaveEvacuate p) :=
  (s.forward_modControl _).trans ((State.forward_lanes _ State.forward_releaseLane).trans
    ((State.forward_refreshDrives _).trans ((State.forward_silence _).trans ((State.forward_openDoubt ..).trans
      (State.forward_recordIncident ..)))))

theorem State.forward_watchEvacuate : Forward s s.watchEvacuate := by
  unfold State.watchEvacuate
  split
  · exact (s.forward_enterEvacuate _).trans (State.forward_placeEvac ..)
  · exact (s.forward_enterEvacuate _).trans (State.forward_placeEvac ..)
  · exact s.forward_modControl _
  · exact .refl s

theorem State.forward_watchHoldLane (r : RuleNo) (e : LaneEvent) : Forward s (s.watchHoldLane r e) := by
  unfold State.watchHoldLane
  split
  · exact s.forward_addLaneReason ..
  · exact s.forward_addStationReason _

theorem State.forward_watchAction (r : RuleNo) (e : LaneEvent) (a : WatchAction) : Forward s (s.watchAction r e a) := by
  cases a with
  | note => exact .refl s
  | alarm => exact s.forward_claimAlarm
  | holdLane => exact s.forward_watchHoldLane ..
  | holdStation => exact s.forward_addStationReason _
  | evacuate => exact s.forward_watchEvacuate

theorem State.forward_trip (r : RuleNo) (e : LaneEvent) : Forward s (s.trip r e) := by
  unfold State.trip
  exact (s.forward_watchAction r e _).trans ((State.forward_recordIncident ..).trans (State.forward_modRule ..))

theorem State.forward_occurrence (r : RuleNo) (e : LaneEvent) : Forward s (s.occurrence r e) := by
  unfold State.occurrence
  split
  · exact s.forward_modRule ..
  · exact s.forward_trip ..

theorem State.forward_matchSequence (r : RuleNo) (e : LaneEvent) (a b : Bool) : Forward s (s.matchSequence r e a b) := by
  unfold State.matchSequence
  extract_lets x closes
  split
  · exact (s.forward_modRule ..).trans (State.forward_occurrence ..)
  · split
    · exact s.forward_modRule ..
    · exact .refl s

theorem State.forward_matchRule (r : RuleNo) (e : LaneEvent) : Forward s (s.matchRule r e) := by
  unfold State.matchRule
  dsimp only
  split
  · split
    · split
      · exact s.forward_occurrence ..
      · exact .refl s
    · split
      · exact s.forward_occurrence ..
      · exact .refl s
    · exact s.forward_matchSequence ..
    · exact s.forward_matchSequence ..
  · exact .refl s

@[simp] theorem markAdmit_length (l : Lane) (b t : Option Nat) (n p : Nat) (xs : List (Option TraceEntry)) :
    (markAdmit l b t n p xs).length = xs.length := by
  induction n generalizing p with
  | zero => rfl
  | succ n ih =>
    unfold markAdmit
    split
    · simp
    · exact ih _

theorem WatchUnit.good_write {w : WatchUnit} (l : Lane) (e : LaneEvent) (h : w.Good) : (w.write l e).Good := by
  obtain ⟨htrace, -, hread⟩ := h
  refine ⟨?_, Nat.mod_lt _ (by decide), hread⟩
  simp only [WatchUnit.write]
  split <;> simpa using htrace

theorem State.forward_takeEvent (e : LaneEvent) : Forward s (s.takeEvent e) := by
  unfold State.takeEvent
  extract_lets traced
  have htraced : Forward s traced := by
    simp only [traced]
    split
    · exact State.forward_modWatch (WatchUnit.good_write _ e)
    · exact .refl s
  split
  · exact htraced.trans (State.forward_foldl _ (fun s r => s.forward_matchRule r e) _)
  · exact htraced

theorem State.forward_takeEvents (n : Nat) : Forward s (s.takeEvents n) := by
  induction n generalizing s with
  | zero => exact .refl s
  | succ n ih =>
    unfold State.takeEvents
    split
    · exact .refl s
    · exact (State.forward_modWatch id).trans ((State.forward_takeEvent ..).trans (ih _))

theorem State.forward_settleEvents : Forward s s.settleEvents := s.forward_takeEvents 32

end

end Sys2Proof.Machine
end

section
/-! SUPPORT. What the pay unit and the badge table keep (R1, R14, R50, R51, R69): the pay records through a roll, a punch, an
allocation and a freeing, and the badge table through every change of an entry. -/

namespace Sys2Proof.Machine

/-! ## Pay records -/

/-- A pay record holds no open IN and orphan OUT at once (R51). -/
def PayRecord.Single (r : PayRecord) : Prop := r.openIn = none ∨ r.orphan = none

section
variable (r : PayRecord) (today day : Nat) (f : DaySlot → DaySlot)

@[simp] theorem PayRecord.modSlot_openIn : (r.modSlot today day f).openIn = r.openIn := by
  unfold PayRecord.modSlot; split <;> rfl

@[simp] theorem PayRecord.modSlot_orphan : (r.modSlot today day f).orphan = r.orphan := by
  unfold PayRecord.modSlot; split <;> rfl

end

section
variable (r : PayRecord) (classes : Fin 8 → ShiftClass) (roll today : Nat)

@[simp] theorem PayRecord.closeMissingOut_openIn : (r.closeMissingOut today).openIn = none := by
  unfold PayRecord.closeMissingOut; split <;> simp_all

@[simp] theorem PayRecord.closeMissingOut_orphan : (r.closeMissingOut today).orphan = r.orphan := by
  unfold PayRecord.closeMissingOut; split <;> simp

@[simp] theorem PayRecord.discardOrphan_openIn : (r.discardOrphan roll today).openIn = r.openIn := by
  unfold PayRecord.discardOrphan; split <;> simp

@[simp] theorem PayRecord.discardOrphan_orphan : (r.discardOrphan roll today).orphan = none := by
  unfold PayRecord.discardOrphan; split <;> simp_all

@[simp] theorem PayRecord.creditInterval_openIn (i : OpenIn) (t : Nat) (e : BitVec 8) (a : PayFlags) :
    (r.creditInterval classes roll today i t e a).openIn = r.openIn := by
  simp [PayRecord.creditInterval]

@[simp] theorem PayRecord.creditInterval_orphan (i : OpenIn) (t : Nat) (e : BitVec 8) (a : PayFlags) :
    (r.creditInterval classes roll today i t e a).orphan = r.orphan := by
  simp [PayRecord.creditInterval]

variable {r}

theorem PayRecord.single_closeOld (h : r.Single) : (r.closeOld roll today).Single := by
  have hin : ∀ x : PayRecord, x.Single → (match x.orphan with
      | some o => if payDay roll o.time < today then x.discardOrphan roll today else x
      | none => x).Single := by
    intro x hx
    split
    · split
      · exact .inr (by simp)
      · exact hx
    · exact hx
  unfold PayRecord.closeOld
  refine hin _ ?_
  split
  · split
    · exact .inl (by simp)
    · exact h
  · exact h

theorem PayRecord.single_roll (h : r.Single) : (r.roll classes roll today).Single := PayRecord.single_closeOld roll today h

theorem PayRecord.single_takeIn (h : r.Single) (cls : Fin 8) (p : PayPunch) :
    (r.takeIn classes roll today cls p).Single := by
  unfold PayRecord.takeIn
  dsimp only
  split
  next hopen => exact .inr (by simpa [hopen, PayRecord.Single] using h)
  next =>
    split
    · exact .inr rfl
    · exact .inr (by simp)
  next horphan => exact .inr (by simpa using horphan)

theorem PayRecord.single_takeOut (h : r.Single) (p : PayPunch) : (r.takeOut classes roll today p).Single := by
  unfold PayRecord.takeOut
  dsimp only
  split
  · split
    · exact .inl rfl
    · simpa [PayRecord.Single] using h
  next hnone => exact .inl (by simpa using hnone)

theorem PayRecord.single_pair (h : r.Single) (cls : Fin 8) (p : PayPunch) : (r.pair classes roll today cls p).Single := by
  unfold PayRecord.pair
  split
  · exact PayRecord.single_takeIn _ _ _ h ..
  · exact PayRecord.single_takeOut _ _ _ h ..

end

/-- Records changed in place, each staying single. -/
theorem GoodRecords.map {xs : List (Nat × PayRecord)} {g : Nat × PayRecord → Nat × PayRecord} (h : GoodRecords xs)
    (hkey : ∀ x, (g x).1 = x.1) (hsingle : ∀ x, x.2.Single → (g x).2.Single) : GoodRecords (xs.map g) := by
  obtain ⟨hascending, hslots, hone⟩ := h
  have hkeys : (xs.map g).map Prod.fst = xs.map Prod.fst := by simp [hkey]
  refine ⟨hkeys ▸ hascending, ?_, ?_⟩
  · rw [List.forall_mem_map]; exact fun x hx => (hkey x).symm ▸ hslots x hx
  · rw [List.forall_mem_map]; exact fun x hx => hsingle x (hone x hx)

theorem PayUnit.good_modRecord {p : PayUnit} (slot : Nat) {f : PayRecord → PayRecord} (h : p.Good)
    (hf : ∀ r, r.Single → (f r).Single) : (p.modRecord slot f).Good :=
  ⟨h.1, h.2.map (fun x => by split <;> rfl) fun x hx => by split <;> [exact hf _ hx; exact hx]⟩

theorem PayUnit.good_roll {p : PayUnit} (roll : Nat) (h : p.Good) : (p.roll roll).Good :=
  ⟨h.1, h.2.map (fun _ => rfl) fun _ hx => PayRecord.single_roll _ _ _ hx⟩

theorem PayUnit.good_free {p : PayUnit} (slot : Nat) (h : p.Good) : (p.free slot).Good := by
  obtain ⟨hclasses, hascending, hslots, hone⟩ := h
  refine ⟨hclasses, hascending.sublist (List.filter_sublist.map _), fun x hx => hslots x (List.mem_of_mem_filter hx),
    fun x hx => hone x (List.mem_of_mem_filter hx)⟩

/-! ## A record allocated (R50) -/

/-- The lowest free number of ascending records from `n` on: every number below it, from `n` on, is taken, and it is not. -/
theorem lowestFree_spec (n : Nat) (xs : List (Nat × PayRecord)) (hascending : (xs.map Prod.fst).Pairwise (· < ·))
    (hfrom : ∀ k ∈ xs.map Prod.fst, n ≤ k) :
    n ≤ lowestFree n xs ∧ lowestFree n xs ≤ n + xs.length ∧ lowestFree n xs ∉ xs.map Prod.fst ∧
    ∀ k, n ≤ k → k < lowestFree n xs → k ∈ xs.map Prod.fst := by
  induction xs generalizing n with
  | nil => simp [lowestFree]
  | cons x xs ih =>
    obtain ⟨k, r⟩ := x
    simp only [List.map_cons, List.pairwise_cons, List.mem_cons, forall_eq_or_imp] at hascending hfrom
    obtain ⟨habove, hrest⟩ := hascending
    obtain ⟨hk, -⟩ := hfrom
    unfold lowestFree
    split
    case isTrue heq =>
      subst heq
      obtain ⟨hlow, hhigh, hfree, htaken⟩ := ih (k + 1) hrest fun j hj => habove j hj
      refine ⟨by omega, by simp only [List.length_cons]; omega, ?_, fun j hj hlt => ?_⟩
      · simp only [List.map_cons, List.mem_cons, not_or]
        exact ⟨by omega, hfree⟩
      · rcases Nat.eq_or_lt_of_le hj with rfl | hj
        · simp
        · exact List.mem_cons_of_mem _ (htaken j hj hlt)
    case isFalse hne =>
      refine ⟨le_refl n, by omega, ?_, fun j hj hlt => absurd hlt (by omega)⟩
      simp only [List.map_cons, List.mem_cons, not_or]
      exact ⟨fun h => hne h.symm, fun h => absurd (habove n h) (by omega)⟩

theorem mem_insertRecord {slot : Nat} {r : PayRecord} {x : Nat × PayRecord} {xs : List (Nat × PayRecord)} :
    x ∈ insertRecord slot r xs ↔ x = (slot, r) ∨ x ∈ xs := by
  induction xs with
  | nil => simp [insertRecord]
  | cons y ys ih =>
    unfold insertRecord
    split
    · simp
    · simp only [List.mem_cons, ih]; tauto

theorem insertRecord_ascending {slot : Nat} {r : PayRecord} {xs : List (Nat × PayRecord)}
    (h : (xs.map Prod.fst).Pairwise (· < ·)) (hfree : slot ∉ xs.map Prod.fst) :
    ((insertRecord slot r xs).map Prod.fst).Pairwise (· < ·) := by
  induction xs with
  | nil => simp [insertRecord]
  | cons y ys ih =>
    obtain ⟨k, x⟩ := y
    simp only [List.map_cons, List.pairwise_cons, List.mem_cons, not_or] at h hfree
    obtain ⟨habove, hrest⟩ := h
    obtain ⟨hne, hfree⟩ := hfree
    unfold insertRecord
    split
    case isTrue hlt =>
      simp only [List.map_cons, List.pairwise_cons, List.mem_cons, forall_eq_or_imp]
      exact ⟨⟨hlt, fun j hj => hlt.trans (habove j hj)⟩, habove, hrest⟩
    case isFalse hge =>
      simp only [List.map_cons, List.pairwise_cons]
      refine ⟨fun j hj => ?_, ih hrest hfree⟩
      obtain ⟨z, hz, rfl⟩ := List.mem_map.1 hj
      rcases mem_insertRecord.1 hz with rfl | hz
      · change k < slot; omega
      · exact habove _ (List.mem_map_of_mem hz)

/-- The free record of the lowest number, as `freeSlot` gives it. -/
theorem PayUnit.freeSlot_spec {p : PayUnit} {slot : Nat} (h : (p.records.map Prod.fst).Pairwise (· < ·))
    (hslot : p.freeSlot = some slot) :
    slot < 1024 ∧ slot ∉ p.records.map Prod.fst ∧ ∀ k < slot, k ∈ p.records.map Prod.fst := by
  unfold PayUnit.freeSlot at hslot
  split at hslot
  case isFalse => cases hslot
  case isTrue hlt =>
    cases hslot
    obtain ⟨-, hhigh, hfree, htaken⟩ := lowestFree_spec 0 p.records h fun _ _ => Nat.zero_le _
    simp only [payCapacity] at hlt
    exact ⟨by omega, hfree, fun k hk => htaken k (Nat.zero_le k) hk⟩

theorem PayUnit.good_allocate {p : PayUnit} {slot : Nat} (h : p.Good) (hslot : p.freeSlot = some slot) :
    (p.allocate slot).Good := by
  obtain ⟨hclasses, hascending, hslots, hone⟩ := h
  obtain ⟨hlt, hfree, -⟩ := PayUnit.freeSlot_spec hascending hslot
  refine ⟨hclasses, insertRecord_ascending hascending hfree, fun x hx => ?_, fun x hx => ?_⟩
  · rcases mem_insertRecord.1 hx with rfl | hx
    · exact hlt
    · exact hslots x hx
  · rcases mem_insertRecord.1 hx with rfl | hx
    · exact .inl rfl
    · exact hone x hx

/-! ## The badge table -/

/-- Entries changed by a function that keeps their numbers are found by the same numbers. -/
theorem find?_map_number {xs : List BadgeEntry} {g : BadgeEntry → BadgeEntry} (hg : ∀ x, (g x).number = x.number) (n : Nat) :
    (xs.map g).find? (fun x => decide (x.number = n)) = (xs.find? fun x => decide (x.number = n)).map g := by
  rw [List.find?_map]
  congr 2
  funext x
  simp [hg]

theorem number_of_find? {xs : List BadgeEntry} {n : Nat} {e : BadgeEntry}
    (h : xs.find? (fun x => decide (x.number = n)) = some e) : e.number = n := by
  simpa using List.find?_some h

/-- A count of the entries after the one of a number is changed. -/
theorem countP_map_number {xs : List BadgeEntry} {n : Nat} {e : BadgeEntry} (f : BadgeEntry → BadgeEntry)
    (p : BadgeEntry → Bool) (h : (xs.map BadgeEntry.number).Pairwise (· < ·))
    (he : xs.find? (fun x => decide (x.number = n)) = some e) :
    (xs.map fun x => if x.number = n then f x else x).countP p + (if p e then 1 else 0) =
      xs.countP p + (if p (f e) then 1 else 0) := by
  induction xs with
  | nil => simp at he
  | cons x xs ih =>
    simp only [List.map_cons, List.pairwise_cons] at h
    obtain ⟨habove, hrest⟩ := h
    by_cases hx : x.number = n
    · have hxe : x = e := by simpa [List.find?_cons, hx] using he
      subst hxe
      have hsame : (xs.map fun y => if y.number = n then f y else y) = xs := by
        refine (List.map_congr_left fun y hy => if_neg ?_).trans (List.map_id xs)
        have := habove _ (List.mem_map_of_mem hy)
        omega
      simp only [List.map_cons, hx, if_true, hsame, List.countP_cons]
      omega
    · have he' : xs.find? (fun x => decide (x.number = n)) = some e := by simpa [List.find?_cons, hx] using he
      have := ih hrest he'
      simp only [List.map_cons, hx, if_false, List.countP_cons]
      omega

/-- A count of the entries after the one of a number is removed. -/
theorem countP_filter_number {xs : List BadgeEntry} {n : Nat} {e : BadgeEntry} (p : BadgeEntry → Bool)
    (h : (xs.map BadgeEntry.number).Pairwise (· < ·)) (he : xs.find? (fun x => decide (x.number = n)) = some e) :
    (xs.filter fun x => decide (x.number ≠ n)).countP p + (if p e then 1 else 0) = xs.countP p := by
  induction xs with
  | nil => simp at he
  | cons x xs ih =>
    simp only [List.map_cons, List.pairwise_cons] at h
    obtain ⟨habove, hrest⟩ := h
    by_cases hx : x.number = n
    · have hxe : x = e := by simpa [List.find?_cons, hx] using he
      subst hxe
      have hsame : (xs.filter fun y => decide (y.number ≠ n)) = xs := by
        refine List.filter_eq_self.2 fun y hy => ?_
        have := habove _ (List.mem_map_of_mem hy)
        simp only [decide_eq_true_eq]
        omega
      rw [List.filter_cons_of_neg (by simpa using hx), hsame, List.countP_cons]
    · have he' : xs.find? (fun x => decide (x.number = n)) = some e := by simpa [List.find?_cons, hx] using he
      have := ih hrest he'
      rw [List.filter_cons_of_pos (by simpa using hx)]
      simp only [List.countP_cons]
      omega

theorem mem_insertEntry {e x : BadgeEntry} {xs : List BadgeEntry} : x ∈ insertEntry e xs ↔ x = e ∨ x ∈ xs := by
  induction xs with
  | nil => simp [insertEntry]
  | cons y ys ih =>
    unfold insertEntry
    split
    · simp
    · simp only [List.mem_cons, ih]; tauto

@[simp] theorem insertEntry_length (e : BadgeEntry) (xs : List BadgeEntry) :
    (insertEntry e xs).length = xs.length + 1 := by
  induction xs with
  | nil => rfl
  | cons y ys ih => unfold insertEntry; split <;> simp [ih]

theorem insertEntry_countP (e : BadgeEntry) (xs : List BadgeEntry) (p : BadgeEntry → Bool) :
    (insertEntry e xs).countP p = xs.countP p + (if p e then 1 else 0) := by
  induction xs with
  | nil => simp [insertEntry]
  | cons y ys ih =>
    unfold insertEntry
    split
    · simp [List.countP_cons]
    · simp only [List.countP_cons, ih]; omega

theorem insertEntry_ascending {e : BadgeEntry} {xs : List BadgeEntry} (h : (xs.map BadgeEntry.number).Pairwise (· < ·))
    (hnew : e.number ∉ xs.map BadgeEntry.number) : ((insertEntry e xs).map BadgeEntry.number).Pairwise (· < ·) := by
  induction xs with
  | nil => simp [insertEntry]
  | cons y ys ih =>
    simp only [List.map_cons, List.pairwise_cons, List.mem_cons, not_or] at h hnew
    obtain ⟨habove, hrest⟩ := h
    obtain ⟨hne, hnew⟩ := hnew
    unfold insertEntry
    split
    case isTrue hlt =>
      simp only [List.map_cons, List.pairwise_cons, List.mem_cons, forall_eq_or_imp]
      exact ⟨⟨hlt, fun j hj => hlt.trans (habove j hj)⟩, habove, hrest⟩
    case isFalse hge =>
      simp only [List.map_cons, List.pairwise_cons]
      refine ⟨fun j hj => ?_, ih hrest hnew⟩
      obtain ⟨z, hz, rfl⟩ := List.mem_map.1 hj
      rcases mem_insertEntry.1 hz with rfl | hz
      · omega
      · exact habove _ (List.mem_map_of_mem hz)

/-- A new entry changes what is found by its own number alone. -/
theorem find?_insertEntry {e : BadgeEntry} {xs : List BadgeEntry} (n : Nat)
    (hnew : xs.find? (fun x => decide (x.number = e.number)) = none) :
    (insertEntry e xs).find? (fun x => decide (x.number = n)) =
      if n = e.number then some e else xs.find? fun x => decide (x.number = n) := by
  induction xs with
  | nil => simp [insertEntry, List.find?_cons, eq_comm (a := n)]; split <;> simp_all
  | cons y ys ih =>
    simp only [List.find?_cons] at hnew
    have hy : y.number ≠ e.number := by intro h; simp [h] at hnew
    have hys : ys.find? (fun x => decide (x.number = e.number)) = none := by simpa [hy] using hnew
    unfold insertEntry
    split
    · by_cases hn : n = e.number
      · subst hn; simp
      · simp [List.find?_cons, hn, Ne.symm hn]
    · simp only [List.find?_cons, ih hys]
      by_cases hn : n = e.number
      · subst hn; simp [hy]
      · simp [hn]

theorem not_mem_numbers {xs : List BadgeEntry} {n : Nat} (h : xs.find? (fun x => decide (x.number = n)) = none) :
    n ∉ xs.map BadgeEntry.number := by
  simpa [List.find?_eq_none] using h

/-! ## Changes of the badge table -/

section
variable {s : State}

theorem State.lookup_number {badge : Nat} {e : BadgeEntry} (h : s.lookup badge = some e) : e.number = badge :=
  number_of_find? h

/-- The entry of one number changed, its number kept: the table stays ordered, and the muster count is good when it follows
the entry. -/
theorem BadgeTable.good_change {b : BadgeTable} {n m : Nat} {e : BadgeEntry} {f : BadgeEntry → BadgeEntry} (h : b.Good)
    (he : b.entries.find? (fun x => decide (x.number = n)) = some e) (hf : ∀ x, (f x).number = x.number)
    (hm : m + (if e.present then 1 else 0) = b.muster + (if (f e).present then 1 else 0)) :
    ({ b with entries := b.entries.map fun x => if x.number = n then f x else x, muster := m } : BadgeTable).Good := by
  obtain ⟨hlength, hascending, hrange, hmuster⟩ := h
  have hnumber (x : BadgeEntry) : (if x.number = n then f x else x).number = x.number := by split <;> simp [hf]
  have hnumbers : (b.entries.map fun x => if x.number = n then f x else x).map BadgeEntry.number =
      b.entries.map BadgeEntry.number := by
    simp [hnumber]
  refine ⟨by simpa using hlength, hnumbers ▸ hascending, ?_, ?_⟩
  · simpa [hnumber] using hrange
  · have := countP_map_number f BadgeEntry.present hascending he
    simp only at hm ⊢
    omega

theorem BadgeTable.raised_change {b : BadgeTable} {n m : Nat} {f : BadgeEntry → BadgeEntry}
    (hf : ∀ x, (f x).number = x.number)
    (ht : ∀ e, b.entries.find? (fun x => decide (x.number = n)) = some e → e.presence.time ≤ (f e).presence.time) :
    PresenceRaised b { b with entries := b.entries.map fun x => if x.number = n then f x else x, muster := m } := by
  intro k e he
  have hnumber (x : BadgeEntry) : (if x.number = n then f x else x).number = x.number := by split <;> simp [hf]
  refine ⟨if e.number = n then f e else e, by rw [find?_map_number hnumber, he]; rfl, ?_⟩
  split
  next hn => exact ht e (by rw [← hn, number_of_find? he]; exact he)
  next => exact le_refl _

variable (s)

theorem State.forward_countStale (p : Option Station) : Forward s (s.countStale p) := by
  cases p with
  | none =>
    exact State.forward_modBadges (f := fun b => { b with ownStale := satAdd max8 b.ownStale 1 }) id fun _ e h => ⟨e, h, le_refl _⟩
  | some p => exact s.forward_modPeer ..

theorem State.forward_countStranger (p : Option Station) : Forward s (s.countStranger p) := by
  cases p with
  | none =>
    exact State.forward_modBadges (f := fun b => { b with ownStranger := satAdd max8 b.ownStranger 1 }) id fun _ e h => ⟨e, h, le_refl _⟩
  | some p => exact s.forward_modPeer ..

/-- The muster count of a good table follows a presence change (R14). -/
theorem musterAfter_spec {b : BadgeTable} {n : Nat} {e : BadgeEntry} (h : b.Good)
    (he : b.entries.find? (fun x => decide (x.number = n)) = some e) (new : PresenceState) :
    musterAfter b.muster e.presence.state new + (if e.present then 1 else 0) =
      b.muster + (if decide (new = .isIn) then 1 else 0) := by
  have hpos : e.present = true → 0 < b.muster := fun hp => by
    rw [h.2.2.2]; exact List.countP_pos_iff.2 ⟨e, List.mem_of_find?_eq_some he, hp⟩
  have hp : e.present = true ↔ e.presence.state = .isIn := by simp [BadgeEntry.present]
  simp only [musterAfter, hp] at hpos ⊢
  by_cases ho : e.presence.state = .isIn <;> by_cases hn : new = .isIn <;> simp [ho, hn] at hpos ⊢
  omega

theorem State.forward_applyPresence (badge : Nat) (dir : Direction) (time : Nat) (p : Option Station) :
    Forward s (s.applyPresence badge dir time p) := by
  unfold State.applyPresence
  split
  · exact s.forward_countStranger p
  next e he =>
    split
    · exact s.forward_countStale p
    next ht =>
      refine State.forward_modBadges (fun hg => ?_) (BadgeTable.raised_change
        (f := fun x => { x with presence :=
          { state := presenceOf dir, time, source := some (p.getD s.ownStation) } }) (fun _ => rfl) fun x hx => ?_)
      · exact BadgeTable.good_change (f := fun x => { x with presence :=
          { state := presenceOf dir, time, source := some (p.getD s.ownStation) } }) hg he (fun _ => rfl)
          (musterAfter_spec hg he (presenceOf dir))
      · obtain rfl : e = x := Option.some.inj (he.symm.trans hx)
        exact Nat.le_of_not_lt ht

/-! ## Pay -/

theorem State.forward_modRecord (slot : Nat) {f : PayRecord → PayRecord} (hf : ∀ r, r.Single → (f r).Single) :
    Forward s (s.modPay fun u => u.modRecord slot f) :=
  State.forward_modPay (fun h => PayUnit.good_modRecord slot h hf) (le_refl _)

theorem State.forward_rollOnce : Forward s s.rollOnce :=
  (State.forward_modPay (PayUnit.good_roll _) (Nat.le_succ _)).trans (State.forward_modPort id)

theorem State.forward_rollTimes (n : Nat) : Forward s (s.rollTimes n) := by
  induction n generalizing s with
  | zero => exact .refl s
  | succ n ih => exact s.forward_rollOnce.trans (ih _)

theorem State.forward_takeRolls : Forward s s.takeRolls := by
  unfold State.takeRolls
  split
  · exact .refl s
  · exact s.forward_rollTimes _

theorem State.forward_earlyRoll : Forward s s.earlyRoll := s.forward_rollOnce.trans (State.forward_modPay id (le_refl _))

theorem State.forward_payPunch (slot : Nat) (cls : Fin 8) (p : PayPunch) : Forward s (s.payPunch slot cls p) := by
  have hpair (x : State) : Forward x
      (x.modPay fun u => u.modRecord slot fun r => r.pair u.shiftClass s.dayRollMinute u.today cls p) :=
    State.forward_modPay (fun h => PayUnit.good_modRecord slot h fun r hr => PayRecord.single_pair _ _ _ hr ..) (le_refl _)
  unfold State.payPunch
  extract_lets roll day pair
  split
  · exact s.forward_modRecord slot fun r hr => hr
  · split
    · exact hpair s
    · split
      · exact s.forward_earlyRoll.trans (hpair _)
      · exact s.forward_modRecord slot fun r hr => hr

theorem State.forward_handPay (badge : Nat) (p : PayPunch) : Forward s (s.handPay badge p) := by
  unfold State.handPay
  split
  · exact s.forward_payPunch ..
  · exact .refl s

theorem State.forward_journalPunch (l : Lane) (b : Nat) (d : Direction) (o : PunchOutcome) (t : Nat) (e : BitVec 8) :
    Forward s (s.journalPunch l b d o t e) := by
  unfold State.journalPunch
  dsimp only
  split
  · exact (s.forward_modJournal _).trans ((State.forward_modJournal ..).trans (State.forward_modLine ..))
  · split
    · exact (s.forward_modJournal _).trans (State.forward_modJournal ..)
    · exact (s.forward_modJournal _).trans ((State.forward_modJournal ..).trans (State.forward_recordIncident ..))

theorem State.forward_ownPunch (l : Lane) (b : Nat) (d : Direction) (o : PunchOutcome) (x : Bool) :
    Forward s (s.ownPunch l b d o x) :=
  (s.forward_applyPresence ..).trans ((State.forward_handPay ..).trans ((State.forward_journalPunch ..).trans
    (State.forward_hand ..)))

end

end Sys2Proof.Machine
end

section
/-! SUPPORT. What the clock, the line, the supply and every command keep of the tables, and what no step lowers. -/

namespace Sys2Proof.Machine

section
variable (s : State)

/-! ## ClockOps -/

theorem State.forward_correctOffsets (d : Int) : Forward s (s.correctOffsets d) := State.forward_modPeers (by simp)
theorem State.forward_clearOffsets : Forward s s.clearOffsets := State.forward_modPeers (by simp)

theorem State.forward_countTimers : Forward s s.countTimers := by
  refine (s.forward_modSupply _).trans ((State.forward_modLanes ..).trans ((State.forward_modControl ..).trans
    ((State.forward_modLine ..).trans ((State.forward_modPeers ?_).trans ((State.forward_modBell rfl rfl).trans
      (State.forward_modWatch ?_))))))
  · simp
  · split <;> exact id

theorem State.forward_sixteenth : Forward s s.sixteenth := by
  have hcounted : Forward s (s.countTimers.modClock Clock.count) := s.forward_countTimers.trans (State.forward_modClock ..)
  unfold State.sixteenth
  dsimp only
  split
  · exact hcounted
  · split
    · exact hcounted
    · exact hcounted.trans (State.forward_correctOffsets ..)

theorem State.forward_sixteenthTimes (n : Nat) : Forward s (s.sixteenthTimes n) := by
  induction n generalizing s with
  | zero => exact .refl s
  | succ n ih => exact s.forward_sixteenth.trans (ih _)

theorem State.forward_countSecond : Forward s s.countSecond :=
  (s.forward_modClock _).trans (State.forward_sixteenthTimes ..)

theorem State.forward_markEnd : Forward s s.markEnd := by
  unfold State.markEnd
  split
  · split
    · exact .refl s
    · exact (s.forward_modClock _).trans (State.forward_detectClock ..)
  · split
    · exact (s.forward_modClock _).trans (State.forward_clearClock ..)
    · exact .refl s

theorem State.forward_stepTo (t : Int) : Forward s (s.stepTo t) := by
  unfold State.stepTo
  extract_lets t1 moved
  have hmoved : Forward s moved := (s.forward_modClock _).trans (State.forward_markEnd _)
  split
  · exact hmoved
  · exact hmoved.trans ((State.forward_takeRolls _).trans (State.forward_catchUp ..))

theorem State.forward_changeEra (t : Int) : Forward s (s.changeEra t) :=
  (s.forward_stepTo t).trans ((State.forward_modClock ..).trans ((State.forward_clearOffsets _).trans
    ((State.forward_recordIncident ..).trans (State.forward_placeBeacon _))))

theorem State.forward_takeAgreement (n : Nat) : Forward s (s.takeAgreement n) := by
  unfold State.takeAgreement
  extract_lets record target acted
  refine Forward.trans (t := acted) ?_ (State.forward_modClock ..)
  simp only [acted]
  split
  · exact s.forward_modClock _
  · exact s.forward_modClock _
  · exact (s.forward_stepTo _).trans ((State.forward_correctOffsets ..).trans (State.forward_recordIncident ..))

theorem State.forward_startBeaconTimer : Forward s s.startBeaconTimer := s.forward_modLine _

/-! ## LineOps -/

theorem State.forward_countLineError : Forward s s.countLineError := s.forward_modLine _
theorem State.forward_clash : Forward s s.clash := (s.forward_modLine _).trans (State.forward_detectLine ..)
theorem State.forward_hear (p : Station) : Forward s (s.hear p) := s.forward_modPeer ..

theorem State.forward_takeFrame (f : Frame) {kind : State → State} (h : ∀ x, Forward x (kind x)) :
    Forward s (s.takeFrame f kind) := by
  unfold State.takeFrame
  split
  · split
    · split
      · exact s.forward_clash
      · exact (s.forward_hear _).trans (h _)
    · exact s.forward_countLineError
  · exact .refl s

theorem State.forward_trackPunch (p : Station) (n : BitVec 8) : Forward s (s.trackPunch p n) := by
  unfold State.trackPunch
  split
  · exact s.forward_modPeer ..
  · split
    · exact s.forward_modPeer ..
    · split
      · exact (s.forward_modPeer ..).trans (State.forward_openDoubt ..)
      · exact s.forward_modPeer ..

theorem State.forward_trackBeacon (p : Station) (n : BitVec 8) : Forward s (s.trackBeacon p n) := by
  unfold State.trackBeacon
  split
  · exact s.forward_modPeer ..
  · split
    · exact (s.forward_modPeer ..).trans (State.forward_openDoubt ..)
    · exact .refl s

theorem State.forward_takeFresh (p : Station) (n : BitVec 8) : Forward s (s.takeFresh p n) :=
  (s.forward_modPeer ..).trans (State.forward_openDoubt ..)

theorem State.forward_takePunch (f : PunchFrame) : Forward s (s.takePunch f) :=
  (s.forward_trackPunch ..).trans ((State.forward_applyPresence ..).trans ((State.forward_handPay ..).trans
    ((State.forward_hand ..).trans (State.forward_settleEvents _))))

theorem State.forward_storeOffset (p : Station) (t : Int) : Forward s (s.storeOffset p t) := s.forward_modPeer ..

theorem State.forward_adoptEra (f : BeaconFrame) : Forward s (s.adoptEra f) := by
  unfold State.adoptEra
  exact (s.forward_stepTo _).trans ((State.forward_modClock ..).trans ((State.forward_clearOffsets _).trans
    ((State.forward_storeOffset ..).trans (State.forward_recordIncident ..))))

theorem State.forward_clockBeacon (f : BeaconFrame) : Forward s (s.clockBeacon f) := by
  unfold State.clockBeacon
  split
  · exact s.forward_storeOffset ..
  · split
    · exact s.forward_adoptEra f
    · exact s.forward_modPeer ..

theorem State.forward_takeBeacon (f : BeaconFrame) : Forward s (s.takeBeacon f) := by
  unfold State.takeBeacon
  extract_lets recorded fresh
  have hfresh : Forward s fresh := by
    simp only [fresh]
    split
    · exact (s.forward_modPeer ..).trans (State.forward_takeFresh ..)
    · exact s.forward_modPeer ..
  exact hfresh.trans ((State.forward_trackBeacon ..).trans (State.forward_clockBeacon ..))

theorem State.forward_takeCue (f : CueFrame) : Forward s (s.takeCue f) := by
  unfold State.takeCue State.judgeCue
  dsimp only
  split
  · split
    case isTrue h =>
      have hmark := BellEntry.mark_lt_of_due h.2
      split
      · exact State.forward_modBell rfl rfl
      · split
        · exact s.forward_passSuppressed _ hmark
        · exact s.forward_rung _ hmark
    case isFalse => exact .refl s
  · exact .refl s

theorem State.forward_takeClear (f : ClearFrame) : Forward s (s.takeClear f) := by
  unfold State.takeClear
  split
  · exact (s.forward_enterEvacuate _).trans (State.forward_settleEvents _)
  · exact (s.forward_enterEvacuate _).trans (State.forward_settleEvents _)
  · exact s.forward_modControl _
  · exact .refl s

theorem State.forward_takeAllClear (p : Station) : Forward s (s.takeAllClear p) := by
  unfold State.takeAllClear
  split
  · split
    · exact s.forward_placeEvac _
    · exact (s.forward_leaveEvacuate _).trans ((State.forward_removeEvac ..).trans (State.forward_settleEvents _))
  · exact s.forward_modControl _
  · exact .refl s

theorem State.forward_leavePlace (h : InHand) : Forward s (s.leavePlace h) := by
  unfold State.leavePlace
  split
  case h_4 => exact s.forward_modJournal _
  all_goals exact s.forward_modLine _

theorem State.forward_sentWhole (x : Sending) : Forward s (s.sentWhole x) :=
  (s.forward_leavePlace _).trans ((State.forward_modLine ..).trans ((State.forward_modPeers rfl).trans
    (State.forward_clearLine ..)))

theorem State.forward_dropFrame (x : Sending) : Forward s (s.dropFrame x) := by
  unfold State.dropFrame
  extract_lets dropped
  have hdropped : Forward s dropped := (s.forward_leavePlace _).trans (State.forward_modLine ..)
  split
  · exact hdropped
  · split
    · exact hdropped.trans (State.forward_detectLine ..)
    · exact hdropped.trans ((State.forward_openDoubt ..).trans ((State.forward_modPeers rfl).trans
        (State.forward_detectLine ..)))

theorem State.forward_collide (x : Sending) : Forward s (s.collide x) := by
  unfold State.collide
  dsimp only
  split
  · exact (s.forward_modLine _).trans (State.forward_modLine ..)
  · exact (s.forward_modLine _).trans (State.forward_dropFrame ..)

/-! ## The end of JOIN, the lanes' events and the contact -/

theorem State.forward_joinEvacuation (r : EvacReason) (c : Bool) : Forward s (s.joinEvacuation r c) := by
  unfold State.joinEvacuation
  dsimp only
  split
  · exact (s.forward_enterEvacuate r).trans (State.forward_placeEvac ..)
  · exact s.forward_enterEvacuate r

theorem State.forward_joinLane (l : Lane) : Forward s (s.joinLane l) := by
  unfold State.joinLane
  split
  · exact .refl s
  · split
    · exact s.forward_enterFault l
    · exact s.forward_reachHold l

theorem State.forward_joinState : Forward s s.joinState := by
  unfold State.joinState
  dsimp only
  split
  · exact (s.forward_modControl _).trans (State.forward_joinEvacuation ..)
  · split
    · exact (s.forward_modControl _).trans (State.forward_joinEvacuation ..)
    · exact (s.forward_modControl _).trans ((State.forward_modControl ..).trans
        ((State.forward_lanes _ State.forward_joinLane).trans (State.forward_refreshDrives _)))

theorem State.forward_endJoin : Forward s s.endJoin :=
  (s.forward_takeAgreement 1).trans ((State.forward_joinState _).trans ((State.forward_placeBeacon _).trans
    ((State.forward_startBeaconTimer _).trans ((State.forward_openDoubt ..).trans (State.forward_settleEvents _)))))

theorem State.forward_endHolds : Forward s s.endHolds := by
  unfold State.endHolds
  extract_lets cleared
  have hcleared : Forward s cleared := s.forward_stopAlarm.trans (State.forward_modControl ..)
  split
  case h_4 => exact hcleared
  all_goals exact hcleared.trans (State.forward_lanes _ State.forward_endHold)

theorem State.forward_terminalEvacuate : Forward s s.terminalEvacuate := by
  unfold State.terminalEvacuate
  split
  · exact s.forward_placeEvac _
  · exact (s.forward_enterEvacuate _).trans ((State.forward_placeEvac ..).trans (State.forward_settleEvents _))

theorem State.forward_badFrame (l : Lane) : Forward s (s.badFrame l) :=
  (s.forward_modLane ..).trans (State.forward_detectLane ..)

theorem State.forward_grant (l : Lane) (b : Nat) (f : Bool) : Forward s (s.grant l b f) := by
  unfold State.grant
  split
  · exact (s.forward_dropRelease l).trans ((State.forward_modLane ..).trans (State.forward_refreshDrive ..))
  · exact (s.forward_dropRelease l).trans ((State.forward_modLane ..).trans (State.forward_refreshDrive ..))
  · exact (s.forward_dropRelease l).trans (State.forward_modLane ..)
  all_goals exact .refl s

theorem State.forward_actOn (l : Lane) (b : Nat) (v : Verdict) : Forward s (s.actOn l b v) := by
  cases v with
  | refuse r => exact s.forward_hand _
  | evacAdmit => exact (s.forward_modLane ..).trans (State.forward_hand ..)
  | admitted => exact (s.forward_grant ..).trans (State.forward_hand ..)
  | flagged => exact (s.forward_grant ..).trans (State.forward_hand ..)

theorem State.forward_dispatchRead (l : Lane) (b : Nat) : Forward s (s.dispatchRead l b) := by
  unfold State.dispatchRead
  split
  · exact s.forward_actOn ..
  · split
    · exact s.forward_modLane ..
    · exact s.forward_actOn ..

theorem State.forward_takeReaderFrame (l : Lane) (cs : List ReaderChar) : Forward s (s.takeReaderFrame l cs) := by
  unfold State.takeReaderFrame
  split
  · exact s.forward_badFrame l
  · exact (s.forward_clearLane ..).trans (State.forward_dispatchRead ..)

theorem State.forward_passed (l : Lane) (p : PendingRelease) : Forward s (s.passed l p) := by
  unfold State.passed
  extract_lets closed moved
  have hmoved : Forward s moved := by
    simp only [moved]
    split
    · exact (s.forward_modLane ..).trans (State.forward_openDoor ..)
    · exact (s.forward_modLane ..).trans ((State.forward_modLane ..).trans (State.forward_refreshDrive ..))
  exact hmoved.trans (State.forward_ownPunch ..)

theorem State.forward_forced (l : Lane) : Forward s (s.forced l) := by
  unfold State.forced
  extract_lets counted event
  have hevent : Forward s event :=
    (s.forward_modLane ..).trans ((State.forward_recordIncident ..).trans (State.forward_hand ..))
  split
  · exact hevent.trans (State.forward_openDoor ..)
  · exact hevent

theorem State.forward_evacPassage (l : Lane) : Forward s (s.evacPassage l) := by
  unfold State.evacPassage
  dsimp only
  split
  · exact (s.forward_modLane ..).trans ((State.forward_modLane ..).trans (State.forward_ownPunch ..))
  · exact (s.forward_modLane ..).trans (State.forward_modLane ..)

theorem State.forward_passage (l : Lane) : Forward s (s.passage l) := by
  unfold State.passage
  split
  · exact s.forward_evacPassage l
  · split
    · exact s.forward_modLane ..
    · exact s.forward_passed ..
    · exact s.forward_forced l
    · exact s.forward_forced l
    · exact .refl s

theorem State.forward_doorClosing (l : Lane) : Forward s (s.doorClosing l) := by
  unfold State.doorClosing State.closeDoor
  refine Forward.trans ?_ (State.forward_clearLane ..)
  split
  · split
    · exact s.forward_modLane ..
    · split
      · exact (s.forward_modLane ..).trans (State.forward_refreshDrive ..)
      · exact (s.forward_modLane ..).trans (State.forward_refreshDrive ..)
  · exact .refl s

theorem State.forward_auxEdge (l : Lane) (b : Bool) : Forward s (s.auxEdge l b) := by
  unfold State.auxEdge
  split
  · exact s.forward_passage l
  · split
    · exact s.forward_doorClosing l
    · exact .refl s

theorem State.forward_auxExpiry (l : Lane) : Forward s (s.auxExpiry l) := by
  unfold State.auxExpiry
  dsimp only
  split
  · exact (s.forward_modLane ..).trans ((State.forward_auxEdge ..).trans (State.forward_settleEvents _))
  · exact .refl s

theorem State.forward_senseEdge (l : Lane) : Forward s (s.senseEdge l) := by
  unfold State.senseEdge
  split
  · exact (s.forward_modLane ..).trans (State.forward_clearLane ..)
  · exact .refl s

theorem State.forward_senseExpiry (l : Lane) : Forward s (s.senseExpiry l) := by
  unfold State.senseExpiry
  dsimp only
  split
  · exact (s.forward_modLane ..).trans ((State.forward_senseEdge ..).trans (State.forward_settleEvents _))
  · exact .refl s

theorem State.forward_foundOpen (l : Lane) : Forward s (s.foundOpen l) := by
  unfold State.foundOpen
  split
  · exact s.forward_openDoor ..
  · exact .refl s

theorem State.forward_auxFound (l : Lane) : Forward s (s.auxFound l) := by
  unfold State.auxFound
  split
  · exact (s.forward_modLane ..).trans (State.forward_foundOpen ..)
  · exact .refl s

theorem State.forward_senseFound (l : Lane) : Forward s (s.senseFound l) := by
  unfold State.senseFound
  split
  · exact s.forward_modLane ..
  · exact .refl s

theorem State.forward_contactLevelFound : Forward s s.contactLevelFound := by
  unfold State.contactLevelFound
  split
  · exact s.forward_modControl _
  · exact .refl s

theorem State.forward_followLevel (b : Bool) (i : Input) : Forward s (s.followLevel b i) := by
  cases i with
  | aux l | sense l => unfold State.followLevel; dsimp only; split <;> [exact s.forward_modLane ..; exact .refl s]
  | contact => unfold State.followLevel; dsimp only; split <;> [exact s.forward_modControl _; exact .refl s]
  | strap l => exact .refl s
  | gateSupply | gateReturn | backupSupply => unfold State.followLevel; exact s.forward_modSupply _

theorem State.forward_contactEdge : Forward s s.contactEdge := by
  unfold State.contactEdge State.contactAsserted
  dsimp only
  refine (s.forward_modControl fun c => { c with contact := s.inputs.contact, contactTimer := none }).trans ?_
  split
  · split
    · exact (State.forward_enterEvacuate ..).trans ((State.forward_placeEvac ..).trans (State.forward_settleEvents _))
    · exact (State.forward_enterEvacuate ..).trans ((State.forward_placeEvac ..).trans (State.forward_settleEvents _))
    · exact State.forward_placeEvac ..
    · exact .refl _
  · exact .refl _

theorem State.forward_senseCheckEnd (l : Lane) : Forward s (s.senseCheckEnd l) := by
  unfold State.senseCheckEnd
  dsimp only
  split
  · exact (s.forward_modLane ..).trans (State.forward_clearLane ..)
  · exact (s.forward_modLane ..).trans (State.forward_detectLane ..)

theorem State.forward_heldTooLong (l : Lane) : Forward s (s.heldTooLong l) :=
  (s.forward_detectLane ..).trans ((State.forward_hand ..).trans (State.forward_modLane ..))

theorem State.forward_losePeer (p : Station) : Forward s (s.losePeer p) :=
  (s.forward_modPeer ..).trans ((State.forward_openDoubt ..).trans (State.forward_recordIncident ..))

/-! ## Supply -/

theorem State.forward_stopLane (l : Lane) : Forward s (s.stopLane l) :=
  (s.forward_dropRelease l).trans (State.forward_modLane ..)

theorem State.forward_retain : Forward s s.retain := by
  unfold State.retain
  split
  · exact .refl s
  · exact (State.forward_modWatch fun _ => ⟨by simp, Nat.succ_pos 31, Nat.succ_pos 31⟩).trans
      ((State.forward_modBell rfl rfl).trans (State.forward_modLine ..))

theorem State.forward_keepEvacuation : Forward s s.keepEvacuation := by
  unfold State.keepEvacuation
  split
  · exact s.forward_modControl _
  · exact .refl s

theorem State.forward_stopLine : Forward s s.stopLine :=
  (s.forward_modLine _).trans (State.forward_modPeers (by simp))

theorem State.forward_enterHoldover : Forward s s.enterHoldover :=
  s.forward_keepEvacuation.trans ((State.forward_lanes _ State.forward_stopLane).trans ((State.forward_modControl ..).trans
    ((State.forward_refreshDrives _).trans ((State.forward_settleEvents _).trans ((State.forward_stopBell _).trans
      ((State.forward_stopLine _).trans ((State.forward_retain _).trans (State.forward_modSupply ..))))))))

theorem State.forward_leaveHoldover : Forward s s.leaveHoldover :=
  (s.forward_recordIncident ..).trans ((State.forward_lanes _ fun s _ => s.forward_modLane ..).trans
    ((State.forward_modControl ..).trans (((State.forward_modPeers (by simp)).trans (State.forward_clearLine ..)).trans
      ((State.forward_modControl ..).trans ((State.forward_modSupply ..).trans (State.forward_refreshDrives _))))))

/-- Every block at its full-reset values is as the tables ask. -/
theorem State.tables_reset : State.reset.Tables where
  badges := ⟨by decide, by decide, by decide, by decide⟩
  pay := ⟨by decide, by decide, by decide, by decide⟩
  bell := ⟨by decide, by decide, by decide⟩
  peers := by decide
  watch := ⟨by decide, by decide, by decide⟩
  port := by decide

theorem State.kept_fullReset : Kept s s.fullReset where
  badges _ := State.tables_reset.badges
  pay _ := State.tables_reset.pay
  bell _ := State.tables_reset.bell
  peers _ := State.tables_reset.peers
  watch _ := State.tables_reset.watch
  port _ := State.tables_reset.port

theorem State.forward_endReset : Forward s s.endReset := by
  unfold State.endReset
  split
  · exact .of_frame rfl rfl rfl rfl rfl id
  · exact .refl s

/-! ## The terminal port -/

theorem State.forward_load (r : Request) : Forward s (s.load r) := by
  unfold State.load
  split
  · exact .refl s
  · refine State.forward_modPort fun h => ?_
    simp only [overlayBlock, blockSize, List.length_take, List.length_append, List.length_drop, h]
    omega

theorem State.forward_answer (c : ResultCode) : Forward s (s.answer c) := State.forward_modPort id

theorem fillBlock_length (bytes : List Byte) : (fillBlock bytes).length = 64 := by
  simp only [fillBlock, blockSize, List.length_take, List.length_append, List.length_replicate]
  omega

theorem State.forward_answerData (c : ResultCode) (b : List Byte) : Forward s (s.answerData c b) :=
  (s.forward_answer c).trans (State.forward_modPort fun _ => fillBlock_length b)

theorem State.forward_answerReply (c : ResultCode) (r : Reply) : Forward s (s.answerReply c r) :=
  (s.forward_answerData ..).trans (State.forward_modPort id)

theorem TerminalPort.store_data_length (p : TerminalPort) (addr : Nat) (b : Byte) :
    (p.store addr b).data.length = p.data.length := by
  unfold TerminalPort.store
  (repeat' split) <;> simp

theorem State.forward_takeWrite (addr : Nat) (b : Byte) : Forward s (s.takeWrite addr b) := by
  unfold State.takeWrite State.overrunWrite State.writePort
  split
  · split
    · exact State.forward_modPort id
    · exact .refl s
  · split
    · split
      · exact State.forward_modPort id
      · exact .refl s
    · exact State.forward_modPort fun h => (s.port.store_data_length addr b).trans h

theorem State.forward_writeBytes (addr : Nat) (bs : List Byte) : Forward s (s.writeBytes addr bs) := by
  induction bs generalizing s addr with
  | nil => exact .refl s
  | cons b bs ih => exact (s.forward_takeWrite addr b).trans (ih _ _)

/-- A terminal command goes forward when its own rule does. -/
theorem State.forward_command (c : Instr) (r : Request) (k : Bool) (t : TakenIn) {act : State → State}
    (h : ∀ x, Forward x (act x)) : Forward s (s.command c r k t act) := by
  unfold State.command
  split
  · exact .refl s
  · split
    · exact State.forward_modPort id
    · split
      · exact (s.forward_load r).trans (State.forward_answer ..)
      · split
        · exact (s.forward_load r).trans (h _)
        · exact (s.forward_load r).trans (State.forward_answer ..)

/-- A terminal command keeps the tables when its own rule does. -/
theorem State.kept_command (c : Instr) (r : Request) (k : Bool) (t : TakenIn) {act : State → State}
    (h : ∀ x, Kept x (act x)) : Kept s (s.command c r k t act) := by
  unfold State.command
  split
  · exact .refl s
  · split
    · exact (State.forward_modPort id).kept
    · split
      · exact (s.forward_load r).kept.trans (State.forward_answer ..).kept
      · split
        · exact (s.forward_load r).kept.trans (h _)
        · exact (s.forward_load r).kept.trans (State.forward_answer ..).kept

/-- A command that R176 locks after READY goes forward there. -/
theorem State.forward_locked (c : Instr) (r : Request) (t : TakenIn) (act : State → State) (hs : s.station ≠ .setup) :
    Forward s (s.command c r true t act) := by
  unfold State.command
  split
  · exact .refl s
  · split
    · exact State.forward_modPort id
    · rw [if_pos ⟨rfl, hs⟩]
      exact (s.forward_load r).trans (State.forward_answer ..)

theorem State.forward_event {act : State → State} (h : ∀ x, Forward x (act x)) : Forward s (s.event act) := by
  unfold State.event
  split
  · exact .refl s
  · exact h s

/-! ## The commands of SETUP -/

theorem State.kept_storeWord {α : Type} (w : Option α) (put : Control → α → Control) (c : ResultCode) :
    Kept s (s.storeWord w put c) := by
  unfold State.storeWord
  split
  · exact (s.forward_answer _).kept
  · exact (s.forward_modControl _).kept.trans (State.forward_answer ..).kept

theorem State.kept_setWord (w : SetWordBlock) : Kept s (s.setWord w) := by
  cases w with
  | undefined a => exact (s.forward_answer _).kept
  | _ => unfold State.setWord; exact s.kept_storeWord ..

theorem clamp_le {lo hi x : Nat} (h : lo ≤ hi) : clamp lo hi x ≤ hi := by unfold clamp; omega

/-- A schedule entry as LOAD BELL stores it has a time of day (R94). -/
theorem readBellBlock_range {e : BellBlock} {k : BellEntry} (h : readBellBlock (clampBell e) = some k) :
    k.minute ≤ 1439 ∧ k.second ≤ 59 := by
  unfold readBellBlock at h
  split at h
  · cases h
  · split at h
    · cases h; exact ⟨clamp_le (by decide), clamp_le (by decide)⟩
    · cases h

theorem State.kept_loadBell (a : BitVec 16) (e : BellBlock) (x : State) :
    Kept x (if h : a.toNat < 48 then
      match readBellBlock (clampBell e) with
      | none => x.answer .badValue
      | some k => (x.modBellEntry ⟨a.toNat, h⟩ fun _ => k).answer (takenResult e (clampBell e))
    else x.answer .badValue) := by
  split
  · split
    · exact (x.forward_answer _).kept
    next k hk =>
      refine Kept.trans (State.kept_modBell (f := fun b => { b with entries := modAt (fun _ => k) a.toNat b.entries })
        fun ⟨hlength, hpatterns, hrange⟩ => ⟨(modAt_length ..).trans hlength, hpatterns, ?_⟩) (State.forward_answer ..).kept
      exact forall_mem_modAt (f := fun _ : BellEntry => k) (P := fun x => x.minute ≤ 1439 ∧ x.second ≤ 59)
        (fun _ _ => readBellBlock_range hk) _ _ hrange
  · exact (x.forward_answer _).kept

theorem State.forward_startLane (l : Lane) : Forward s (s.startLane l) := s.forward_modLane ..

theorem State.kept_getReady : Kept s s.getReady := by
  unfold State.getReady
  exact (State.forward_lanes _ State.forward_startLane).kept.trans ((State.forward_modControl ..).kept.trans
    ((State.kept_modPay id).trans ((State.forward_modClock ..).kept.trans ((State.forward_modJournal ..).kept.trans
      ((State.forward_clearOffsets _).kept.trans ((State.forward_modLine ..).kept.trans
        ((State.forward_modSupply ..).kept.trans (State.forward_modControl ..).kept)))))))

/-! ## Badge commands -/

theorem PresenceRaised.of_insert {b : BadgeTable} {e : BadgeEntry}
    (hnew : b.entries.find? (fun x => decide (x.number = e.number)) = none) :
    PresenceRaised b { b with entries := insertEntry e b.entries } := by
  intro n f hf
  refine ⟨f, ?_, le_refl _⟩
  have hne : n ≠ e.number := by rintro rfl; rw [hnew] at hf; cases hf
  change (insertEntry e b.entries).find? _ = _
  rw [find?_insertEntry n hnew, if_neg hne, hf]

theorem BadgeTable.good_insert {b : BadgeTable} {f : BadgeFields} {slot : Option Nat} (h : b.Good)
    (hlength : b.entries.length < 4096) (hrange : 1 ≤ f.number ∧ f.number ≤ 16777214)
    (hnew : b.entries.find? (fun x => decide (x.number = f.number)) = none) :
    ({ b with entries := insertEntry (newEntry f slot) b.entries } : BadgeTable).Good := by
  obtain ⟨-, hascending, hnumbers, hmuster⟩ := h
  refine ⟨by simp only [insertEntry_length]; omega, insertEntry_ascending hascending (not_mem_numbers hnew), fun x hx => ?_, ?_⟩
  · rcases mem_insertEntry.1 hx with rfl | hx
    · exact hrange
    · exact hnumbers x hx
  · rw [insertEntry_countP]; exact hmuster

/-- A badge block with every value good gives a badge number. -/
theorem readBadgeBlock_number {b : BadgeBlock} {f : BadgeFields} (h : readBadgeBlock b = some f) :
    1 ≤ f.number ∧ f.number ≤ 16777214 := by
  unfold readBadgeBlock at h
  split at h
  · split at h
    next hgood => cases h; simpa [isBadge] using hgood.1
    next => cases h
  · cases h

/-- Entries changed with their numbers and presence kept. -/
theorem BadgeTable.good_map {b : BadgeTable} {g : BadgeEntry → BadgeEntry} (h : b.Good)
    (hnumber : ∀ x, (g x).number = x.number) (hpresence : ∀ x, (g x).presence = x.presence) :
    ({ b with entries := b.entries.map g } : BadgeTable).Good := by
  obtain ⟨hlength, hascending, hrange, hmuster⟩ := h
  have hnumbers : (b.entries.map g).map BadgeEntry.number = b.entries.map BadgeEntry.number := by simp [hnumber]
  have hpresent : BadgeEntry.present ∘ g = BadgeEntry.present := by funext x; simp [BadgeEntry.present, hpresence]
  refine ⟨by simpa using hlength, hnumbers ▸ hascending, ?_, ?_⟩
  · simpa [hnumber] using hrange
  · simpa only [List.countP_map, hpresent] using hmuster

theorem State.forward_replaceEntry (f : BadgeFields) (slot : Option Nat) : Forward s (s.replaceEntry f slot) := by
  let g : BadgeEntry → BadgeEntry := fun e =>
    { e with cls := f.cls, status := f.status, expiry := f.expiry, mode := f.mode, home := f.home, paySlot := slot }
  have hnumber (x : BadgeEntry) : (if x.number = f.number then g x else x).number = x.number := by split <;> rfl
  have hpresence (x : BadgeEntry) : (if x.number = f.number then g x else x).presence = x.presence := by split <;> rfl
  exact State.forward_modBadges (f := fun b => { b with entries := b.entries.map fun x => if x.number = f.number then g x else x })
    (fun hg => BadgeTable.good_map hg hnumber hpresence) (BadgeTable.raised_change (fun _ => rfl) fun _ _ => le_refl _)

theorem State.forward_insertBadge {f : BadgeFields} (slot : Option Nat) (hlength : s.badges.entries.length < 4096)
    (hrange : 1 ≤ f.number ∧ f.number ≤ 16777214) (hnew : s.lookup f.number = none) :
    Forward s (s.insertBadge f slot) :=
  State.forward_modBadges (fun hg => BadgeTable.good_insert hg hlength hrange hnew) (PresenceRaised.of_insert hnew)

theorem State.forward_allocate {slot : Nat} (h : s.pay.freeSlot = some slot) :
    Forward s (s.modPay fun p => p.allocate slot) :=
  State.forward_modPay (fun hg => PayUnit.good_allocate hg h) (le_refl _)

theorem State.forward_free (slot : Nat) : Forward s (s.modPay fun p => p.free slot) :=
  State.forward_modPay (PayUnit.good_free slot) (le_refl _)

theorem State.forward_putNew {f : BadgeFields} (hrange : 1 ≤ f.number ∧ f.number ≤ 16777214)
    (hnew : s.lookup f.number = none) : Forward s (s.putNew f) := by
  unfold State.putNew
  split
  · exact s.forward_answer _
  next hlength =>
    simp only [tableCapacity, not_le] at hlength
    split
    · split
      · exact s.forward_answer _
      next slot hslot =>
        exact (s.forward_allocate hslot).trans
          ((State.forward_insertBadge (s.modPay _) (some slot) hlength hrange hnew).trans (State.forward_answer ..))
    · exact (s.forward_insertBadge none hlength hrange hnew).trans (State.forward_answer ..)

theorem State.forward_putOld (e : BadgeEntry) (f : BadgeFields) : Forward s (s.putOld e f) := by
  unfold State.putOld
  split
  · split
    · exact (s.forward_replaceEntry ..).trans (State.forward_answer ..)
    · split
      · exact s.forward_answer _
      · exact (s.forward_free _).trans ((State.forward_replaceEntry ..).trans (State.forward_answer ..))
  · split
    · split
      · exact s.forward_answer _
      next hslot => exact (s.forward_allocate hslot).trans ((State.forward_replaceEntry ..).trans (State.forward_answer ..))
    · exact (s.forward_replaceEntry ..).trans (State.forward_answer ..)

theorem BadgeTable.good_remove {b : BadgeTable} {n : Nat} {e : BadgeEntry} (h : b.Good)
    (he : b.entries.find? (fun x => decide (x.number = n)) = some e) :
    ({ b with
      entries := b.entries.filter fun x => decide (x.number ≠ n)
      muster := if e.presence.state = .isIn then b.muster - 1 else b.muster } : BadgeTable).Good := by
  obtain ⟨hlength, hascending, hnumbers, hmuster⟩ := h
  refine ⟨(List.length_filter_le ..).trans hlength, hascending.sublist (List.filter_sublist.map _),
    fun x hx => hnumbers x (List.mem_of_mem_filter hx), ?_⟩
  have hcount := countP_filter_number BadgeEntry.present hascending he
  have hp : e.present = true ↔ e.presence.state = .isIn := by simp [BadgeEntry.present]
  simp only [hp] at hcount
  simp only [hmuster]
  split <;> simp_all
  omega

theorem State.kept_removeEntry {badge : Nat} {e : BadgeEntry} (he : s.lookup badge = some e) : Kept s (s.removeEntry e) := by
  obtain rfl := State.lookup_number he
  exact ⟨fun h => BadgeTable.good_remove h he, id, id, id, id, id⟩

theorem State.kept_dropBadge {badge : Nat} {e : BadgeEntry} (force : Bool) (he : s.lookup badge = some e) :
    Kept s (s.dropBadge e force) := by
  unfold State.dropBadge
  split
  · exact (s.kept_removeEntry he).trans (State.forward_answer ..).kept
  · dsimp only
    split
    · exact (s.forward_answer _).kept
    next slot _ _ =>
      have hclosed : Kept s (s.modPay fun p => p.modRecord slot fun r => r.closeMissingOut p.today) :=
        State.kept_modPay fun h => PayUnit.good_modRecord slot h fun r _ => .inl (r.closeMissingOut_openIn _)
      refine hclosed.trans ((State.forward_free _ slot).kept.trans (Kept.trans ?_ (State.forward_answer ..).kept))
      exact State.kept_removeEntry _ he

/-- What `NeverLowered` says of two states. -/
structure NotLowered (s t : State) : Prop where
  today : s.pay.today ≤ t.pay.today
  marks : ∀ (e : Fin 48) (m : Nat), (s.bellEntry e).mark = some m → ∃ n, (t.bellEntry e).mark = some n ∧ m ≤ n
  presence : ∀ (badge : Nat) (e f : BadgeEntry), s.lookup badge = some e → t.lookup badge = some f →
    e.presence.time ≤ f.presence.time

variable {s} in
theorem Raised.notLowered {t : State} (h : Raised s t) : NotLowered s t := by
  refine ⟨h.today, fun e => h.marks e.val, fun badge e f he hf => ?_⟩
  obtain ⟨f', hf', hle⟩ := h.presence badge e he
  obtain rfl : f' = f := Option.some.inj (hf'.symm.trans hf)
  exact hle

/-- A record removed lowers no change time of the entries that stay. -/
theorem State.notLowered_removed {t : State} {e : BadgeEntry} (htoday : t.pay.today = s.pay.today)
    (hbell : t.bell = s.bell) (hentries : t.badges.entries = s.badges.entries.filter fun x => decide (x.number ≠ e.number)) :
    NotLowered s t := by
  refine ⟨htoday.ge, fun k m hm => ⟨m, ?_, le_refl m⟩, fun badge x y hx hy => ?_⟩
  · rw [State.bellEntry, hbell]; exact hm
  · rw [State.lookup, hentries, List.find?_filter] at hy
    by_cases hb : badge = e.number
    · subst hb
      have := List.find?_some hy
      simp at this
    · have hfun : (fun a : BadgeEntry => decide (decide (a.number ≠ e.number) = true ∧ decide (a.number = badge) = true)) =
          fun a => decide (a.number = badge) := by
        funext a
        by_cases ha : a.number = badge <;> simp [ha, hb]
      rw [hfun] at hy
      obtain rfl : x = y := Option.some.inj (hx.symm.trans hy)
      exact le_refl _

end

end Sys2Proof.Machine
end

section
/-! SUPPORT. The tables through every command and the idling of the block: `TablesKept` and `NeverLowered`. -/

namespace Sys2Proof.Machine

/-- What a command or an idle step keeps, as `TablesKept` and `NeverLowered` ask for it. -/
structure Steady (s t : State) : Prop where
  kept : Kept s t
  notLowered : s.station ≠ .setup → t.station ≠ .setup → NotLowered s t

theorem Forward.steady {s t : State} (h : Forward s t) : Steady s t := ⟨h.kept, fun _ _ => h.raised.notLowered⟩

theorem Kept.steady {s t : State} (h : Kept s t) (ht : t.station = .setup) : Steady s t := ⟨h, fun _ hne => absurd ht hne⟩

section
variable (s : State)

/-! ## Terminal commands -/

/-- A command that R176 locks after READY is steady when its own rule keeps the tables. -/
theorem State.steady_locked (c : Instr) (r : Request) (t : TakenIn) {act : State → State} (h : ∀ x, Kept x (act x)) :
    Steady s (s.command c r true t act) :=
  ⟨s.kept_command c r true t h, fun hs _ => (s.forward_locked c r t act hs).raised.notLowered⟩

theorem State.forward_badgePut (b : BadgeBlock) : Forward s (match readBadgeBlock b with
    | none => s.answer .badValue
    | some f =>
      match s.lookup f.number with
      | none => s.putNew f
      | some e => s.putOld e f) := by
  split
  · exact s.forward_answer _
  next f hf =>
    split
    next hnew => exact s.forward_putNew (readBadgeBlock_number hf) hnew
    next e _ => exact s.forward_putOld e f

variable {s} in
/-- The pay day number, the schedule and the badges of the state before are all that is compared. -/
theorem NotLowered.of_before {u t : State} (h : NotLowered u t) (htoday : u.pay.today = s.pay.today) (hbell : u.bell = s.bell)
    (hbadges : u.badges = s.badges) : NotLowered s t := by
  obtain ⟨htime, hmarks, hpresence⟩ := h
  refine ⟨htoday ▸ htime, fun e m hm => hmarks e m ?_, fun badge x y hx hy => hpresence badge x y ?_ hy⟩
  · rw [State.bellEntry, hbell]; exact hm
  · rw [State.lookup, hbadges]; exact hx

theorem State.notLowered_dropBadge (e : BadgeEntry) (force : Bool) : NotLowered s (s.dropBadge e force) := by
  unfold State.dropBadge
  split
  · exact s.notLowered_removed (e := e) rfl rfl rfl
  · dsimp only
    split
    · exact (s.forward_answer _).raised.notLowered
    · exact s.notLowered_removed (e := e) rfl rfl rfl

theorem State.steady_badgeDrop (force : BitVec 16) (badge : BitVec 24) :
    Steady s (s.command (.badgeDrop force badge) { code := 0x21, b := some force, data := leBytes 3 badge.toNat } false .served
      fun x =>
        if isBadge badge.toNat = true ∧ force.toNat < 2 then
          match x.lookup badge.toNat with
          | none => x.answer .noEntry
          | some e => x.dropBadge e (decide (force = 1))
        else x.answer .badValue) := by
  refine ⟨s.kept_command _ _ _ _ fun x => ?_, fun _ _ => ?_⟩
  · split
    · split
      · exact (x.forward_answer _).kept
      next e he => exact x.kept_dropBadge _ he
    · exact (x.forward_answer _).kept
  · have hload {r : Request} {t : State} (h : NotLowered (s.load r) t) : NotLowered s t :=
      h.of_before (by simp) (by simp) (by simp)
    unfold State.command
    split
    · exact (Raised.refl s).notLowered
    · split
      · exact (Forward.raised (State.forward_modPort id)).notLowered
      · rw [if_neg (by simp)]
        split
        · dsimp only
          split
          · split
            · exact hload (State.forward_answer ..).raised.notLowered
            · exact hload (State.notLowered_dropBadge ..)
          · exact hload (State.forward_answer ..).raised.notLowered
        · exact ((s.forward_load _).trans (State.forward_answer ..)).raised.notLowered

theorem State.kept_loadClass (a : BitVec 16) (c : ClassBlock) : Kept s (if a.toNat < 8 then
      match readClassBlock (clampClass c) with
      | none => s.answer .badValue
      | some k =>
        (s.modPay fun p => { p with classes := modAt (fun _ => k) a.toNat p.classes }).answer (takenResult c (clampClass c))
    else s.answer .badValue) := by
  split
  · split
    · exact (s.forward_answer _).kept
    · exact Kept.trans (State.kept_modPay fun h => ⟨(modAt_length ..).trans h.1, h.2⟩) (State.forward_answer ..).kept
  · exact (s.forward_answer _).kept

theorem State.kept_loadPattern (a : BitVec 16) (k : PatternBlock) (c : ResultCode) : Kept s (if a.toNat < 8 then
      (s.modBell fun b =>
        { b with
          patterns := modAt (fun _ => { on := k.on, period := k.period, repeats := k.repeats.toNat }) a.toNat
            b.patterns }).answer c
    else s.answer .badValue) := by
  split
  · exact Kept.trans (State.kept_modBell fun ⟨he, hp, hr⟩ => ⟨he, (modAt_length ..).trans hp, hr⟩) (State.forward_answer ..).kept
  · exact (s.forward_answer _).kept

theorem WatchUnit.oldest_lt {w : WatchUnit} (h : w.writePos < 32) : w.oldest < 32 := by
  unfold WatchUnit.oldest
  split
  · exact h
  · decide

theorem State.forward_traceRead : Forward s (
    let moved := s.modWatch fun w => { w with readPtr := (w.readPtr + 1) % traceLength }
    match s.watch.trace.getD s.watch.readPtr none with
    | some e => moved.answerData .done (traceBlock s.freeBytes e s.watch.nextEvent)
    | none => moved.answerData .empty (List.replicate 16 0 ++ leBytes 2 s.watch.nextEvent.toNat)) := by
  have hmoved : Forward s (s.modWatch fun w => { w with readPtr := (w.readPtr + 1) % traceLength }) :=
    State.forward_modWatch fun ⟨ht, hw, _⟩ => ⟨ht, hw, Nat.mod_lt _ (by decide)⟩
  dsimp only
  split <;> exact hmoved.trans (State.forward_answerData ..)

theorem State.forward_incidentTake : Forward s (match s.watch.incidents with
    | i :: rest =>
      (s.modWatch fun w => { w with incidents := rest, lost := if rest.isEmpty then 0 else w.lost }).answerData .done
        (incidentBlock s.freeBytes i rest.length s.watch.lost)
    | [] =>
      (s.modWatch fun w => { w with lost := 0 }).answerData .empty (List.replicate 6 0 ++ [byteOf s.watch.lost])) := by
  split <;> exact Forward.trans (State.forward_modWatch id) (State.forward_answerData ..)

theorem State.forward_payRead (a : BitVec 16) (badge : BitVec 24) :
    Forward s (if a.toNat < 4 ∧ isBadge badge.toNat = true then
      match s.payRecord badge.toNat with
      | none => s.answer .noEntry
      | some r => s.answerData .done (payPart s.freeBytes r a.toNat)
    else s.answer .badValue) := by
  split
  · split
    · exact s.forward_answer _
    · exact s.forward_answerData ..
  · exact s.forward_answer _

theorem State.forward_answerEntry (e : Option BadgeEntry) : Forward s (s.answerEntry e) := by
  cases e with
  | none => exact s.forward_answer _
  | some e => exact s.forward_answerData ..

theorem State.forward_readMuster (n : Nat) : Forward s (s.readMuster n) := by
  unfold State.readMuster
  refine Forward.trans (State.forward_modBadges ?_ ?_) (State.forward_answerReply ..)
  · exact id
  · exact fun _ e h => ⟨e, h, le_refl _⟩

theorem State.forward_closePeriods : Forward s
    (s.modPay fun p => { p with records := p.records.map fun r => (r.1, r.2.closePeriod) }) :=
  State.forward_modPay (fun h => ⟨h.1, h.2.map (fun _ => rfl) fun _ hx => hx⟩) (le_refl _)

/-! ## Reset and supply -/

theorem State.station_endReset : s.endReset.station = s.station := by
  simp [State.station]

theorem State.steady_fullReset (f : Inputs → Inputs) : Steady s (s.modInputs f).fullReset :=
  ((s.forward_modInputs f).kept.trans (State.kept_fullReset _)).steady rfl

theorem State.steady_powerOn : Kept s s.powerOn ∧ s.powerOn.station = .setup :=
  ⟨s.kept_fullReset.trans (State.forward_endReset _).kept, (State.station_endReset _).trans rfl⟩

theorem State.steady_supplyReturn : Steady s (
    let x := s.modInputs fun i => { i with gateLow := false, gateGood := true }
    if x.supply.unpowered then x.powerOn
    else x.event fun y =>
      if y.station = .holdover then y.leaveHoldover else y.modSupply SupplyMonitor.reported) := by
  dsimp only
  split
  · obtain ⟨hkept, hsetup⟩ := State.steady_powerOn (s.modInputs fun i => { i with gateLow := false, gateGood := true })
    exact ((s.forward_modInputs _).kept.trans hkept).steady hsetup
  · refine ((s.forward_modInputs _).trans (State.forward_event _ fun y => ?_)).steady
    split
    · exact y.forward_leaveHoldover
    · exact y.forward_modSupply _

theorem State.steady_supplyFailure : Steady s (
    let x := s.modInputs fun i => { i with gateLow := true, gateGood := false }
    x.event fun y =>
      if y.station = .holdover then y.modSupply SupplyMonitor.reported
      else if y.inputs.backupLow then y.losePower
      else if y.station = .setup then y.modSupply SupplyMonitor.reported
      else y.enterHoldover) := by
  have hpins := s.forward_modInputs fun i => { i with gateLow := true, gateGood := false }
  dsimp only
  generalize s.modInputs _ = x at hpins ⊢
  unfold State.event
  split
  · exact hpins.steady
  · dsimp only
    split
    · exact (hpins.trans (x.forward_modSupply _)).steady
    · split
      · exact (hpins.kept.trans (x.kept_fullReset.trans (State.forward_modSupply ..).kept)).steady rfl
      · split
        · exact (hpins.trans (x.forward_modSupply _)).steady
        · exact (hpins.trans x.forward_enterHoldover).steady

end

/-! ## Every command -/

/-- Every command is steady, by its own rule. -/
theorem exec_steady {i : Instr} {s t : State} (h : exec i s = .next t) : Steady s t := by
  cases i with
  | setWord w => cases h; exact s.steady_locked _ _ _ fun x => x.kept_setWord w
  | loadClass a c => cases h; exact s.steady_locked _ _ _ fun x => x.kept_loadClass a c
  | loadBell a e => cases h; exact s.steady_locked _ _ _ fun x => x.kept_loadBell a e
  | loadPattern a p => cases h; exact s.steady_locked _ _ _ fun x => x.kept_loadPattern a (clampPattern p) _
  | loadRule a r =>
    cases h
    refine s.steady_locked _ _ _ fun x => ?_
    split
    · exact ((x.forward_modRule ..).trans (State.forward_answer ..)).kept
    · exact (x.forward_answer _).kept
  | setTime time era =>
    cases h
    refine (s.forward_command _ _ _ _ fun x => ?_).steady
    split
    · exact (x.forward_stepTo _).trans ((State.forward_modClock ..).trans (State.forward_answer ..))
    · exact (x.forward_changeEra _).trans (State.forward_answer ..)
  | ready =>
    cases h
    refine s.steady_locked _ _ _ fun x => ?_
    split
    · exact x.kept_getReady.trans (State.forward_answer ..).kept
    · exact (x.forward_answerReply ..).kept
  | badgePut b => cases h; exact (s.forward_command _ _ _ _ fun x => x.forward_badgePut b).steady
  | badgeDrop force badge => cases h; exact s.steady_badgeDrop force badge
  | badgeRead a badge =>
    cases h
    refine (s.forward_command _ _ _ _ fun x => ?_).steady
    split
    · exact x.forward_answerEntry _
    · split
      · exact x.forward_answerEntry _
      · exact x.forward_answer _
  | musterRead a =>
    cases h
    refine (s.forward_command _ _ _ _ fun x => ?_).steady
    split
    · exact x.forward_readMuster _
    · split
      · exact x.forward_readMuster _
      · exact x.forward_answer _
  | payRead a badge => cases h; exact (s.forward_command _ _ _ _ fun x => x.forward_payRead a badge).steady
  | periodClose =>
    cases h
    exact (s.forward_command _ _ _ _ fun x => x.forward_closePeriods.trans (State.forward_answer ..)).steady
  | traceMark =>
    cases h
    exact (s.forward_command _ _ _ _ fun x =>
      (State.forward_modWatch fun ⟨ht, hw, _⟩ => ⟨ht, hw, WatchUnit.oldest_lt hw⟩).trans (State.forward_answer ..)).steady
  | traceRead => cases h; exact (s.forward_command _ _ _ _ fun x => x.forward_traceRead).steady
  | incidentTake => cases h; exact (s.forward_command _ _ _ _ fun x => x.forward_incidentTake).steady
  | statusRead a b =>
    cases h
    refine (s.forward_command _ _ _ _ fun x => ?_).steady
    split
    · exact x.forward_answer _
    · exact x.forward_answerReply ..
  | peerRead a =>
    cases h
    refine (s.forward_command _ _ _ _ fun x => ?_).steady
    split
    · exact x.forward_answerReply ..
    · exact x.forward_answer _
  | hold a =>
    cases h
    refine (s.forward_command _ _ _ _ fun x => ?_).steady
    split
    · exact (x.forward_addStationReason _).trans (State.forward_answer ..)
    · split
      · exact (x.forward_addLaneReason ..).trans (State.forward_answer ..)
      · exact x.forward_answer _
  | resume => cases h; exact (s.forward_command _ _ _ _ fun x => x.forward_endHolds.trans (State.forward_answer ..)).steady
  | arm a =>
    cases h
    refine (s.forward_command _ _ _ _ fun x => ?_).steady
    split
    · exact x.forward_answer _
    · exact (x.forward_modRule ..).trans (State.forward_answer ..)
  | disarm a =>
    cases h
    refine (s.forward_command _ _ _ _ fun x => ?_).steady
    split
    · exact x.forward_answer _
    · exact (x.forward_modRule ..).trans (State.forward_answer ..)
  | passbackMode a =>
    cases h
    refine (s.forward_command _ _ _ _ fun x => ?_).steady
    split
    · exact (x.forward_modControl _).trans (State.forward_answer ..)
    · split
      · exact (x.forward_modControl _).trans (State.forward_answer ..)
      · exact x.forward_answer _
  | evacuate =>
    cases h
    exact (s.forward_command _ _ _ _ fun x => x.forward_terminalEvacuate.trans (State.forward_answer ..)).steady
  | allClear =>
    cases h
    refine (s.forward_command _ _ _ _ fun x => ?_).steady
    split
    · exact x.forward_answer _
    · split
      · exact x.forward_answer _
      · exact (x.forward_leaveEvacuate _).trans ((State.forward_placeEvac ..).trans ((State.forward_settleEvents _).trans
          (State.forward_answer ..)))
  | shiftTime a =>
    cases h
    refine (s.forward_command _ _ _ _ fun x => ?_).steady
    split
    · exact (x.forward_changeEra _).trans (State.forward_answer ..)
    · exact x.forward_answer _
  | attentionRead =>
    cases h
    exact (s.forward_command _ _ _ _ fun x => (State.forward_modPort id).trans (State.forward_answerData ..)).steady
  | unknownCommand code =>
    cases h
    split
    · exact (Forward.refl s).steady
    · exact (s.forward_command _ _ _ _ fun x => x.forward_answer _).steady
  | mailboxWrite address bytes =>
    cases h
    refine (s.forward_event fun x => ?_).steady
    split
    · exact .refl x
    · exact x.forward_writeBytes ..
  | overrun addr byte =>
    cases h
    refine (s.forward_event fun x => ?_).steady
    split
    next hgo => simpa [State.takeWrite, hgo] using x.forward_takeWrite addr.toNat byte
    next => exact .refl x
  | fullReset => cases h; exact ((s.steady_fullReset _).kept.trans (State.forward_modSupply ..).kept).steady rfl
  | supplyFailure => cases h; exact s.steady_supplyFailure
  | supplyReturn => cases h; exact s.steady_supplyReturn
  | backupLoss => cases h; exact ((s.steady_fullReset _).kept.trans (State.forward_modSupply ..).kept).steady rfl
  | readerFrame l chars =>
    cases h
    refine (s.forward_event fun x => ?_).steady
    split
    · exact (x.forward_takeReaderFrame ..).trans (State.forward_settleEvents _)
    · exact .refl x
  | readerBreakSecond l =>
    cases h
    refine (s.forward_event fun x => ?_).steady
    split
    · exact (x.forward_badFrame l).trans (State.forward_settleEvents _)
    · exact .refl x
  | inputLevelChange input level =>
    cases h
    split
    · exact (Forward.refl s).steady
    · exact ((s.forward_modInputs _).trans (State.forward_event _ fun y => y.forward_followLevel ..)).steady
  | debounceExpiry input =>
    cases h
    refine (s.forward_event fun x => ?_).steady
    cases input with
    | aux l => exact x.forward_auxExpiry l
    | sense l => exact x.forward_senseExpiry l
  | firstLevelFound input =>
    cases h
    refine (s.forward_event fun x => ?_).steady
    cases input with
    | aux l => exact x.forward_auxFound l
    | sense l => exact x.forward_senseFound l
    | contact => exact x.forward_contactLevelFound
  | evacContactEdge =>
    cases h
    refine (s.forward_event fun x => ?_).steady
    split
    · exact x.forward_contactEdge
    · exact .refl x
  | senseCheckExpiry l =>
    cases h
    refine (s.forward_event fun x => ?_).steady
    split
    · exact (x.forward_senseCheckEnd l).trans (State.forward_settleEvents _)
    · exact .refl x
  | releaseTimerExpiry l =>
    cases h
    refine (s.forward_event fun x => ?_).steady
    split
    · exact (x.forward_expireRelease l).trans (State.forward_settleEvents _)
    · exact .refl x
  | heldOpenExpiry l =>
    cases h
    refine (s.forward_event fun x => ?_).steady
    split
    · exact (x.forward_heldTooLong l).trans (State.forward_settleEvents _)
    · exact .refl x
  | evacReadExpiry l => cases h; exact (s.forward_event fun x => x.forward_modLane ..).steady
  | clockSecond => cases h; exact (s.forward_event State.forward_countSecond).steady
  | clockEndReached =>
    cases h
    refine (s.forward_event fun x => ?_).steady
    split
    · exact (x.forward_modClock _).trans (State.forward_detectClock ..)
    · exact .refl x
  | endHoldSecond =>
    cases h
    refine (s.forward_event fun x => ?_).steady
    split
    · exact x.forward_detectClock _
    · exact .refl x
  | oscillatorStop =>
    cases h
    refine (s.forward_event fun x => ?_).steady
    split
    · exact .refl x
    · exact (x.forward_modClock _).trans (State.forward_detectClock ..)
  | degradedSecond =>
    cases h
    refine (s.forward_event fun x => ?_).steady
    split
    · exact x.forward_detectClock _
    · exact .refl x
  | ringInstant entry =>
    cases h
    refine (s.forward_event fun x => ?_).steady
    split
    · exact .refl x
    · split
      next hdue => exact x.forward_takeInstant _ (BellEntry.mark_lt_of_due hdue)
      next => exact .refl x
  | dayRoll => cases h; exact (s.forward_event State.forward_takeRolls).steady
  | doubtEnd => cases h; exact (Forward.refl s).steady
  | beaconTime =>
    cases h
    refine (s.forward_event fun x => ?_).steady
    split
    · exact x.forward_placeBeacon.trans ((State.forward_startBeaconTimer _).trans (State.forward_takeAgreement ..))
    · exact .refl x
  | endOfJoin =>
    cases h
    refine (s.forward_event fun x => ?_).steady
    split
    · exact x.forward_endJoin
    · exact .refl x
  | peerSilence peer =>
    cases h
    refine (s.forward_event fun x => ?_).steady
    split
    · exact x.forward_losePeer _
    · exact .refl x
  | clashTimerExpiry =>
    cases h
    refine (s.forward_event fun x => ?_).steady
    split
    · exact (x.forward_modLine _).trans (State.forward_clearLine ..)
    · exact .refl x
  | windowExpiry r =>
    cases h
    refine (s.forward_event fun x => ?_).steady
    split
    · exact x.forward_modRule ..
    · exact .refl x
  | punch f => cases h; exact (s.forward_event fun x => x.forward_takeFrame _ fun y => y.forward_takePunch f).steady
  | beacon f => cases h; exact (s.forward_event fun x => x.forward_takeFrame _ fun y => y.forward_takeBeacon f).steady
  | bellCue f => cases h; exact (s.forward_event fun x => x.forward_takeFrame _ fun y => y.forward_takeCue f).steady
  | clear f => cases h; exact (s.forward_event fun x => x.forward_takeFrame _ fun y => y.forward_takeClear f).steady
  | allClearFrame source =>
    cases h
    exact (s.forward_event fun x => x.forward_takeFrame _ fun y => y.forward_takeAllClear source).steady
  | lineError run =>
    cases h
    refine (s.forward_event fun x => ?_).steady
    split
    · exact x.forward_countLineError
    · exact .refl x
  | numberClash f =>
    cases h
    refine (s.forward_event fun x => ?_).steady
    split
    · exact x.forward_clash
    · exact .refl x
  | deferralStart =>
    cases h
    refine (s.forward_event fun x => ?_).steady
    split
    · split
      · exact .refl x
      · exact x.forward_modLine _
    · exact .refl x
  | yield => cases h; exact (s.forward_event fun x => x.forward_modLine _).steady
  | deferralEnd =>
    cases h
    refine (s.forward_event fun x => ?_).steady
    split
    · exact x.forward_modLine _
    · exact .refl x
  | sentWhole =>
    cases h
    refine (s.forward_event fun x => ?_).steady
    split
    · exact .refl x
    · exact x.forward_sentWhole _
  | collision =>
    cases h
    refine (s.forward_event fun x => ?_).steady
    split
    · exact .refl x
    · exact x.forward_collide _
  | patternPhaseEnd =>
    cases h
    refine (s.forward_event fun x => ?_).steady
    split
    · exact .refl x
    · split
      · exact .refl x
      · exact State.forward_modBell rfl rfl
  | patternComplete =>
    cases h
    refine (s.forward_event fun x => ?_).steady
    split
    · exact .refl x
    · split
      · exact x.forward_silence
      · exact .refl x
  | resetRelease => cases h; exact ((s.forward_modInputs _).trans (State.forward_endReset _)).steady

/-! ## Every step -/

theorem State.forward_setPending (s : State) (p : List Instr) : Forward s { s with pending := p } :=
  .of_frame rfl rfl rfl rfl rfl id

theorem State.forward_idle (s : State) : Forward s s.idle := by
  unfold State.idle State.idleInReset State.passSixteenth
  dsimp only
  split
  · split
    · exact s.forward_setPending _
    · exact .refl s
  · split
    · have hpassed := (s.forward_modClock fun c => { c with countedFrom := c.time }).trans (State.forward_sixteenth _)
      split
      · exact hpassed.trans (State.forward_setPending ..)
      · exact hpassed
    · exact s.forward_setPending _

/-- Every step is steady: the command at the front of the queue is, and so is idling. -/
theorem step_steady {s t : State} (h : step s = .next t) : Steady s t := by
  unfold step at h
  split at h
  · cases h; exact s.forward_idle.steady
  next c rest _ =>
    obtain ⟨hkept, hlow⟩ := exec_steady h
    exact ⟨(s.forward_setPending rest).kept.trans hkept, fun hs ht => (hlow hs ht).of_before rfl rfl rfl⟩

/-- Settles O55: each step keeps every block as the tables ask. -/
theorem tablesKept : Obligations.TablesKept := by
  intro s t hgood hstep
  exact t.tables_iff.1 ((step_steady hstep).kept.tables (s.tables_iff.2 hgood))

/-- Settles O60: outside SETUP each step raises the pay day number, the marks and the change times, or leaves them. -/
theorem neverLowered : Obligations.NeverLowered := by
  intro s t _ _ hs ht hstep
  obtain ⟨htoday, hmarks, hpresence⟩ := (step_steady hstep).notLowered hs ht
  exact ⟨htoday, hmarks, hpresence⟩

end Sys2Proof.Machine
end

section
/-! SUPPORT. The events handed to the watch unit (R141): how many an operation hands at most, and that `State.settleEvents`,
which every operation that hands some ends with, takes them all. -/

namespace Sys2Proof.Machine

section
variable (s : State)

/-- Handed to the watch unit between the two states: at most `n` events more than were waiting. -/
def Hands (n : Nat) (s t : State) : Prop := t.watch.handed.length ≤ s.watch.handed.length + n

theorem Hands.trans {s t u : State} {m n : Nat} (h : Hands m s t) (h' : Hands n t u) : Hands (m + n) s u := by
  unfold Hands at *; omega

theorem Hands.le {s t : State} {m n : Nat} (h : Hands m s t) (hmn : m ≤ n) : Hands n s t := by
  unfold Hands at *; omega

theorem Hands.of_eq {s t : State} (h : t.watch.handed = s.watch.handed) (n : Nat) : Hands n s t := by
  unfold Hands; rw [h]; omega

/-- Whatever hands nothing may come before and after. -/
theorem Hands.congr {s t s' t' : State} {n : Nat} (h : Hands n s t) (hs : s.watch.handed = s'.watch.handed)
    (ht : t'.watch.handed = t.watch.handed) : Hands n s' t' := by
  unfold Hands at *; rw [← hs, ht]; exact h

/-! ## Operations that hand nothing -/

@[simp] theorem State.recordIncident_handed (k : IncidentKind) (l : Option Lane) (b : Option Nat) (r : Option RuleNo)
    (p : Option Station) (d : Option Int) : (s.recordIncident k l b r p d).watch.handed = s.watch.handed := by
  rw [State.recordIncident_eq]; exact WatchUnit.queue_handed ..

@[simp] theorem State.modRule_handed (r : RuleNo) (f : Rule → Rule) : (s.modRule r f).watch.handed = s.watch.handed := rfl

@[simp] theorem State.openDoubt_handed (c : DoubtCause) (p : Option Station) :
    (s.openDoubt c p).watch.handed = s.watch.handed := by
  rw [State.openDoubt_eq]; exact doubtQueue_handed ..

@[simp] theorem State.detectLine_handed (c : FaultCause) : (s.detectLine c).watch.handed = s.watch.handed := by
  unfold State.detectLine; dsimp only; (repeat' split) <;> simp

@[simp] theorem State.detectClock_handed (c : FaultCause) : (s.detectClock c).watch.handed = s.watch.handed := by
  unfold State.detectClock; dsimp only; (repeat' split) <;> simp

@[simp] theorem State.markEnd_handed : s.markEnd.watch.handed = s.watch.handed := by
  unfold State.markEnd; (repeat' split) <;> simp

@[simp] theorem State.stepTo_handed (t : Int) : (s.stepTo t).watch.handed = s.watch.handed := by
  unfold State.stepTo; dsimp only; split <;> simp

@[simp] theorem State.changeEra_handed (t : Int) : (s.changeEra t).watch.handed = s.watch.handed := by
  simp [State.changeEra]

@[simp] theorem State.takeAgreement_handed (n : Nat) : (s.takeAgreement n).watch.handed = s.watch.handed := by
  unfold State.takeAgreement; dsimp only; split <;> simp

@[simp] theorem State.journalPunch_handed (l : Lane) (b : Nat) (d : Direction) (o : PunchOutcome) (t : Nat) (e : BitVec 8) :
    (s.journalPunch l b d o t e).watch.handed = s.watch.handed := by
  unfold State.journalPunch; dsimp only; (repeat' split) <;> simp

@[simp] theorem State.countTimers_handed : s.countTimers.watch.handed = s.watch.handed := by
  unfold State.countTimers; simp only [State.modWatch_watch]; split <;> rfl

@[simp] theorem State.sixteenth_handed : s.sixteenth.watch.handed = s.watch.handed := by
  unfold State.sixteenth; dsimp only; (repeat' split) <;> simp

@[simp] theorem State.sixteenthTimes_handed (n : Nat) : (s.sixteenthTimes n).watch.handed = s.watch.handed := by
  induction n generalizing s with
  | zero => rfl
  | succ n ih => exact (ih _).trans s.sixteenth_handed

@[simp] theorem State.hear_watch (p : Station) : (s.hear p).watch = s.watch := by simp [State.hear]

@[simp] theorem State.trackPunch_handed (p : Station) (n : BitVec 8) :
    (s.trackPunch p n).watch.handed = s.watch.handed := by
  unfold State.trackPunch; (repeat' split) <;> simp

@[simp] theorem State.trackBeacon_handed (p : Station) (n : BitVec 8) :
    (s.trackBeacon p n).watch.handed = s.watch.handed := by
  unfold State.trackBeacon; (repeat' split) <;> simp

@[simp] theorem State.clockBeacon_handed (f : BeaconFrame) : (s.clockBeacon f).watch.handed = s.watch.handed := by
  unfold State.clockBeacon State.adoptEra; (repeat' split) <;> simp [State.storeOffset, State.clearOffset]

@[simp] theorem State.takeBeacon_handed (f : BeaconFrame) : (s.takeBeacon f).watch.handed = s.watch.handed := by
  unfold State.takeBeacon State.takeFresh State.recordBeacon; dsimp only; split <;> simp

@[simp] theorem State.takeCue_handed (f : CueFrame) : (s.takeCue f).watch.handed = s.watch.handed := by
  unfold State.takeCue State.judgeCue; dsimp only; (repeat' split) <;> simp

@[simp] theorem State.dropFrame_handed (x : Sending) : (s.dropFrame x).watch.handed = s.watch.handed := by
  unfold State.dropFrame; dsimp only; (repeat' split) <;> simp

@[simp] theorem State.retain_handed : s.retain.watch.handed = s.watch.handed := by
  unfold State.retain; split <;> simp

@[simp] theorem State.leaveHoldover_handed : s.leaveHoldover.watch.handed = s.watch.handed := by
  simp [State.leaveHoldover, State.returnLine, State.enterJoin, State.seekContact, Lane.all, State.returnLane]

@[simp] theorem State.endHolds_handed : s.endHolds.watch.handed = s.watch.handed := by
  unfold State.endHolds; dsimp only; split <;> simp [Lane.all]

@[simp] theorem State.followLevel_watch (b : Bool) (i : Input) : (s.followLevel b i).watch = s.watch := by
  unfold State.followLevel; split <;> (try split) <;> simp

/-! ## Operations that hand events -/

theorem State.hands_hand (e : LaneEvent) : Hands 1 s (s.hand e) := by
  simp [Hands, State.hand]

theorem State.hands_dropRelease (l : Lane) : Hands 1 s (s.dropRelease l) := by
  unfold State.dropRelease
  split
  · exact .of_eq rfl 1
  · exact State.hands_hand (s.modLane l _) _

theorem State.hands_expireRelease (l : Lane) : Hands 1 s (s.expireRelease l) :=
  (s.hands_dropRelease l).trans (.of_eq (by simp [State.expireRelease]) 0)

theorem State.hands_enterFault (l : Lane) : Hands 1 s (s.enterFault l) := by
  unfold State.enterFault
  split
  · exact .of_eq rfl 1
  · exact (s.hands_dropRelease l).trans (.of_eq (by simp) 0)

theorem State.hands_laneAction (l : Lane) (k : LaneFaultKind) (a : FaultAction) : Hands 1 s (s.laneAction l k a) := by
  cases a with
  | actNote => exact .of_eq rfl 1
  | actAlarm => exact .of_eq (by simp [State.laneAction]) 1
  | actHold => exact .of_eq (by simp [State.laneAction]) 1
  | actOpen => simp only [State.laneAction]; split <;> first | exact s.hands_enterFault l | exact .of_eq rfl 1

theorem State.hands_detectLane (l : Lane) (k : LaneFaultKind) : Hands 1 s (s.detectLane l k) := by
  unfold State.detectLane
  extract_lets w r counted
  split
  · split
    · exact (counted.hands_laneAction l k w.action).congr rfl (by simp)
    · exact .of_eq rfl 1
  · exact .of_eq rfl 1

/-- A step taken by every lane in turn hands four times as many events as for one lane. -/
theorem State.hands_lanes {op : State → Lane → State} (h : ∀ s l, Hands 1 s (op s l)) : Hands 4 s (Lane.all.foldl op s) :=
  (h s .lane1).trans ((h _ .lane2).trans ((h _ .lane3).trans (h _ .lane4)))

theorem State.hands_evacuateLane (l : Lane) : Hands 1 s (s.evacuateLane l) := by
  unfold State.evacuateLane
  split
  · exact .of_eq rfl 1
  · exact (s.hands_dropRelease l).trans (.of_eq rfl 0)

theorem State.hands_enterEvacuate (r : EvacReason) : Hands 4 s (s.enterEvacuate r) := by
  unfold State.enterEvacuate
  extract_lets entered cleared lanes
  exact (cleared.hands_lanes State.hands_evacuateLane).congr (by simp [cleared, entered]) (by simp [lanes])

theorem State.hands_releaseLane (l : Lane) : Hands 1 s (s.releaseLane l) := by
  unfold State.releaseLane
  dsimp only
  split
  · exact .of_eq (by simp) 1
  · split
    · exact State.hands_enterFault (s.modLane l _) l
    · exact .of_eq (by simp) 1

theorem State.hands_leaveEvacuate (p : Option Station) : Hands 4 s (s.leaveEvacuate p) := by
  unfold State.leaveEvacuate
  extract_lets left lanes
  exact (left.hands_lanes State.hands_releaseLane).congr rfl (by simp [lanes])

theorem State.hands_ownPunch (l : Lane) (b : Nat) (d : Direction) (o : PunchOutcome) (x : Bool) :
    Hands 1 s (s.ownPunch l b d o x) :=
  Hands.trans (m := 0) (.of_eq (by simp) 0) (State.hands_hand ..)

theorem State.hands_grant (l : Lane) (b : Nat) (f : Bool) : Hands 1 s (s.grant l b f) := by
  unfold State.grant
  split
  case h_1 | h_2 | h_3 => exact (s.hands_dropRelease l).trans (.of_eq (by simp) 0)
  all_goals exact .of_eq rfl 1

theorem State.hands_actOn (l : Lane) (b : Nat) (v : Verdict) : Hands 2 s (s.actOn l b v) := by
  cases v with
  | refuse r => exact (s.hands_hand _).le (by decide)
  | evacAdmit => exact (State.hands_hand (s.evacuationRead l b) _).le (by decide)
  | admitted => exact (s.hands_grant l b _).trans (State.hands_hand ..)
  | flagged => exact (s.hands_grant l b _).trans (State.hands_hand ..)

theorem State.hands_dispatchRead (l : Lane) (b : Nat) : Hands 2 s (s.dispatchRead l b) := by
  unfold State.dispatchRead
  split
  · exact s.hands_actOn ..
  · split
    · exact .of_eq rfl 2
    · exact s.hands_actOn ..

theorem State.hands_badFrame (l : Lane) : Hands 1 s (s.badFrame l) := State.hands_detectLane (s.modLane l _) l _

theorem State.hands_takeReaderFrame (l : Lane) (cs : List ReaderChar) : Hands 2 s (s.takeReaderFrame l cs) := by
  unfold State.takeReaderFrame
  split
  · exact (s.hands_badFrame l).le (by decide)
  · exact Hands.trans (m := 0) (.of_eq (by simp) 0) (State.hands_dispatchRead ..)

theorem State.hands_passed (l : Lane) (p : PendingRelease) : Hands 1 s (s.passed l p) := by
  unfold State.passed
  extract_lets closed moved
  have hmoved : moved.watch.handed = s.watch.handed := by simp only [moved, closed]; split <;> simp
  exact (moved.hands_ownPunch l p.badge (s.sw1 l).direction .passed p.flagged).congr hmoved rfl

theorem State.hands_forced (l : Lane) : Hands 1 s (s.forced l) := by
  unfold State.forced
  extract_lets counted event
  have hevent : Hands 1 s event := (counted.hands_hand (s.laneEvent .forced l)).congr (by simp [counted]) rfl
  split
  · exact hevent.congr rfl (by simp)
  · exact hevent

theorem State.hands_passage (l : Lane) : Hands 1 s (s.passage l) := by
  unfold State.passage
  split
  · unfold State.evacPassage
    dsimp only
    split
    · exact Hands.trans (m := 0) (.of_eq (by rfl) 0) (State.hands_ownPunch ..)
    · exact .of_eq rfl 1
  · split
    · exact .of_eq rfl 1
    · exact s.hands_passed l _
    · exact s.hands_forced l
    · exact s.hands_forced l
    · exact .of_eq rfl 1

theorem State.hands_auxEdge (l : Lane) (b : Bool) : Hands 1 s (s.auxEdge l b) := by
  unfold State.auxEdge
  split
  · exact s.hands_passage l
  · refine .of_eq ?_ 1
    unfold State.doorClosing State.closeDoor
    (repeat' split) <;> simp

theorem State.hands_heldTooLong (l : Lane) : Hands 2 s (s.heldTooLong l) :=
  (s.hands_detectLane l .doorHeld).trans (State.hands_hand ..)

theorem State.hands_senseCheckEnd (l : Lane) : Hands 1 s (s.senseCheckEnd l) := by
  unfold State.senseCheckEnd
  dsimp only
  split
  · exact .of_eq (by simp) 1
  · exact State.hands_detectLane (s.modLane l _) l _

theorem State.hands_joinLane (l : Lane) : Hands 1 s (s.joinLane l) := by
  unfold State.joinLane
  split
  · exact .of_eq rfl 1
  · split
    · exact s.hands_enterFault l
    · exact .of_eq (by simp) 1

theorem State.hands_joinEvacuation (r : EvacReason) (c : Bool) : Hands 4 s (s.joinEvacuation r c) := by
  unfold State.joinEvacuation
  dsimp only
  split
  · exact (s.hands_enterEvacuate r).trans (.of_eq (by simp) 0)
  · exact s.hands_enterEvacuate r

theorem State.hands_joinState : Hands 4 s s.joinState := by
  unfold State.joinState
  extract_lets taken entered
  split
  · exact taken.hands_joinEvacuation ..
  · split
    · exact taken.hands_joinEvacuation ..
    · exact (entered.hands_lanes State.hands_joinLane).congr rfl (by simp)

theorem State.hands_stopLane (l : Lane) : Hands 1 s (s.stopLane l) := (s.hands_dropRelease l).trans (.of_eq rfl 0)

/-! ## The events taken -/

/-- The events that wait, and those that an entry into EVACUATE by a watch rule could still bring: it is made from LIVE and HELD
alone, and hands one event for each lane at most. -/
def State.toTake (s : State) : Nat := s.watch.handed.length + (if s.station = .live ∨ s.station = .held then 4 else 0)

theorem State.toTake_congr {s t : State} (hh : t.watch.handed = s.watch.handed)
    (hs : t.control.station = s.control.station) : t.toTake = s.toTake := by
  simp only [State.toTake, State.station, hh, hs]

theorem State.takeContext_station (r : HoldReason) (l : Option Lane) :
    (s.takeContext r l).control.station = s.control.station := by
  unfold State.takeContext; split <;> rfl

theorem State.reachHold_control (l : Lane) : (s.reachHold l).control = s.control := by simp

@[simp] theorem State.addLaneReason_station (l : Lane) (r : HoldReason) :
    (s.addLaneReason l r).control.station = s.control.station := by
  unfold State.addLaneReason
  split
  · rfl
  · simp [State.takeContext_station]

/-- A station reason takes LIVE to HELD, and no other state. -/
theorem State.addStationReason_station (r : HoldReason) :
    (s.addStationReason r).control.station = s.control.station ∨
      s.control.station = .live ∧ (s.addStationReason r).control.station = .held := by
  unfold State.addStationReason
  dsimp only
  split
  · exact .inl rfl
  · split
    next hlive => exact .inr ⟨hlive, by simp [Lane.all]⟩
    next => exact .inl (by simp [State.takeContext_station])

theorem State.toTake_addStationReason (r : HoldReason) : (s.addStationReason r).toTake = s.toTake := by
  rcases s.addStationReason_station r with h | ⟨hlive, hheld⟩
  · exact State.toTake_congr (by simp) h
  · simp [State.toTake, State.station, hlive, hheld]

theorem State.enterEvacuate_station (r : EvacReason) : (s.enterEvacuate r).control.station = .evacuate := by
  simp [State.enterEvacuate, Lane.all]

theorem State.toTake_watchEvacuate : s.watchEvacuate.toTake ≤ s.toTake := by
  have hentered (h : s.station = .live ∨ s.station = .held) :
      ((s.enterEvacuate .watch).placeEvac (.clear .watch)).toTake ≤ s.toTake := by
    have hhands := s.hands_enterEvacuate .watch
    simp only [Hands] at hhands
    simp only [State.toTake, if_pos h, State.station, State.placeEvac_frame, State.enterEvacuate_station]
    simpa using hhands
  unfold State.watchEvacuate
  split
  next h => exact hentered (.inl h)
  next h => exact hentered (.inr h)
  next h => exact (State.toTake_congr rfl rfl).le
  next => exact le_refl _

theorem State.toTake_watchAction (r : RuleNo) (e : LaneEvent) (a : WatchAction) : (s.watchAction r e a).toTake ≤ s.toTake := by
  cases a with
  | note => exact le_refl _
  | alarm => exact (State.toTake_congr (by simp [State.watchAction]) (by simp [State.watchAction])).le
  | holdLane =>
    simp only [State.watchAction, State.watchHoldLane]
    split
    · exact (State.toTake_congr (by simp) (by simp)).le
    · exact (s.toTake_addStationReason _).le
  | holdStation => exact (s.toTake_addStationReason _).le
  | evacuate => exact s.toTake_watchEvacuate

theorem State.toTake_occurrence (r : RuleNo) (e : LaneEvent) : (s.occurrence r e).toTake ≤ s.toTake := by
  unfold State.occurrence
  split
  · exact (State.toTake_congr rfl (by simp)).le
  · refine le_trans (State.toTake_congr ?_ ?_).le (s.toTake_watchAction r e (s.watch.rules.get r).action)
    · simp [State.trip]
    · simp [State.trip]

theorem State.toTake_matchSequence (r : RuleNo) (e : LaneEvent) (a b : Bool) : (s.matchSequence r e a b).toTake ≤ s.toTake := by
  unfold State.matchSequence
  extract_lets x closes
  split
  · exact (State.toTake_occurrence ..).trans (State.toTake_congr (by simp) (by simp)).le
  · split
    · exact (State.toTake_congr rfl (by simp)).le
    · exact le_refl _

theorem State.toTake_matchRule (r : RuleNo) (e : LaneEvent) : (s.matchRule r e).toTake ≤ s.toTake := by
  unfold State.matchRule
  dsimp only
  split
  · split
    · split
      · exact s.toTake_occurrence r e
      · exact le_refl _
    · split
      · exact s.toTake_occurrence r e
      · exact le_refl _
    · exact s.toTake_matchSequence ..
    · exact s.toTake_matchSequence ..
  · exact le_refl _

theorem State.toTake_takeEvent (e : LaneEvent) : (s.takeEvent e).toTake ≤ s.toTake := by
  unfold State.takeEvent
  extract_lets traced
  have htraced : traced.toTake = s.toTake := by
    simp only [traced]
    split <;> rfl
  split
  · simp only [RuleNo.all, List.foldl]
    exact (State.toTake_matchRule ..).trans ((State.toTake_matchRule ..).trans ((State.toTake_matchRule ..).trans
      ((State.toTake_matchRule ..).trans htraced.le)))
  · exact htraced.le

/-- Each event taken leaves one fewer to take. -/
theorem State.takeEvents_handed {n : Nat} (h : s.toTake ≤ n) : (s.takeEvents n).watch.handed = [] := by
  induction n generalizing s with
  | zero =>
    have : s.watch.handed.length = 0 := by unfold State.toTake at h; omega
    exact List.eq_nil_of_length_eq_zero this
  | succ n ih =>
    unfold State.takeEvents
    split
    next hnone => exact hnone
    next e rest hcons =>
      have hpopped : (s.modWatch fun w => { w with handed := rest }).toTake + 1 = s.toTake := by
        unfold State.toTake
        rw [hcons]
        exact Nat.add_right_comm ..
      exact ih _ ((State.toTake_takeEvent ..).trans (by omega))

/-- Every event is taken when at most 28 wait. -/
theorem State.settleEvents_handed {s t : State} {n : Nat} (hs : s.watch.handed = []) (h : Hands n s t) (hn : n ≤ 28) :
    t.settleEvents.watch.handed = [] := by
  refine State.takeEvents_handed _ ?_
  simp only [Hands, hs, List.length_nil, Nat.zero_add] at h
  unfold State.toTake
  split <;> omega

end

end Sys2Proof.Machine
end

section
/-! SUPPORT. What an operation keeps of the strikes (R24) and of the pending releases (R29, R32, R36, R41, R44): one relation
`Sound`, and for each operation that reaches a lane the lemma that it is sound. -/

namespace Sys2Proof.Machine

/-! ## A lane with no release running -/

/-- A lane that has no pending release, and is not in RELEASED. -/
def LaneUnit.Unreleased (u : LaneUnit) : Prop := u.release = none ∧ u.state ≠ .released

/-- What `ReleasesPlaced` asks of one lane in a station state. -/
def LaneUnit.Placed (x : StationState) (u : LaneUnit) : Prop :=
  (u.release.isSome = true → u.kind ≠ .off ∧ (x = .live ∨ x = .held) ∧ (u.state = .released ∨ u.state = .opened)) ∧
    (u.state = .released → u.release.isSome = true ∧ u.releaseTimer.isSome = true)

theorem releasesPlaced_iff (s : State) : ReleasesPlaced s ↔ ∀ l, (s.lane l).Placed s.station := Iff.rfl

theorem LaneUnit.Unreleased.placed {u : LaneUnit} (h : u.Unreleased) (x : StationState) : u.Placed x :=
  ⟨fun hr => by simp [h.1] at hr, fun hs => absurd hs h.2⟩

theorem LaneUnit.Placed.congr {u v : LaneUnit} {x : StationState} (h : u.Placed x) (hk : v.kind = u.kind)
    (hs : v.state = u.state) (hr : v.release = u.release) (ht : v.releaseTimer.isSome = u.releaseTimer.isSome) : v.Placed x := by
  unfold LaneUnit.Placed at *; rw [hk, hs, hr, ht]; exact h

/-- Outside LIVE and HELD no release stands. -/
theorem LaneUnit.Placed.unreleased {u : LaneUnit} {x : StationState} (h : u.Placed x) (hx : x ≠ .live ∧ x ≠ .held) :
    u.Unreleased := by
  have hnone : u.release.isSome = false := by
    by_contra hr
    obtain ⟨-, hlive, -⟩ := h.1 (Bool.eq_true_of_not_eq_false hr)
    simp [hx] at hlive
  exact ⟨by simpa using hnone, fun hs => by simp [(h.2 hs).1] at hnone⟩

/-- Nor on a lane that is in neither RELEASED nor OPEN. -/
theorem LaneUnit.Placed.unreleased_of_state {u : LaneUnit} {x : StationState} (h : u.Placed x) (hr : u.state ≠ .released)
    (ho : u.state ≠ .opened) : u.Unreleased := by
  refine ⟨?_, hr⟩
  by_contra hsome
  obtain ⟨-, -, hstate⟩ := h.1 (Option.isSome_iff_ne_none.2 hsome)
  simp [hr, ho] at hstate

/-- Nor on a lane that is not fitted. -/
theorem LaneUnit.Placed.unreleased_of_off {u : LaneUnit} {x : StationState} (h : u.Placed x) (hk : u.kind = .off) :
    u.Unreleased := by
  have hnone : u.release.isSome = false := by
    by_contra hr
    exact (h.1 (Bool.eq_true_of_not_eq_false hr)).1 hk
  exact ⟨by simpa using hnone, fun hs => by simp [(h.2 hs).1] at hnone⟩

/-- A lane whose release is dropped, and which is put in a state without one. -/
theorem LaneUnit.unreleased_of {u : LaneUnit} (hr : u.release = none) (hs : u.state ≠ .released) : u.Unreleased := ⟨hr, hs⟩

section
variable (s : State)

theorem State.restState_ne_released (l : Lane) : s.restState l ≠ .released := by
  unfold State.restState; split <;> simp

theorem State.restState_ne_opened (l : Lane) : s.restState l ≠ .opened := by
  unfold State.restState; split <;> simp

/-! ## An operation that reaches one lane -/

/-- The station state and the lane settings stand, and so does every lane but one. -/
structure Beside (l : Lane) (s t : State) : Prop where
  station : t.control.station = s.control.station
  sw1 : t.control.sw1 = s.control.sw1
  others : ∀ k, k ≠ l → t.lane k = s.lane k

theorem Beside.refl (l : Lane) : Beside l s s := ⟨rfl, rfl, fun _ _ => rfl⟩

theorem Beside.trans {l : Lane} {s t u : State} (h : Beside l s t) (h' : Beside l t u) : Beside l s u :=
  ⟨h'.station.trans h.station, h'.sw1.trans h.sw1, fun k hk => (h'.others k hk).trans (h.others k hk)⟩

theorem Beside.of_frame {s t : State} (l : Lane) (hl : t.lanes = s.lanes) (hst : t.control.station = s.control.station)
    (hsw : t.control.sw1 = s.control.sw1) : Beside l s t :=
  ⟨hst, hsw, fun k _ => by rw [State.lane_eq, State.lane_eq, hl]⟩

theorem State.beside_modLane (l : Lane) (f : LaneUnit → LaneUnit) : Beside l s (s.modLane l f) :=
  ⟨rfl, rfl, fun _ hk => s.modLane_lane_ne hk f⟩

theorem State.beside_refreshDrive (l : Lane) : Beside l s (s.refreshDrive l) := by
  unfold State.refreshDrive
  split
  · exact .refl s l
  · exact s.beside_modLane ..

theorem State.beside_dropRelease (l : Lane) : Beside l s (s.dropRelease l) := by
  unfold State.dropRelease
  split
  · exact .refl s l
  · refine Beside.trans (s.beside_modLane l fun u => { u with release := none, releaseTimer := none }) ?_
    exact .of_frame l rfl rfl rfl

theorem Beside.driveOf {l : Lane} {s t : State} (h : Beside l s t) {k : Lane} (hk : k ≠ l) : t.driveOf k = s.driveOf k := by
  unfold State.driveOf State.station State.sw1
  rw [h.station, h.sw1, h.others k hk]

/-! ## Lanes driven -/

@[simp] theorem State.refreshDrive_lane_view (l : Lane) :
    ((s.refreshDrive l).lane l).kind = (s.lane l).kind ∧ ((s.refreshDrive l).lane l).state = (s.lane l).state ∧
    ((s.refreshDrive l).lane l).release = (s.lane l).release ∧
    ((s.refreshDrive l).lane l).releaseTimer = (s.lane l).releaseTimer ∧
    ((s.refreshDrive l).lane l).openDrive = (s.lane l).openDrive := by
  unfold State.refreshDrive; split <;> simp

/-- A strike driven anew follows R24. -/
theorem State.refreshDrive_follows (l : Lane) : ((s.refreshDrive l).lane l).drive = (s.refreshDrive l).driveOf l := by
  have hview := s.refreshDrive_lane_view l
  have hdrive : (s.refreshDrive l).driveOf l = s.driveOf l := by
    unfold State.driveOf State.station State.sw1
    rw [hview.2.1, hview.2.2.2.2, (s.beside_refreshDrive l).station, (s.beside_refreshDrive l).sw1]
  rw [hdrive]
  unfold State.refreshDrive
  split
  next h => exact h.symm
  next => simp

theorem State.refreshDrive_placed {l : Lane} {x : StationState} (h : (s.lane l).Placed x) (k : Lane) :
    ((s.lane k).Placed x) → ((s.refreshDrive l).lane k).Placed x := by
  intro hk
  by_cases hl : k = l
  · obtain ⟨hkind, hstate, hrelease, htimer, -⟩ := s.refreshDrive_lane_view l
    rw [hl]
    exact h.congr hkind hstate hrelease (by rw [htimer])
  · rw [(s.beside_refreshDrive l).others k hl]; exact hk

/-! ## Sound operations -/

/-- What an operation keeps: strikes driven as R24 gives, and releases where they may stand. -/
structure Sound (s t : State) : Prop where
  drives : DrivesFollow s → DrivesFollow t
  releases : ReleasesPlaced s → ReleasesPlaced t

theorem Sound.refl : Sound s s := ⟨id, id⟩

theorem Sound.trans {s t u : State} (h : Sound s t) (h' : Sound t u) : Sound s u :=
  ⟨h'.drives ∘ h.drives, h'.releases ∘ h.releases⟩

/-- An operation that leaves each lane's view and the station state is sound. -/
theorem Sound.of_view {s t : State} (hst : t.control.station = s.control.station)
    (hsw : s.control.station = .holdover → t.control.sw1 = s.control.sw1)
    (hview : ∀ l, (t.lane l).kind = (s.lane l).kind ∧ (t.lane l).state = (s.lane l).state ∧
      (t.lane l).drive = (s.lane l).drive ∧ (t.lane l).openDrive = (s.lane l).openDrive ∧
      (t.lane l).release = (s.lane l).release ∧ (t.lane l).releaseTimer.isSome = (s.lane l).releaseTimer.isSome) : Sound s t := by
  refine ⟨fun h l => ?_, fun h l => ?_⟩
  · obtain ⟨-, hstate, hdrive, hopen, -, -⟩ := hview l
    rw [hdrive, h l]
    unfold State.driveOf State.station State.sw1
    rw [hst, hstate, hopen]
    cases hx : s.control.station with
    | holdover => rw [hsw hx]
    | _ => rfl
  · obtain ⟨hkind, hstate, -, -, hrelease, htimer⟩ := hview l
    have hl : (s.lane l).Placed s.control.station := h l
    have := hl.congr hkind hstate hrelease htimer
    rw [← hst] at this
    exact this

theorem Sound.of_frame {s t : State} (hl : t.lanes = s.lanes) (hst : t.control.station = s.control.station)
    (hsw : s.control.station = .holdover → t.control.sw1 = s.control.sw1) : Sound s t :=
  .of_view hst hsw fun l => by simp [State.lane_eq, hl]

theorem Sound.of_control {s t : State} (hl : t.lanes = s.lanes) (hc : t.control = s.control) : Sound s t :=
  .of_frame hl (by rw [hc]) fun _ => by rw [hc]

/-- An operation beside one lane, whose strike and releases are as they should be after it. -/
theorem Beside.sound {l : Lane} {s t : State} (h : Beside l s t)
    (hdrive : DrivesFollow s → (t.lane l).drive = t.driveOf l)
    (hplaced : ReleasesPlaced s → (t.lane l).Placed s.station) : Sound s t := by
  refine ⟨fun hs k => ?_, fun hs k => ?_⟩
  · by_cases hk : k = l
    · rw [hk]; exact hdrive hs
    · rw [h.others k hk, h.driveOf hk]; exact hs k
  · have : (t.lane k).Placed s.station := by
      by_cases hk : k = l
      · rw [hk]; exact hplaced hs
      · rw [h.others k hk]; exact hs k
    rw [show s.station = t.station from h.station.symm] at this
    exact this

/-- A lane changed and its strike driven anew. -/
theorem Beside.sound_refresh {l : Lane} {s t : State} (h : Beside l s t)
    (hplaced : ReleasesPlaced s → (t.lane l).Placed s.station) : Sound s (t.refreshDrive l) :=
  (h.trans (t.beside_refreshDrive l)).sound (fun _ => t.refreshDrive_follows l)
    fun hs => t.refreshDrive_placed (hplaced hs) l (hplaced hs)

/-- A lane changed in what neither the strikes nor the releases depend on. -/
theorem State.sound_modLane (l : Lane) (f : LaneUnit → LaneUnit)
    (h : (f (s.lane l)).kind = (s.lane l).kind ∧ (f (s.lane l)).state = (s.lane l).state ∧
      (f (s.lane l)).drive = (s.lane l).drive ∧ (f (s.lane l)).openDrive = (s.lane l).openDrive ∧
      (f (s.lane l)).release = (s.lane l).release ∧
      (f (s.lane l)).releaseTimer.isSome = (s.lane l).releaseTimer.isSome) : Sound s (s.modLane l f) := by
  refine .of_view rfl (fun _ => rfl) fun k => ?_
  by_cases hk : k = l
  · rw [hk, State.modLane_lane_same]; exact h
  · rw [s.modLane_lane_ne hk]; simp

theorem Sound.foldl {op : State → Lane → State} (h : ∀ s l, Sound s (op s l)) : Sound s (Lane.all.foldl op s) :=
  (h s .lane1).trans ((h _ .lane2).trans ((h _ .lane3).trans (h _ .lane4)))

/-! ## Every strike driven anew -/

theorem State.refreshDrives_follow : DrivesFollow s.refreshDrives := by
  have step (l : Lane) (x : State) : ((x.refreshDrive l).lane l).drive = (x.refreshDrive l).driveOf l := x.refreshDrive_follows l
  have keep (k l : Lane) (x : State) (hk : k ≠ l) (h : (x.lane k).drive = x.driveOf k) :
      ((x.refreshDrive l).lane k).drive = (x.refreshDrive l).driveOf k := by
    rw [(x.beside_refreshDrive l).others k hk, (x.beside_refreshDrive l).driveOf hk]; exact h
  intro l
  simp only [State.refreshDrives, Lane.all, List.foldl]
  cases l with
  | lane1 => exact keep _ _ _ (by decide) (keep _ _ _ (by decide) (keep _ _ _ (by decide) (step _ _)))
  | lane2 => exact keep _ _ _ (by decide) (keep _ _ _ (by decide) (step _ _))
  | lane3 => exact keep _ _ _ (by decide) (step _ _)
  | lane4 => exact step _ _

theorem State.refreshDrives_placed (h : ReleasesPlaced s) : ReleasesPlaced s.refreshDrives :=
  (Sound.foldl s fun x l => (Beside.refl x l).sound_refresh fun hx => hx l).releases h

/-- An operation that ends with every strike driven anew. -/
theorem Sound.of_refreshDrives {s t : State} (h : ReleasesPlaced s → ReleasesPlaced t) : Sound s t.refreshDrives :=
  ⟨fun _ => t.refreshDrives_follow, fun hs => t.refreshDrives_placed (h hs)⟩

/-- What an operation that reaches one lane at a time makes of each lane. -/
theorem State.foldl_each {P Q : LaneUnit → Prop} {op : State → Lane → State} (hbeside : ∀ s l, Beside l s (op s l))
    (hself : ∀ s l, P (s.lane l) → Q ((op s l).lane l)) (h : ∀ l, P (s.lane l)) (l : Lane) :
    Q ((Lane.all.foldl op s).lane l) := by
  have keep {k j : Lane} {x : State} {R : LaneUnit → Prop} (hk : k ≠ j) (hx : R (x.lane k)) : R ((op x j).lane k) := by
    rw [(hbeside x j).others k hk]; exact hx
  simp only [Lane.all, List.foldl]
  cases l with
  | lane1 => exact keep (by decide) (keep (by decide) (keep (by decide) (hself _ _ (h _))))
  | lane2 => exact keep (by decide) (keep (by decide) (hself _ _ (keep (by decide) (h _))))
  | lane3 => exact keep (by decide) (hself _ _ (keep (by decide) (keep (by decide) (h _))))
  | lane4 => exact hself _ _ (keep (by decide) (keep (by decide) (keep (by decide) (h _))))

theorem releasesPlaced_of_unreleased {t : State} (h : ∀ l, (t.lane l).Unreleased) : ReleasesPlaced t :=
  fun l => (h l).placed _

theorem ReleasesPlaced.unreleased {t : State} (h : ReleasesPlaced t) (hx : t.station ≠ .live ∧ t.station ≠ .held) (l : Lane) :
    (t.lane l).Unreleased := LaneUnit.Placed.unreleased (h l) hx

/-! ## Releases, doors, rest and FAULT -/

@[simp] theorem State.dropRelease_lane_view (l : Lane) :
    ((s.dropRelease l).lane l).kind = (s.lane l).kind ∧ ((s.dropRelease l).lane l).state = (s.lane l).state ∧
    ((s.dropRelease l).lane l).drive = (s.lane l).drive ∧ ((s.dropRelease l).lane l).openDrive = (s.lane l).openDrive ∧
    ((s.dropRelease l).lane l).release = none := by
  unfold State.dropRelease
  split
  next h => simp [h]
  next => simp [State.hand, State.lane_eq]

theorem State.beside_dropRelease_mod (l : Lane) (f : LaneUnit → LaneUnit) : Beside l s ((s.dropRelease l).modLane l f) :=
  (s.beside_dropRelease l).trans (State.beside_modLane ..)

theorem State.sound_expireRelease (l : Lane) : Sound s (s.expireRelease l) := by
  refine (s.beside_dropRelease_mod l _).sound_refresh fun _ => LaneUnit.Unreleased.placed ⟨?_, ?_⟩ _
  · simp
  · simpa using s.restState_ne_released l

theorem State.sound_openDoor (l : Lane) (d : Bool) : Sound s (s.openDoor l d) := by
  refine (s.beside_modLane l _).sound_refresh fun hs => ?_
  rw [State.modLane_lane_same]
  refine ⟨fun hr => ?_, fun hstate => by simp at hstate⟩
  obtain ⟨hkind, hlive, -⟩ := (hs l).1 hr
  exact ⟨hkind, hlive, .inr rfl⟩

theorem State.sound_settleLane (l : Lane) (h : ReleasesPlaced s → (s.lane l).release = none) : Sound s (s.settleLane l) := by
  unfold State.settleLane
  split
  · exact s.sound_openDoor l false
  · refine (s.beside_modLane l _).sound_refresh fun hs => LaneUnit.Unreleased.placed ⟨?_, ?_⟩ _
    · simpa using h hs
    · simpa using s.restState_ne_released l

theorem State.sound_enterFault (l : Lane) : Sound s (s.enterFault l) := by
  unfold State.enterFault
  split
  · exact .refl s
  · exact (s.beside_dropRelease_mod l _).sound_refresh fun _ => LaneUnit.Unreleased.placed ⟨by simp, by simp⟩ _

theorem State.sound_leaveFault (l : Lane) : Sound s (s.leaveFault l) := by
  unfold State.leaveFault
  split
  next h =>
    exact s.sound_settleLane l fun hs =>
      (LaneUnit.Placed.unreleased_of_state (hs l) (by simp [h.1]) (by simp [h.1])).1
  next => exact .refl s

theorem State.sound_clearLane (l : Lane) (k : LaneFaultKind) : Sound s (s.clearLane l k) := by
  unfold State.clearLane
  split
  · exact Sound.trans (t := s.modFaults _) (.of_control rfl rfl) (State.sound_leaveFault ..)
  · exact .refl s

/-! ## Holds -/

theorem State.sound_reachHold (l : Lane) : Sound s (s.reachHold l) := by
  have hheld (h : (s.lane l).state = .idle ∧ s.laneHeld l = true) :
      Sound s (s.modLane l fun u => { u with state := .held }) := by
    refine (s.beside_modLane l _).sound (fun hs => ?_) fun hs => ?_
    · have hbefore := hs l
      unfold State.driveOf at hbefore ⊢
      rw [h.1] at hbefore
      rw [State.modLane_lane_same]
      exact hbefore
    · have := LaneUnit.Placed.unreleased_of_state (hs l) (by simp [h.1]) (by simp [h.1])
      exact LaneUnit.Unreleased.placed ⟨by simpa using this.1, by simp⟩ _
  unfold State.reachHold
  split
  case h_4 => exact .refl s
  all_goals
    split
    next h => exact hheld h
    next => exact .refl s

theorem State.sound_endHold (l : Lane) : Sound s (s.endHold l) := by
  unfold State.endHold
  split
  next h =>
    exact s.sound_settleLane l fun hs =>
      (LaneUnit.Placed.unreleased_of_state (hs l) (by simp [h.1]) (by simp [h.1])).1
  next => exact .refl s

theorem State.takeContext_sw1 (r : HoldReason) (l : Option Lane) : (s.takeContext r l).control.sw1 = s.control.sw1 := by
  unfold State.takeContext; split <;> rfl

theorem State.sound_takeContext (r : HoldReason) (l : Option Lane) : Sound s (s.takeContext r l) :=
  .of_frame (by simp) (s.takeContext_station r l) fun _ => s.takeContext_sw1 r l

theorem State.sound_addLaneReason (l : Lane) (r : HoldReason) : Sound s (s.addLaneReason l r) := by
  unfold State.addLaneReason
  split
  · exact .refl s
  · exact (s.sound_takeContext r (some l)).trans
      (Sound.trans (t := (s.takeContext r (some l)).modControl _) (.of_frame rfl rfl fun _ => rfl) (State.sound_reachHold ..))

/-- LIVE and HELD drive the strikes alike, and releases stand in both. -/
theorem State.sound_enterHeld (h : s.station = .live) : Sound s (s.modControl fun c => { c with station := .held }) := by
  refine ⟨fun hs l => ?_, fun hs l => ?_⟩
  · have hl := hs l
    unfold State.driveOf at hl
    rw [h] at hl
    exact hl
  · have hl : (s.lane l).Placed s.station := hs l
    refine ⟨fun hr => ?_, hl.2⟩
    obtain ⟨hkind, -, hstate⟩ := hl.1 hr
    exact ⟨hkind, .inr rfl, hstate⟩

theorem State.sound_addStationReason (r : HoldReason) : Sound s (s.addStationReason r) := by
  unfold State.addStationReason
  extract_lets added
  have hadded : Sound s added := (s.sound_takeContext r none).trans (.of_frame rfl rfl fun _ => rfl)
  split
  · exact .refl s
  · split
    next h =>
      exact hadded.trans ((added.sound_enterHeld ((s.takeContext_station r none).trans h)).trans
        (Sound.foldl _ State.sound_reachHold))
    next => exact hadded

/-- HELD and LIVE drive the strikes alike, and releases stand in both. -/
theorem State.sound_endHolds : Sound s s.endHolds := by
  unfold State.endHolds
  extract_lets cleared
  have hlanes : cleared.lanes = s.lanes := by simp [cleared]
  have hcleared : Sound s cleared := by
    have hlane (l : Lane) : cleared.lane l = s.lane l := by rw [State.lane_eq, hlanes, State.lane_eq]
    have hsw (l : Lane) : cleared.sw1 l = s.sw1 l := by simp [cleared, State.sw1]
    have hstation : cleared.station = if s.station = .held then .live else s.station := by
      simp [cleared, State.station]
    refine ⟨fun hs l => ?_, fun hs l => ?_⟩
    · have hl := hs l
      unfold State.driveOf at hl ⊢
      rw [hlane, hsw, hstation, hl]
      cases s.station <;> rfl
    · have hl : (s.lane l).Placed s.station := hs l
      rw [hlane, hstation]
      refine ⟨fun hr => ?_, hl.2⟩
      obtain ⟨hkind, hlive, hstate⟩ := hl.1 hr
      refine ⟨hkind, ?_, hstate⟩
      rcases hlive with hlive | hlive <;> simp [hlive]
  split
  case h_4 => exact hcleared
  all_goals exact hcleared.trans (Sound.foldl _ State.sound_endHold)

/-! ## Fault actions -/

theorem State.sound_laneAction (l : Lane) (k : LaneFaultKind) (a : FaultAction) : Sound s (s.laneAction l k a) := by
  cases a with
  | actNote => exact .refl s
  | actAlarm => exact .of_control (by simp [State.laneAction]) (by simp [State.laneAction])
  | actHold => exact s.sound_addLaneReason ..
  | actOpen =>
    unfold State.laneAction
    dsimp only
    split
    case h_4 => exact .refl s
    all_goals exact s.sound_enterFault l

theorem State.sound_stationAction (k : FaultKind) (a : FaultAction) : Sound s (s.stationAction k a) := by
  cases a with
  | actNote => exact .refl s
  | actAlarm => exact .of_control (by simp [State.stationAction]) (by simp [State.stationAction])
  | actHold | actOpen => exact s.sound_addStationReason _

theorem State.sound_recordIncident (k : IncidentKind) (l : Option Lane) (b : Option Nat) (r : Option RuleNo)
    (p : Option Station) (d : Option Int) : Sound s (s.recordIncident k l b r p d) := .of_control (by simp) (by simp)

theorem State.sound_detectLane (l : Lane) (k : LaneFaultKind) : Sound s (s.detectLane l k) := by
  unfold State.detectLane
  extract_lets w r counted
  have hcounted : Sound s counted := .of_control rfl rfl
  split
  · split
    · exact hcounted.trans ((counted.sound_laneAction ..).trans (State.sound_recordIncident ..))
    · exact hcounted
  · exact .refl s

theorem State.sound_detectLine (c : FaultCause) : Sound s (s.detectLine c) := by
  unfold State.detectLine
  extract_lets w r counted
  have hcounted : Sound s counted := .of_control rfl rfl
  split
  · split
    · exact hcounted.trans ((counted.sound_stationAction ..).trans (State.sound_recordIncident ..))
    · exact hcounted
  · exact .refl s

theorem State.sound_detectClock (c : FaultCause) : Sound s (s.detectClock c) := by
  unfold State.detectClock
  extract_lets w r counted
  have hcounted : Sound s counted := .of_control rfl rfl
  split
  · split
    · exact hcounted.trans ((counted.sound_stationAction ..).trans (State.sound_recordIncident ..))
    · exact hcounted
  · exact .refl s

/-! ## Evacuation -/

theorem State.beside_openDoor (l : Lane) (d : Bool) : Beside l s (s.openDoor l d) :=
  (s.beside_modLane l _).trans (State.beside_refreshDrive ..)

theorem State.beside_settleLane (l : Lane) : Beside l s (s.settleLane l) := by
  unfold State.settleLane
  split
  · exact s.beside_openDoor l false
  · exact (s.beside_modLane l _).trans (State.beside_refreshDrive ..)

theorem State.beside_enterFault (l : Lane) : Beside l s (s.enterFault l) := by
  unfold State.enterFault
  split
  · exact .refl s l
  · exact (s.beside_dropRelease_mod l _).trans (State.beside_refreshDrive ..)

theorem State.beside_evacuateLane (l : Lane) : Beside l s (s.evacuateLane l) := by
  unfold State.evacuateLane
  split
  · exact .refl s l
  · exact s.beside_dropRelease_mod ..

/-- A lane taken into EVACUATE has no release, whatever it had. -/
theorem State.evacuateLane_unreleased (l : Lane) (h : (s.lane l).kind = .off → (s.lane l).Unreleased) :
    ((s.evacuateLane l).lane l).Unreleased := by
  unfold State.evacuateLane
  split
  next hoff => exact h hoff
  next =>
    refine ⟨by simp, ?_⟩
    rw [State.modLane_lane_same]
    dsimp only
    split <;> simp

theorem State.sound_enterEvacuate (r : EvacReason) : Sound s (s.enterEvacuate r) := by
  unfold State.enterEvacuate
  extract_lets entered cleared lanes
  have hlanes : Sound s lanes := .of_refreshDrives fun hs =>
    releasesPlaced_of_unreleased (cleared.foldl_each (P := fun u => u.kind = .off → u.Unreleased)
      State.beside_evacuateLane State.evacuateLane_unreleased fun l => by
        rw [State.lane_eq, show cleared.lanes = s.lanes by simp [cleared, entered]]
        exact LaneUnit.Placed.unreleased_of_off (hs l))
  exact hlanes.trans (.of_control (by simp) (by simp))

theorem State.sound_placeEvac (f : EvacFrame) : Sound s (s.placeEvac f) := .of_control (by simp) (by simp)

theorem State.beside_releaseLane (l : Lane) : Beside l s (s.releaseLane l) := by
  unfold State.releaseLane
  extract_lets emptied
  have hemptied : Beside l s emptied := s.beside_modLane ..
  split
  · exact hemptied.trans (State.beside_refreshDrive ..)
  · split
    · exact hemptied.trans (State.beside_enterFault ..)
    · exact hemptied.trans (State.beside_settleLane ..)

theorem State.refreshDrive_unreleased {l : Lane} (h : (s.lane l).Unreleased) : ((s.refreshDrive l).lane l).Unreleased := by
  obtain ⟨-, hstate, hrelease, -, -⟩ := s.refreshDrive_lane_view l
  exact ⟨hrelease.trans h.1, by rw [hstate]; exact h.2⟩

theorem State.enterFault_unreleased {l : Lane} (h : (s.lane l).Unreleased) : ((s.enterFault l).lane l).Unreleased := by
  unfold State.enterFault
  split
  · exact h
  · exact State.refreshDrive_unreleased _ ⟨by simp, by simp⟩

theorem State.settleLane_unreleased {l : Lane} (h : (s.lane l).Unreleased) : ((s.settleLane l).lane l).Unreleased := by
  unfold State.settleLane
  split
  · exact State.refreshDrive_unreleased _ ⟨by simpa using h.1, by simp⟩
  · exact State.refreshDrive_unreleased _ ⟨by simpa using h.1, by simpa using s.restState_ne_released l⟩

theorem State.releaseLane_unreleased (l : Lane) (h : (s.lane l).Unreleased) : ((s.releaseLane l).lane l).Unreleased := by
  unfold State.releaseLane
  extract_lets emptied
  have hemptied : (emptied.lane l).Unreleased := ⟨by simpa [emptied] using h.1, by simpa [emptied] using h.2⟩
  split
  · exact emptied.refreshDrive_unreleased hemptied
  · split
    · exact emptied.enterFault_unreleased hemptied
    · exact emptied.settleLane_unreleased hemptied

theorem State.sound_leaveEvacuate (p : Option Station) (h : s.station = .evacuate) : Sound s (s.leaveEvacuate p) := by
  unfold State.leaveEvacuate
  extract_lets left lanes
  have hlanes : Sound s lanes := .of_refreshDrives fun hs =>
    releasesPlaced_of_unreleased (left.foldl_each State.beside_releaseLane State.releaseLane_unreleased
      (hs.unreleased (by simp [h])))
  exact hlanes.trans (.of_control (by simp) (by simp))

/-! ## The watch unit -/

theorem State.sound_watchEvacuate : Sound s s.watchEvacuate := by
  unfold State.watchEvacuate
  split
  case h_1 | h_2 => exact (s.sound_enterEvacuate _).trans (State.sound_placeEvac ..)
  case h_3 => exact .of_frame rfl rfl fun _ => rfl
  case h_4 => exact .refl s

theorem State.sound_watchAction (r : RuleNo) (e : LaneEvent) (a : WatchAction) : Sound s (s.watchAction r e a) := by
  cases a with
  | note => exact .refl s
  | alarm => exact .of_control (by simp [State.watchAction]) (by simp [State.watchAction])
  | holdLane =>
    unfold State.watchAction State.watchHoldLane
    dsimp only
    split
    · exact s.sound_addLaneReason ..
    · exact s.sound_addStationReason ..
  | holdStation => exact s.sound_addStationReason ..
  | evacuate => exact s.sound_watchEvacuate

theorem State.sound_modRule (r : RuleNo) (f : Rule → Rule) : Sound s (s.modRule r f) := .of_control rfl rfl

theorem State.sound_occurrence (r : RuleNo) (e : LaneEvent) : Sound s (s.occurrence r e) := by
  unfold State.occurrence
  split
  · exact s.sound_modRule ..
  · unfold State.trip
    exact (s.sound_watchAction ..).trans ((State.sound_recordIncident ..).trans (State.sound_modRule ..))

theorem State.sound_matchSequence (r : RuleNo) (e : LaneEvent) (a b : Bool) : Sound s (s.matchSequence r e a b) := by
  unfold State.matchSequence
  extract_lets x closes
  split
  · exact (s.sound_modRule ..).trans (State.sound_occurrence ..)
  · split
    · exact s.sound_modRule ..
    · exact .refl s

theorem State.sound_matchRule (r : RuleNo) (e : LaneEvent) : Sound s (s.matchRule r e) := by
  unfold State.matchRule
  dsimp only
  split
  · split
    · split
      · exact s.sound_occurrence r e
      · exact .refl s
    · split
      · exact s.sound_occurrence r e
      · exact .refl s
    · exact s.sound_matchSequence ..
    · exact s.sound_matchSequence ..
  · exact .refl s

theorem State.sound_takeEvent (e : LaneEvent) : Sound s (s.takeEvent e) := by
  unfold State.takeEvent
  extract_lets traced
  have htraced : Sound s traced := by
    simp only [traced]
    split
    · exact .of_control rfl rfl
    · exact .refl s
  split
  · simp only [RuleNo.all, List.foldl]
    exact htraced.trans ((State.sound_matchRule ..).trans ((State.sound_matchRule ..).trans
      ((State.sound_matchRule ..).trans (State.sound_matchRule ..))))
  · exact htraced

theorem State.sound_takeEvents (n : Nat) : Sound s (s.takeEvents n) := by
  induction n generalizing s with
  | zero => exact .refl s
  | succ n ih =>
    unfold State.takeEvents
    split
    · exact .refl s
    · exact Sound.trans (t := s.modWatch _) (.of_control rfl rfl) ((State.sound_takeEvent ..).trans (ih _))

theorem State.sound_settleEvents : Sound s s.settleEvents := s.sound_takeEvents 32

/-! ## Reads -/

theorem State.sound_hand (e : LaneEvent) : Sound s (s.hand e) := .of_control rfl rfl

theorem State.sound_grant (l : Lane) (b : Nat) (f : Bool) (hlive : s.station = .live ∨ s.station = .held)
    (hkind : (s.lane l).kind ≠ .off) : Sound s (s.grant l b f) := by
  have hkept : ((s.dropRelease l).lane l).kind ≠ .off := by simpa using hkind
  unfold State.grant
  split
  case h_1 | h_2 =>
    refine (s.beside_dropRelease_mod l _).sound_refresh fun _ => ?_
    rw [State.modLane_lane_same]
    exact ⟨fun _ => ⟨hkept, hlive, .inl rfl⟩, fun _ => ⟨rfl, rfl⟩⟩
  case h_3 hopened =>
    refine (s.beside_dropRelease_mod l _).sound (fun hs => ?_) fun _ => ?_
    · have hl := hs l
      have hview := s.dropRelease_lane_view l
      unfold State.driveOf State.station State.sw1 at hl ⊢
      rw [(s.beside_dropRelease_mod l _).station, (s.beside_dropRelease_mod l _).sw1, State.modLane_lane_same]
      dsimp only
      rw [hview.2.1, hview.2.2.1, hview.2.2.2.1]
      exact hl
    · rw [State.modLane_lane_same]
      exact ⟨fun _ => ⟨hkept, hlive, .inr (by simpa using hopened)⟩, fun h => by simp [hopened] at h⟩
  all_goals exact .refl s

/-- A verdict admits in LIVE and HELD alone. -/
theorem State.verdict_live (l : Lane) (b : Nat) (h : s.verdict l b = .admitted ∨ s.verdict l b = .flagged) :
    s.station = .live ∨ s.station = .held := by
  unfold State.verdict at h
  split at h
  case h_1 | h_2 | h_3 => simp at h
  case h_4 => split at h <;> simp at h
  case h_5 hx => exact .inl hx
  case h_6 hx => exact .inr hx

theorem State.sound_actOn (l : Lane) (b : Nat) (v : Verdict)
    (hlive : v = .admitted ∨ v = .flagged → s.station = .live ∨ s.station = .held) (hkind : (s.lane l).kind ≠ .off) :
    Sound s (s.actOn l b v) := by
  cases v with
  | refuse r => exact s.sound_hand _
  | evacAdmit => exact (s.sound_modLane l _ (by simp)).trans (State.sound_hand ..)
  | admitted => exact (s.sound_grant l b _ (hlive (.inl rfl)) hkind).trans (State.sound_hand ..)
  | flagged => exact (s.sound_grant l b _ (hlive (.inr rfl)) hkind).trans (State.sound_hand ..)

theorem State.sound_dispatchRead (l : Lane) (b : Nat) (hkind : (s.lane l).kind ≠ .off) : Sound s (s.dispatchRead l b) := by
  unfold State.dispatchRead
  split
  · exact s.sound_actOn l b _ (by simp) hkind
  · split
    · exact s.sound_modLane l _ (by simp)
    · exact s.sound_actOn l b _ (s.verdict_live l b) hkind

theorem State.sound_badFrame (l : Lane) : Sound s (s.badFrame l) :=
  (s.sound_modLane l _ (by simp)).trans (State.sound_detectLane ..)

theorem State.settleLane_kind (l : Lane) : ((s.settleLane l).lane l).kind = (s.lane l).kind := by
  unfold State.settleLane State.openDoor; split <;> simp

theorem State.clearLane_kind (l : Lane) (k : LaneFaultKind) : ((s.clearLane l k).lane l).kind = (s.lane l).kind := by
  unfold State.clearLane State.leaveFault
  split
  · split
    · exact State.settleLane_kind ..
    · rfl
  · rfl

theorem State.sound_takeReaderFrame (l : Lane) (cs : List ReaderChar) (hkind : (s.lane l).kind ≠ .off) :
    Sound s (s.takeReaderFrame l cs) := by
  unfold State.takeReaderFrame
  split
  · exact s.sound_badFrame l
  · exact (s.sound_clearLane l _).trans (State.sound_dispatchRead _ l _ (by rw [State.clearLane_kind]; exact hkind))

/-! ## Passages and doors -/

theorem State.sound_ownPunch (l : Lane) (b : Nat) (d : Direction) (o : PunchOutcome) (x : Bool) :
    Sound s (s.ownPunch l b d o x) := .of_control (by simp) (by simp)

theorem State.sound_passed (l : Lane) (p : PendingRelease) : Sound s (s.passed l p) := by
  unfold State.passed
  extract_lets closed moved
  have hclosed : Beside l s closed := s.beside_modLane ..
  have hmoved : Sound s moved := by
    simp only [moved]
    split
    · refine (hclosed.trans (closed.beside_modLane l _)).sound_refresh fun _ => LaneUnit.Unreleased.placed ⟨?_, ?_⟩ _
      · simp [closed]
      · simp
    · refine (hclosed.trans (closed.beside_modLane l _)).sound_refresh fun _ => LaneUnit.Unreleased.placed ⟨?_, ?_⟩ _
      · simp [closed]
      · simpa using s.restState_ne_released l
  exact hmoved.trans (State.sound_ownPunch ..)

theorem State.sound_forced (l : Lane) : Sound s (s.forced l) := by
  unfold State.forced
  extract_lets counted event
  have hevent : Sound s event :=
    (s.sound_modLane l _ (by simp)).trans ((State.sound_recordIncident ..).trans (State.sound_hand ..))
  split
  · exact hevent.trans (State.sound_openDoor ..)
  · exact hevent

/-- In EVACUATE every strike is driven, whatever its lane's state. -/
theorem State.sound_modLane_evacuate (h : s.station = .evacuate) (l : Lane) (f : LaneUnit → LaneUnit)
    (hf : (f (s.lane l)).drive = (s.lane l).drive ∧ (f (s.lane l)).release = (s.lane l).release ∧
      ((s.lane l).state ≠ .released → (f (s.lane l)).state ≠ .released)) : Sound s (s.modLane l f) := by
  obtain ⟨hdrive, hrelease, hstate⟩ := hf
  refine (s.beside_modLane l f).sound (fun hs => ?_) fun hs => ?_
  · have hl := hs l
    have hdriven (x : State) (hx : x.station = .evacuate) : x.driveOf l = true := by unfold State.driveOf; rw [hx]
    rw [hdriven s h] at hl
    rw [State.modLane_lane_same, hdrive, hl]
    exact (hdriven (s.modLane l f) h).symm
  · have hl := hs.unreleased (by simp [h]) l
    rw [State.modLane_lane_same]
    exact LaneUnit.Unreleased.placed ⟨hrelease.trans hl.1, hstate hl.2⟩ _

theorem State.sound_evacPassage (l : Lane) (h : s.station = .evacuate) : Sound s (s.evacPassage l) := by
  unfold State.evacPassage
  extract_lets moved
  have hmoved : Sound s moved := by
    refine s.sound_modLane_evacuate h l _ ⟨rfl, rfl, fun hs => ?_⟩
    dsimp only
    split
    · simp
    · exact hs
  split
  · exact hmoved.trans ((State.sound_modLane _ l _ (by simp)).trans (State.sound_ownPunch ..))
  · exact hmoved.trans (State.sound_modLane _ l _ (by simp))

theorem State.sound_passage (l : Lane) : Sound s (s.passage l) := by
  unfold State.passage
  split
  next h => exact s.sound_evacPassage l h
  next =>
    split
    · exact s.sound_modLane l _ (by simp)
    · exact s.sound_passed l _
    · exact s.sound_forced l
    · exact s.sound_forced l
    · exact .refl s

theorem State.sound_closeDoor (l : Lane) : Sound s (s.closeDoor l) := by
  unfold State.closeDoor
  split
  next h => exact s.sound_modLane_evacuate h l _ ⟨rfl, rfl, fun _ => by simp⟩
  next =>
    split
    next p hp =>
      refine (s.beside_modLane l _).sound_refresh fun hs => ?_
      obtain ⟨hkind, hlive, -⟩ := (hs l).1 (by simp [hp])
      rw [State.modLane_lane_same]
      exact ⟨fun _ => ⟨hkind, hlive, .inl rfl⟩, fun _ => ⟨by simp [hp], rfl⟩⟩
    next hp =>
      refine (s.beside_modLane l _).sound_refresh fun _ => LaneUnit.Unreleased.placed ⟨?_, ?_⟩ _
      · simpa using hp
      · simpa using s.restState_ne_released l

theorem State.sound_auxEdge (l : Lane) (b : Bool) : Sound s (s.auxEdge l b) := by
  unfold State.auxEdge
  split
  · exact s.sound_passage l
  · split
    · unfold State.doorClosing
      split
      · exact (s.sound_closeDoor l).trans (State.sound_clearLane ..)
      · exact s.sound_clearLane ..
    · exact .refl s

theorem State.sound_senseEdge (l : Lane) : Sound s (s.senseEdge l) := by
  unfold State.senseEdge
  split
  · exact (s.sound_modLane l _ (by simp)).trans (State.sound_clearLane ..)
  · exact .refl s

theorem State.sound_foundOpen (l : Lane) : Sound s (s.foundOpen l) := by
  unfold State.foundOpen
  split
  · exact s.sound_openDoor l false
  · exact .refl s

theorem State.sound_senseCheckEnd (l : Lane) : Sound s (s.senseCheckEnd l) := by
  unfold State.senseCheckEnd
  extract_lets y
  have hy : Sound s y := s.sound_modLane l _ (by simp)
  split
  · exact hy.trans (State.sound_clearLane ..)
  · exact hy.trans (State.sound_detectLane ..)

theorem State.sound_heldTooLong (l : Lane) : Sound s (s.heldTooLong l) :=
  (s.sound_detectLane ..).trans ((State.sound_hand ..).trans (State.sound_modLane _ l _ (by simp)))

theorem State.sound_followLevel (b : Bool) (i : Input) : Sound s (s.followLevel b i) := by
  cases i with
  | aux l =>
    unfold State.followLevel
    dsimp only
    split
    · exact s.sound_modLane l _ (by simp)
    · exact .refl s
  | sense l =>
    unfold State.followLevel
    dsimp only
    split
    · exact s.sound_modLane l _ (by simp)
    · exact .refl s
  | contact =>
    unfold State.followLevel
    dsimp only
    split
    · exact .of_frame rfl rfl fun _ => rfl
    · exact .refl s
  | strap | gateSupply | gateReturn | backupSupply => exact .of_control rfl rfl

/-! ## Counting, steps and agreements -/

theorem State.countTimers_lane (l : Lane) : s.countTimers.lane l = (s.lane l).countDown := by
  cases l <;> simp [State.countTimers, State.lane_eq, PerLane.map, PerLane.get]

theorem State.sound_countTimers : Sound s s.countTimers := by
  refine .of_view (by simp [State.countTimers]) (fun _ => by simp [State.countTimers]) fun l => ?_
  rw [State.countTimers_lane]
  simp [LaneUnit.countDown, countDown]

theorem State.sound_sixteenth : Sound s s.sixteenth := by
  unfold State.sixteenth
  extract_lets counted
  have hcounted : Sound s counted := s.sound_countTimers.trans (.of_control rfl rfl)
  split
  · exact hcounted
  · split
    · exact hcounted
    · exact hcounted.trans (.of_control (by simp) (by simp))

theorem State.sound_sixteenthTimes (n : Nat) : Sound s (s.sixteenthTimes n) := by
  induction n generalizing s with
  | zero => exact .refl s
  | succ n ih => exact s.sound_sixteenth.trans (ih _)

theorem State.sound_markEnd : Sound s s.markEnd := by
  unfold State.markEnd
  split
  · split
    · exact .refl s
    · exact Sound.trans (t := s.modClock _) (.of_control rfl rfl) (State.sound_detectClock ..)
  · split
    · exact .of_control (by simp) (by simp)
    · exact .refl s

theorem State.sound_stepTo (t : Int) : Sound s (s.stepTo t) := by
  unfold State.stepTo
  extract_lets t1 moved
  have hmoved : Sound s moved := Sound.trans (t := s.modClock _) (.of_control rfl rfl) (State.sound_markEnd _)
  split
  · exact hmoved
  · exact hmoved.trans (.of_control (by simp) (by simp))

theorem State.sound_changeEra (t : Int) : Sound s (s.changeEra t) := by
  unfold State.changeEra
  exact (s.sound_stepTo t).trans (.of_control (by simp) (by simp))

theorem State.sound_takeAgreement (n : Nat) : Sound s (s.takeAgreement n) := by
  unfold State.takeAgreement
  extract_lets record target acted
  have hacted : Sound s acted := by
    simp only [acted]
    split
    · exact .of_control rfl rfl
    · exact .of_control rfl rfl
    · exact (s.sound_stepTo target).trans (.of_control (by simp) (by simp))
  exact hacted.trans (.of_control rfl rfl)

theorem State.sound_dropFrame (x : Sending) : Sound s (s.dropFrame x) := by
  unfold State.dropFrame
  extract_lets dropped
  have hdropped : Sound s dropped := .of_control (by simp [dropped]) (by simp [dropped])
  split
  · exact hdropped
  · split
    · exact hdropped.trans (State.sound_detectLine ..)
    · exact hdropped.trans (Sound.trans (t := (dropped.openDoubt .isolated none).modPeers _)
        (.of_control (by simp) (by simp)) (State.sound_detectLine ..))

theorem State.sound_collide (x : Sending) : Sound s (s.collide x) := by
  unfold State.collide
  extract_lets cut
  have hcut : Sound s cut := .of_control rfl rfl
  split
  · exact hcut.trans (.of_control rfl rfl)
  · exact hcut.trans (State.sound_dropFrame ..)

theorem State.sound_clash : Sound s s.clash :=
  Sound.trans (t := s.modLine _) (.of_control rfl rfl) (State.sound_detectLine ..)

@[simp] theorem State.trackPunch_lanes_control (p : Station) (n : BitVec 8) :
    (s.trackPunch p n).lanes = s.lanes ∧ (s.trackPunch p n).control = s.control := by
  unfold State.trackPunch; (repeat' split) <;> simp

@[simp] theorem State.trackBeacon_lanes_control (p : Station) (n : BitVec 8) :
    (s.trackBeacon p n).lanes = s.lanes ∧ (s.trackBeacon p n).control = s.control := by
  unfold State.trackBeacon; (repeat' split) <;> simp

theorem State.sound_takePunch (f : PunchFrame) : Sound s (s.takePunch f) := by
  unfold State.takePunch
  extract_lets badge p present
  have hpresent : Sound s (present.handPay badge p) := .of_control (by simp [present]) (by simp [present])
  exact hpresent.trans ((State.sound_hand ..).trans (State.sound_settleEvents _))

theorem State.sound_takeBeacon (f : BeaconFrame) : Sound s (s.takeBeacon f) := by
  unfold State.takeBeacon
  extract_lets recorded fresh
  have hfresh : Sound s fresh := by
    simp only [fresh]
    split
    · exact .of_control (by simp [recorded, State.takeFresh, State.recordBeacon]) (by simp [recorded, State.takeFresh, State.recordBeacon])
    · exact .of_control rfl rfl
  have hclock (x : State) : Sound x (x.clockBeacon f) := by
    unfold State.clockBeacon
    split
    · exact .of_control rfl rfl
    · split
      · unfold State.adoptEra
        exact (x.sound_stepTo (x.beaconTarget f)).trans (.of_control (by simp [State.storeOffset]) (by simp [State.storeOffset]))
      · exact .of_control rfl rfl
  exact hfresh.trans (Sound.trans (.of_control (by simp) (by simp)) (hclock _))

theorem State.sound_takeClear (f : ClearFrame) : Sound s (s.takeClear f) := by
  unfold State.takeClear
  split
  case h_1 | h_2 => exact (s.sound_enterEvacuate _).trans (State.sound_settleEvents _)
  case h_3 => exact .of_frame rfl (by simp only [State.modControl_control]; split <;> rfl)
                fun _ => by simp only [State.modControl_control]; split <;> rfl
  case h_4 => exact .refl s

theorem State.sound_takeAllClear (p : Station) : Sound s (s.takeAllClear p) := by
  unfold State.takeAllClear
  split
  next h =>
    split
    · exact s.sound_placeEvac _
    · exact (s.sound_leaveEvacuate (some p) h).trans (Sound.trans (.of_control (by simp) (by simp)) (State.sound_settleEvents _))
  next => exact .of_frame rfl rfl fun _ => rfl
  next => exact .refl s

/-! ## JOIN -/

theorem State.detectClock_station (c : FaultCause) (h : s.control.station ≠ .live) :
    (s.detectClock c).control.station = s.control.station := by
  have haction (x : State) (hx : x.control.station ≠ .live) (k : FaultKind) (a : FaultAction) :
      (x.stationAction k a).control.station = x.control.station := by
    cases a with
    | actNote => rfl
    | actAlarm => simp [State.stationAction]
    | actHold | actOpen => exact (x.addStationReason_station _).resolve_right fun hl => hx hl.1
  unfold State.detectClock
  extract_lets w r counted
  split
  · split
    · exact (congrArg Control.station (by simp)).trans (haction counted h .clock w.action)
    · rfl
  · rfl

theorem State.stepTo_station (t : Int) (h : s.control.station ≠ .live) :
    (s.stepTo t).control.station = s.control.station := by
  have hmark (x : State) (hx : x.control.station ≠ .live) : x.markEnd.control.station = x.control.station := by
    unfold State.markEnd
    split
    · split
      · rfl
      · exact State.detectClock_station (x.modClock _) _ hx
    · split
      · simp
      · rfl
  unfold State.stepTo
  extract_lets t1 moved
  have hmoved : moved.control.station = s.control.station := hmark (s.modClock _) h
  split
  · exact hmoved
  · simpa using hmoved

theorem State.takeAgreement_station (n : Nat) (h : s.control.station ≠ .live) :
    (s.takeAgreement n).control.station = s.control.station := by
  unfold State.takeAgreement
  extract_lets record target acted
  show acted.control.station = _
  simp only [acted]
  split
  · rfl
  · rfl
  · simpa using s.stepTo_station target h

theorem State.beside_reachHold (l : Lane) : Beside l s (s.reachHold l) := by
  unfold State.reachHold
  split
  case h_4 => exact .refl s l
  all_goals
    split
    · exact s.beside_modLane ..
    · exact .refl s l

theorem State.beside_joinLane (l : Lane) : Beside l s (s.joinLane l) := by
  unfold State.joinLane
  split
  · exact .refl s l
  · split
    · exact s.beside_enterFault l
    · exact s.beside_reachHold l

theorem State.reachHold_unreleased (l : Lane) (h : (s.lane l).Unreleased) : ((s.reachHold l).lane l).Unreleased := by
  unfold State.reachHold
  split
  case h_4 => exact h
  all_goals
    split
    · exact ⟨by simpa using h.1, by simp⟩
    · exact h

theorem State.joinLane_unreleased (l : Lane) (h : (s.lane l).Unreleased) : ((s.joinLane l).lane l).Unreleased := by
  unfold State.joinLane
  split
  · exact h
  · split
    · exact s.enterFault_unreleased h
    · exact s.reachHold_unreleased l h

theorem State.sound_joinEvacuation (r : EvacReason) (c : Bool) : Sound s (s.joinEvacuation r c) := by
  unfold State.joinEvacuation
  extract_lets entered
  have hentered : Sound s entered := s.sound_enterEvacuate r
  split
  · exact hentered.trans (State.sound_placeEvac ..)
  · exact hentered

theorem State.sound_joinState (h : s.station = .join) : Sound s s.joinState := by
  unfold State.joinState
  extract_lets taken entered
  have htaken : Sound s taken := .of_frame rfl rfl fun _ => rfl
  split
  · exact htaken.trans (State.sound_joinEvacuation ..)
  · split
    · exact htaken.trans (State.sound_joinEvacuation ..)
    · exact .of_refreshDrives fun hs => releasesPlaced_of_unreleased
        (entered.foldl_each State.beside_joinLane State.joinLane_unreleased (hs.unreleased (by simp [h])))

theorem State.sound_endJoin (h : s.station = .join) : Sound s s.endJoin := by
  unfold State.endJoin
  have hstation : (s.takeAgreement 1).station = .join := (s.takeAgreement_station 1 (by simp [h])).trans h
  exact (s.sound_takeAgreement 1).trans ((State.sound_joinState _ hstation).trans
    (Sound.trans (.of_control (by simp [State.startBeaconTimer]) (by simp [State.startBeaconTimer]))
      (State.sound_settleEvents _)))

/-! ## SETUP, resets and the supply -/

/-- In JOIN, as in SETUP, every strike is LOCKED and no release stands. -/
theorem State.sound_getReady (h : s.station = .setup) : Sound s s.getReady := by
  have hbeside (x : State) (l : Lane) : Beside l x (x.startLane l) := x.beside_modLane ..
  have hidle (x : State) (l : Lane) (hl : (x.lane l).Unreleased) : ((x.startLane l).lane l).Unreleased := by
    unfold State.startLane
    rw [State.modLane_lane_same]
    split
    · exact ⟨hl.1, by simp⟩
    · exact ⟨hl.1, by simp⟩
  have hlocked (x : State) (l : Lane) (hl : (x.lane l).drive = false) : ((x.startLane l).lane l).drive = false := by
    unfold State.startLane
    rw [State.modLane_lane_same]
    split
    · exact hl
    · exact hl
  have hlanes : s.getReady.lanes = (Lane.all.foldl (fun s l => s.startLane l) s).lanes := by
    simp [State.getReady, State.enterJoin, State.seekContact]
  have hjoin : s.getReady.station = .join := rfl
  refine ⟨fun hs l => ?_, fun hs => releasesPlaced_of_unreleased fun l => ?_⟩
  · have hbefore (k : Lane) : (s.lane k).drive = false := by
      have := hs k
      unfold State.driveOf at this
      rwa [h] at this
    have hafter := s.foldl_each (P := fun u => u.drive = false) (Q := fun u => u.drive = false) hbeside hlocked hbefore l
    rw [State.lane_eq, hlanes]
    unfold State.driveOf
    rw [hjoin]
    exact hafter
  · rw [State.lane_eq, hlanes]
    exact s.foldl_each hbeside hidle (hs.unreleased (by simp [h])) l

theorem State.sound_fullReset : Sound s s.fullReset := by
  refine ⟨fun _ l => ?_, fun _ => releasesPlaced_of_unreleased fun l => ?_⟩
  · cases l <;> rfl
  · cases l <;> exact ⟨rfl, nofun⟩

theorem State.sound_endReset : Sound s s.endReset := .of_control (by simp) (by simp)

theorem State.sound_losePower : Sound s s.losePower := s.sound_fullReset.trans (.of_control rfl rfl)

@[simp] theorem State.retain_lanes_control : s.retain.lanes = s.lanes ∧ s.retain.control = s.control := by
  unfold State.retain; split <;> simp

@[simp] theorem State.stopLine_lanes_control : s.stopLine.lanes = s.lanes ∧ s.stopLine.control = s.control := by
  simp [State.stopLine]

theorem State.sound_enterHoldover : Sound s s.enterHoldover := by
  unfold State.enterHoldover
  extract_lets evac lanes entered
  have hbeside (x : State) (l : Lane) : Beside l x (x.stopLane l) := x.beside_dropRelease_mod ..
  have hself (x : State) (l : Lane) (_ : True) : ((x.stopLane l).lane l).Unreleased := by
    unfold State.stopLane
    refine ⟨by simp, ?_⟩
    rw [State.modLane_lane_same]
    dsimp only
    split
    · exact x.restState_ne_released l
    next h => exact h
  have hlanes (l : Lane) : (lanes.lane l).Unreleased := evac.foldl_each (P := fun _ => True) hbeside hself (fun _ => trivial) l
  have hentered : Sound s entered := .of_refreshDrives fun _ => releasesPlaced_of_unreleased hlanes
  exact hentered.trans ((State.sound_settleEvents _).trans (.of_control (by simp) (by simp)))

theorem State.sound_leaveHoldover (h : s.station = .holdover) : Sound s s.leaveHoldover := by
  unfold State.leaveHoldover
  extract_lets noted lanes
  have hbeside (x : State) (l : Lane) : Beside l x (x.returnLane l) := x.beside_modLane ..
  have hself (x : State) (l : Lane) (hl : (x.lane l).Unreleased) : ((x.returnLane l).lane l).Unreleased := by
    unfold State.returnLane
    rw [State.modLane_lane_same]
    split
    · refine ⟨hl.1, ?_⟩
      unfold State.returnState
      dsimp only
      split
      · simp
      · exact x.restState_ne_released l
    · exact ⟨hl.1, by simp⟩
  refine .of_refreshDrives fun hs => releasesPlaced_of_unreleased fun l => ?_
  have hnoted : noted.lanes = s.lanes := by simp [noted]
  have hreturned := noted.foldl_each hbeside hself (fun k => by
    rw [State.lane_eq, hnoted]; exact hs.unreleased (by simp [h]) k) l
  simpa [State.lane_eq, lanes, State.returnLine, State.enterJoin, State.seekContact] using hreturned

end

end Sys2Proof.Machine
end

section
/-! SUPPORT. The step invariants of the strikes (R24), of the releases (R29, R32, R36, R41, R44) and of the events handed (R141),
over every command: one relation `Upheld`, one case for each command of the table. -/

namespace Sys2Proof.Machine

/-- Strikes, releases and events: each as it should be after an operation when it was before. -/
structure Upheld (s t : State) : Prop where
  handed : s.watch.handed = [] → t.watch.handed = []
  sound : Sound s t

section
variable (s : State)

theorem Upheld.refl : Upheld s s := ⟨id, .refl s⟩

theorem Upheld.trans {s t u : State} (h : Upheld s t) (h' : Upheld t u) : Upheld s u :=
  ⟨h'.handed ∘ h.handed, h.sound.trans h'.sound⟩

theorem Upheld.of_handed {s t : State} (h : t.watch.handed = s.watch.handed) (hs : Sound s t) : Upheld s t :=
  ⟨fun hn => h.trans hn, hs⟩

/-- An operation that reaches neither the lanes, nor station control, nor the events handed. -/
theorem Upheld.of_frame {s t : State} (hl : t.lanes = s.lanes := by simp) (hc : t.control = s.control := by simp)
    (h : t.watch.handed = s.watch.handed := by simp) : Upheld s t := .of_handed h (.of_control hl hc)

theorem Upheld.of_rfl {s t : State} (hl : t.lanes = s.lanes := by rfl) (hc : t.control = s.control := by rfl)
    (h : t.watch.handed = s.watch.handed := by rfl) : Upheld s t := .of_frame hl hc h

/-- Station control may change in anything but the station state and the lane settings. -/
theorem Upheld.of_station {s t : State} (hl : t.lanes = s.lanes := by rfl)
    (hst : t.control.station = s.control.station := by rfl) (hsw : t.control.sw1 = s.control.sw1 := by rfl)
    (h : t.watch.handed = s.watch.handed := by rfl) : Upheld s t := .of_handed h (.of_frame hl hst fun _ => hsw)

/-- An operation that ends with every event taken. -/
theorem Upheld.settled {s t : State} {n : Nat} (h : Hands n s t) (hn : n ≤ 28) (hs : Sound s t) : Upheld s t.settleEvents :=
  ⟨fun hnone => State.settleEvents_handed hnone h hn, hs.trans t.sound_settleEvents⟩

theorem State.upheld_answer (c : ResultCode) : Upheld s (s.answer c) := .of_frame
theorem State.upheld_answerData (c : ResultCode) (b : List Byte) : Upheld s (s.answerData c b) :=
  .of_frame
theorem State.upheld_answerReply (c : ResultCode) (r : Reply) : Upheld s (s.answerReply c r) :=
  .of_frame

theorem Upheld.answer {s t : State} (h : Upheld s t) (c : ResultCode) : Upheld s (t.answer c) := h.trans (t.upheld_answer c)
theorem Upheld.answerData {s t : State} (h : Upheld s t) (c : ResultCode) (b : List Byte) : Upheld s (t.answerData c b) :=
  h.trans (t.upheld_answerData c b)
theorem Upheld.answerReply {s t : State} (h : Upheld s t) (c : ResultCode) (r : Reply) : Upheld s (t.answerReply c r) :=
  h.trans (t.upheld_answerReply c r)

/-- A terminal command taken in the present state by its own rule. -/
theorem State.upheld_command (c : Instr) (r : Request) (k : Bool) (t : TakenIn) {act : State → State}
    (h : ∀ x, (k = true → x.station = .setup) → t.takes x.station = true → Upheld x (act x)) :
    Upheld s (s.command c r k t act) := by
  have hload : Upheld s (s.load r) := .of_frame
  have hstation : (s.load r).station = s.station := congrArg Control.station (by simp)
  unfold State.command
  split
  · exact .refl s
  · split
    · exact .of_frame rfl rfl rfl
    · split
      · exact hload.answer _
      next hlocks =>
        split
        next htakes =>
          refine hload.trans (h _ (fun hk => ?_) (by rw [hstation]; exact htakes))
          rw [hstation]
          by_contra hne
          exact hlocks ⟨hk, hne⟩
        next => exact hload.answer _

theorem State.upheld_event {act : State → State} (h : ∀ x, Upheld x (act x)) : Upheld s (s.event act) := by
  unfold State.event
  split
  · exact .refl s
  · exact h s

theorem State.upheld_clash : Upheld s s.clash := .of_handed (by simp [State.clash]) s.sound_clash

theorem State.upheld_takeFrame (f : Frame) {kind : State → State} (h : ∀ x, Upheld x (kind x)) :
    Upheld s (s.takeFrame f kind) := by
  unfold State.takeFrame
  split
  · split
    · split
      · exact s.upheld_clash
      · exact Upheld.trans (t := s.hear _) .of_rfl (h _)
    · exact .of_frame rfl rfl rfl
  · exact .refl s

/-- A setting stored in SETUP, where every strike is LOCKED whatever the settings. -/
theorem State.upheld_storeWord {α : Type} {put : Control → α → Control} (h : s.station = .setup) (w : Option α)
    (hput : ∀ c x, (put c x).station = c.station) (c : ResultCode) : Upheld s (s.storeWord w put c) := by
  unfold State.storeWord
  split
  · exact s.upheld_answer _
  next x =>
    have hstored : Upheld s (s.modControl fun k => put k x) :=
      .of_handed rfl (.of_frame rfl (hput _ _) fun hh => by simp [State.station, hh] at h)
    exact hstored.answer _

theorem State.upheld_setWord (h : s.station = .setup) (w : SetWordBlock) : Upheld s (s.setWord w) := by
  cases w with
  | undefined => exact s.upheld_answer _
  | sw2 w =>
    unfold State.setWord
    exact s.upheld_storeWord (put := fun k x => { k with sw2 := some x }) h _ (fun _ _ => rfl) _
  | sw3 w =>
    unfold State.setWord
    exact s.upheld_storeWord (put := fun k x => { k with sw3 := some x }) h _ (fun _ _ => rfl) _
  | sw0 | sw1 | sw4 | sw5 =>
    refine s.upheld_storeWord h _ ?_ _
    exact fun _ _ => rfl

theorem State.upheld_putNew (f : BadgeFields) : Upheld s (s.putNew f) := by
  unfold State.putNew
  split
  · exact s.upheld_answer _
  · split
    · split
      · exact s.upheld_answer _
      · exact Upheld.answer .of_rfl _
    · exact Upheld.answer .of_rfl _

theorem State.upheld_putOld (e : BadgeEntry) (f : BadgeFields) : Upheld s (s.putOld e f) := by
  unfold State.putOld
  split
  · split
    · exact Upheld.answer .of_rfl _
    · split
      · exact s.upheld_answer _
      · exact Upheld.answer .of_rfl _
  · split
    · split
      · exact s.upheld_answer _
      · exact Upheld.answer .of_rfl _
    · exact Upheld.answer .of_rfl _

theorem State.upheld_dropBadge (e : BadgeEntry) (b : Bool) : Upheld s (s.dropBadge e b) := by
  unfold State.dropBadge
  split
  · exact Upheld.answer .of_rfl _
  · split
    · exact s.upheld_answer _
    · exact Upheld.answer .of_rfl _

theorem State.upheld_takeWrite (a : Nat) (b : Byte) : Upheld s (s.takeWrite a b) := by
  have hoverrun : Upheld s (s.overrunWrite a) := by
    unfold State.overrunWrite
    split
    · exact .of_frame
    · exact .refl s
  have hwrite : Upheld s (s.writePort a b) := by
    unfold State.writePort
    split
    · split
      · exact .of_frame
      · exact .refl s
    · exact .of_frame
  unfold State.takeWrite
  split
  · exact hoverrun
  · exact hwrite

theorem State.upheld_writeBytes (a : Nat) (bs : List Byte) : Upheld s (s.writeBytes a bs) := by
  induction bs generalizing s a with
  | nil => exact .refl s
  | cons b rest ih => exact (s.upheld_takeWrite a b).trans (ih _ _)

theorem State.upheld_answerEntry (e : Option BadgeEntry) : Upheld s (s.answerEntry e) := by
  cases e with
  | none => exact s.upheld_answer _
  | some e => exact s.upheld_answerData ..

theorem State.upheld_takeCue (f : CueFrame) : Upheld s (s.takeCue f) := by
  have hjudge (e : Fin 48) (d : Nat) (p : Station) : Upheld s (s.judgeCue e d p) := by
    unfold State.judgeCue
    dsimp only
    split
    · split
      · exact .of_frame
      · split
        · exact .of_frame
        · exact .of_frame
    · exact .refl s
  unfold State.takeCue
  split
  · exact hjudge ..
  · exact .refl s

theorem State.upheld_changeEra (t : Int) : Upheld s (s.changeEra t) := .of_handed (by simp) (s.sound_changeEra t)

theorem State.upheld_detectClock (c : FaultCause) : Upheld s (s.detectClock c) := .of_handed (by simp) (s.sound_detectClock c)

theorem State.upheld_fullReset : Upheld s s.fullReset := ⟨fun _ => rfl, s.sound_fullReset⟩

theorem State.upheld_modSupply (f : SupplyMonitor → SupplyMonitor) : Upheld s (s.modSupply f) := .of_frame rfl rfl rfl

theorem State.upheld_losePower : Upheld s s.losePower := s.upheld_fullReset.trans (State.upheld_modSupply ..)

theorem State.upheld_endReset : Upheld s s.endReset :=
  .of_handed (by unfold State.endReset; split <;> rfl) s.sound_endReset

theorem State.upheld_enterHoldover : Upheld s s.enterHoldover := by
  refine ⟨fun hs => ?_, s.sound_enterHoldover⟩
  unfold State.enterHoldover
  extract_lets evac lanes entered
  have hevac : evac.watch.handed = s.watch.handed := by
    simp only [evac]; unfold State.keepEvacuation; split <;> rfl
  have hentered : Hands 4 s entered :=
    (evac.hands_lanes State.hands_stopLane).congr hevac (by simp [entered, lanes])
  simpa [State.stopLine] using State.settleEvents_handed hs hentered (by decide)

end

/-! ## Every command -/

theorem exec_upheld {i : Instr} {s t : State} (h : exec i s = .next t) : Upheld s t := by
  cases i with
  | setWord w => cases h; exact s.upheld_command _ _ _ _ fun x hx _ => x.upheld_setWord (hx rfl) w
  | loadClass a c =>
    cases h
    refine s.upheld_command _ _ _ _ fun x _ _ => ?_
    split
    · split
      · exact x.upheld_answer _
      · exact Upheld.answer .of_rfl _
    · exact x.upheld_answer _
  | loadBell a e =>
    cases h
    refine s.upheld_command _ _ _ _ fun x _ _ => ?_
    split
    · split
      · exact x.upheld_answer _
      · exact Upheld.answer .of_rfl _
    · exact x.upheld_answer _
  | loadPattern a p =>
    cases h
    refine s.upheld_command _ _ _ _ fun x _ _ => ?_
    split
    · exact Upheld.answer .of_rfl _
    · exact x.upheld_answer _
  | loadRule a r =>
    cases h
    refine s.upheld_command _ _ _ _ fun x _ _ => ?_
    split
    · exact Upheld.answer .of_rfl _
    · exact x.upheld_answer _
  | setTime time era =>
    cases h
    refine s.upheld_command _ _ _ _ fun x _ _ => ?_
    split
    · refine Upheld.answer (.of_handed ?_ ?_) _
      · simp [State.setClock]
      · unfold State.setClock
        exact (x.sound_stepTo _).trans (.of_control rfl rfl)
    · exact (x.upheld_changeEra _).answer _
  | ready =>
    cases h
    refine s.upheld_command _ _ _ _ fun x hx _ => ?_
    split
    · refine Upheld.answer (.of_handed ?_ (x.sound_getReady (hx rfl))) _
      simp [State.getReady, State.enterJoin, State.seekContact, Lane.all, State.startLane]
    · exact x.upheld_answerReply ..
  | badgePut b =>
    cases h
    refine s.upheld_command _ _ _ _ fun x _ _ => ?_
    split
    · exact x.upheld_answer _
    · split
      · exact x.upheld_putNew _
      · exact x.upheld_putOld ..
  | badgeDrop force badge =>
    cases h
    refine s.upheld_command _ _ _ _ fun x _ _ => ?_
    split
    · split
      · exact x.upheld_answer _
      · exact x.upheld_dropBadge ..
    · exact x.upheld_answer _
  | badgeRead a badge =>
    cases h
    refine s.upheld_command _ _ _ _ fun x _ _ => ?_
    split
    · exact x.upheld_answerEntry _
    · split
      · exact x.upheld_answerEntry _
      · exact x.upheld_answer _
  | musterRead a =>
    cases h
    have hread (x : State) (n : Nat) : Upheld x (x.readMuster n) := Upheld.answerReply .of_rfl ..
    refine s.upheld_command _ _ _ _ fun x _ _ => ?_
    split
    · exact hread x _
    · split
      · exact hread x _
      · exact x.upheld_answer _
  | payRead a badge =>
    cases h
    refine s.upheld_command _ _ _ _ fun x _ _ => ?_
    split
    · split
      · exact x.upheld_answer _
      · exact x.upheld_answerData ..
    · exact x.upheld_answer _
  | periodClose => cases h; exact s.upheld_command _ _ _ _ fun x _ _ => Upheld.answer .of_rfl _
  | traceMark => cases h; exact s.upheld_command _ _ _ _ fun x _ _ => Upheld.answer .of_rfl _
  | traceRead =>
    cases h
    refine s.upheld_command _ _ _ _ fun x _ _ => ?_
    dsimp only
    split
    · exact Upheld.answerData .of_rfl ..
    · exact Upheld.answerData .of_rfl ..
  | incidentTake =>
    cases h
    refine s.upheld_command _ _ _ _ fun x _ _ => ?_
    split
    · exact Upheld.answerData .of_rfl ..
    · exact Upheld.answerData .of_rfl ..
  | statusRead a b =>
    cases h
    refine s.upheld_command _ _ _ _ fun x _ _ => ?_
    split
    · exact x.upheld_answer _
    · exact x.upheld_answerReply ..
  | peerRead a =>
    cases h
    refine s.upheld_command _ _ _ _ fun x _ _ => ?_
    split
    · exact x.upheld_answerReply ..
    · exact x.upheld_answer _
  | hold a =>
    cases h
    refine s.upheld_command _ _ _ _ fun x _ _ => ?_
    split
    · exact Upheld.answer (.of_handed (by simp) (x.sound_addStationReason _)) _
    · split
      · exact Upheld.answer (.of_handed (by simp) (x.sound_addLaneReason ..)) _
      · exact x.upheld_answer _
  | resume =>
    cases h
    exact s.upheld_command _ _ _ _ fun x _ _ => Upheld.answer (.of_handed (by simp) x.sound_endHolds) _
  | arm a =>
    cases h
    refine s.upheld_command _ _ _ _ fun x _ _ => ?_
    split
    · exact x.upheld_answer _
    · exact Upheld.answer .of_rfl _
  | disarm a =>
    cases h
    refine s.upheld_command _ _ _ _ fun x _ _ => ?_
    split
    · exact x.upheld_answer _
    · exact Upheld.answer .of_rfl _
  | passbackMode a =>
    cases h
    refine s.upheld_command _ _ _ _ fun x _ _ => ?_
    split
    · exact Upheld.answer .of_station _
    · split
      · exact Upheld.answer .of_station _
      · exact x.upheld_answer _
  | evacuate =>
    cases h
    refine s.upheld_command _ _ _ _ fun x _ _ => Upheld.answer ?_ _
    unfold State.terminalEvacuate
    split
    · exact .of_handed (by simp) (x.sound_placeEvac _)
    · exact .settled ((x.hands_enterEvacuate .terminal).congr rfl (by simp)) (by decide)
        ((x.sound_enterEvacuate _).trans (State.sound_placeEvac ..))
  | allClear =>
    cases h
    refine s.upheld_command _ _ _ _ fun x _ _ => ?_
    split
    · exact x.upheld_answer _
    next hstation =>
      split
      · exact x.upheld_answer _
      · exact Upheld.answer (.settled ((x.hands_leaveEvacuate none).congr rfl (by simp)) (by decide)
          ((x.sound_leaveEvacuate _ (not_not.1 hstation)).trans (State.sound_placeEvac ..))) _
  | shiftTime a =>
    cases h
    refine s.upheld_command _ _ _ _ fun x _ _ => ?_
    split
    · exact (x.upheld_changeEra _).answer _
    · exact x.upheld_answer _
  | attentionRead => cases h; exact s.upheld_command _ _ _ _ fun x _ _ => Upheld.answerData .of_rfl ..
  | unknownCommand code =>
    cases h
    split
    · exact .refl s
    · exact s.upheld_command _ _ _ _ fun x _ _ => x.upheld_answer _
  | mailboxWrite address bytes =>
    cases h
    refine s.upheld_event fun x => ?_
    split
    · exact .refl x
    · exact x.upheld_writeBytes ..
  | overrun addr byte =>
    cases h
    refine s.upheld_event fun x => ?_
    split
    next hgo => simpa [State.takeWrite, hgo] using x.upheld_takeWrite addr.toNat byte
    next => exact .refl x
  | fullReset =>
    cases h
    exact Upheld.trans (t := s.modInputs _) (.of_frame rfl rfl rfl) ((State.upheld_fullReset _).trans (State.upheld_modSupply ..))
  | supplyFailure =>
    cases h
    refine Upheld.trans (t := s.modInputs _) (.of_frame rfl rfl rfl) (State.upheld_event _ fun y => ?_)
    split
    · exact y.upheld_modSupply _
    · split
      · exact y.upheld_losePower
      · split
        · exact y.upheld_modSupply _
        · exact y.upheld_enterHoldover
  | supplyReturn =>
    cases h
    refine Upheld.trans (t := s.modInputs fun i => { i with gateLow := false, gateGood := true }) .of_rfl ?_
    dsimp only
    split
    · exact (State.upheld_fullReset _).trans (State.upheld_endReset _)
    · refine State.upheld_event _ fun y => ?_
      split
      next hy => exact .of_handed (by simp) (y.sound_leaveHoldover hy)
      next => exact y.upheld_modSupply _
  | backupLoss => cases h; exact Upheld.trans (t := s.modInputs _) (.of_frame rfl rfl rfl) (State.upheld_losePower _)
  | readerFrame l chars =>
    cases h
    refine s.upheld_event fun x => ?_
    split
    next hw =>
      have hkind : (x.lane l).kind ≠ .off := by simpa using (Bool.and_eq_true_iff.1 hw).2
      exact .settled (x.hands_takeReaderFrame l chars) (by decide) (x.sound_takeReaderFrame l chars hkind)
    next => exact .refl x
  | readerBreakSecond l =>
    cases h
    refine s.upheld_event fun x => ?_
    split
    · exact .settled (x.hands_badFrame l) (by decide) (x.sound_badFrame l)
    · exact .refl x
  | inputLevelChange input level =>
    cases h
    split
    · exact .refl s
    · exact Upheld.trans (t := s.modInputs _) (.of_frame rfl rfl rfl) (State.upheld_event _ fun y =>
        .of_handed (by simp) (y.sound_followLevel ..))
  | debounceExpiry input =>
    cases h
    refine s.upheld_event fun x => ?_
    cases input with
    | aux l =>
      dsimp only
      unfold State.auxExpiry
      extract_lets raw
      split
      · exact .settled ((State.hands_auxEdge (x.modLane l _) l raw).congr rfl rfl) (by decide)
          ((x.sound_modLane l _ (by simp)).trans (State.sound_auxEdge ..))
      · exact .refl x
    | sense l =>
      dsimp only
      unfold State.senseExpiry
      extract_lets raw
      split
      · refine .settled (n := 0) (.of_eq ?_ 0) (by decide) ((x.sound_modLane l _ (by simp)).trans (State.sound_senseEdge ..))
        unfold State.senseEdge
        split <;> simp
      · exact .refl x
  | firstLevelFound input =>
    cases h
    refine s.upheld_event fun x => ?_
    cases input with
    | aux l =>
      dsimp only
      unfold State.auxFound
      split
      · refine .of_handed ?_ ((x.sound_modLane l _ (by simp)).trans (State.sound_foundOpen ..))
        unfold State.foundOpen
        split <;> simp
      · exact .refl x
    | sense l =>
      dsimp only
      unfold State.senseFound
      split
      · exact .of_handed rfl (x.sound_modLane l _ (by simp))
      · exact .refl x
    | contact =>
      dsimp only
      unfold State.contactLevelFound
      split
      · exact .of_station
      · exact .refl x
  | evacContactEdge =>
    cases h
    refine s.upheld_event fun x => ?_
    split
    · unfold State.contactEdge
      extract_lets noted
      have hnoted : Upheld x noted := .of_station
      split
      · refine hnoted.trans ?_
        unfold State.contactAsserted
        split
        case h_1 | h_2 =>
          exact .settled ((noted.hands_enterEvacuate .input).congr rfl (by simp)) (by decide)
            ((noted.sound_enterEvacuate _).trans (State.sound_placeEvac ..))
        case h_3 => exact .of_handed (by simp) (noted.sound_placeEvac _)
        case h_4 => exact .refl noted
      · exact hnoted
    · exact .refl x
  | senseCheckExpiry l =>
    cases h
    refine s.upheld_event fun x => ?_
    split
    · exact .settled (x.hands_senseCheckEnd l) (by decide) (x.sound_senseCheckEnd l)
    · exact .refl x
  | releaseTimerExpiry l =>
    cases h
    refine s.upheld_event fun x => ?_
    split
    · exact .settled (x.hands_expireRelease l) (by decide) (x.sound_expireRelease l)
    · exact .refl x
  | heldOpenExpiry l =>
    cases h
    refine s.upheld_event fun x => ?_
    split
    · exact .settled (x.hands_heldTooLong l) (by decide) (x.sound_heldTooLong l)
    · exact .refl x
  | evacReadExpiry l => cases h; exact s.upheld_event fun x => .of_handed rfl (x.sound_modLane l _ (by simp))
  | clockSecond =>
    cases h
    exact s.upheld_event fun x => .of_handed (by simp [State.countSecond])
      (Sound.trans (t := x.modClock _) (.of_control rfl rfl) (State.sound_sixteenthTimes ..))
  | clockEndReached =>
    cases h
    refine s.upheld_event fun x => ?_
    split
    · exact Upheld.trans (t := x.modClock _) (.of_frame rfl rfl rfl) (State.upheld_detectClock ..)
    · exact .refl x
  | endHoldSecond =>
    cases h
    refine s.upheld_event fun x => ?_
    split
    · exact x.upheld_detectClock _
    · exact .refl x
  | oscillatorStop =>
    cases h
    refine s.upheld_event fun x => ?_
    split
    · exact .refl x
    · exact Upheld.trans (t := x.modClock _) (.of_frame rfl rfl rfl) (State.upheld_detectClock ..)
  | degradedSecond =>
    cases h
    refine s.upheld_event fun x => ?_
    split
    · exact x.upheld_detectClock _
    · exact .refl x
  | ringInstant entry =>
    cases h
    refine s.upheld_event fun x => ?_
    split
    · exact .refl x
    · split
      · exact .of_frame
      · exact .refl x
  | dayRoll => cases h; exact s.upheld_event fun x => .of_frame
  | doubtEnd => cases h; exact .refl s
  | beaconTime =>
    cases h
    refine s.upheld_event fun x => ?_
    split
    · exact Upheld.trans (t := x.placeBeacon.startBeaconTimer)
        (.of_frame (by simp [State.startBeaconTimer]) (by simp [State.startBeaconTimer]) (by simp [State.startBeaconTimer]))
        (.of_handed (by simp) (State.sound_takeAgreement ..))
    · exact .refl x
  | endOfJoin =>
    cases h
    refine s.upheld_event fun x => ?_
    split
    next hx =>
      refine ⟨fun hs => ?_, x.sound_endJoin hx.1⟩
      refine State.settleEvents_handed hs (n := 4) ?_ (by decide)
      exact (State.hands_joinState (x.takeAgreement 1)).congr (by simp) (by simp [State.startBeaconTimer])
    next => exact .refl x
  | peerSilence peer =>
    cases h
    refine s.upheld_event fun x => ?_
    split
    · unfold State.losePeer
      exact .of_frame
    · exact .refl x
  | clashTimerExpiry =>
    cases h
    refine s.upheld_event fun x => ?_
    split
    · exact .of_frame
    · exact .refl x
  | windowExpiry r =>
    cases h
    refine s.upheld_event fun x => ?_
    split
    · exact .of_frame rfl rfl rfl
    · exact .refl x
  | punch f =>
    cases h
    refine s.upheld_event fun x => x.upheld_takeFrame _ fun y => ⟨fun hy => ?_, y.sound_takePunch f⟩
    exact State.settleEvents_handed (n := 1) hy (Hands.congr (State.hands_hand ..) (by simp) rfl) (by decide)
  | beacon f =>
    cases h
    exact s.upheld_event fun x => x.upheld_takeFrame _ fun y => .of_handed (by simp) (y.sound_takeBeacon f)
  | bellCue f =>
    cases h
    exact s.upheld_event fun x => x.upheld_takeFrame _ fun y => y.upheld_takeCue f
  | clear f =>
    cases h
    refine s.upheld_event fun x => x.upheld_takeFrame _ fun y => ⟨fun hy => ?_, y.sound_takeClear f⟩
    unfold State.takeClear
    split
    case h_1 | h_2 => exact State.settleEvents_handed hy (y.hands_enterEvacuate _) (by decide)
    case h_3 | h_4 => exact hy
  | allClearFrame source =>
    cases h
    refine s.upheld_event fun x => x.upheld_takeFrame _ fun y => ⟨fun hy => ?_, y.sound_takeAllClear source⟩
    unfold State.takeAllClear
    split
    · split
      · simpa using hy
      · exact State.settleEvents_handed hy ((y.hands_leaveEvacuate (some source)).congr rfl (by simp)) (by decide)
    · exact hy
    · exact hy
  | lineError run =>
    cases h
    refine s.upheld_event fun x => ?_
    split
    · exact .of_frame rfl rfl rfl
    · exact .refl x
  | numberClash f =>
    cases h
    refine s.upheld_event fun x => ?_
    split
    · exact x.upheld_clash
    · exact .refl x
  | deferralStart =>
    cases h
    refine s.upheld_event fun x => ?_
    split
    · split
      · exact .refl x
      · exact .of_frame rfl rfl rfl
    · exact .refl x
  | yield => cases h; exact s.upheld_event fun x => .of_frame rfl rfl rfl
  | deferralEnd =>
    cases h
    refine s.upheld_event fun x => ?_
    split
    · exact .of_frame rfl rfl rfl
    · exact .refl x
  | sentWhole =>
    cases h
    refine s.upheld_event fun x => ?_
    split
    · exact .refl x
    · exact .of_frame
  | collision =>
    cases h
    refine s.upheld_event fun x => ?_
    split
    · exact .refl x
    · refine .of_handed ?_ (x.sound_collide _)
      unfold State.collide
      dsimp only
      split <;> simp
  | patternPhaseEnd =>
    cases h
    refine s.upheld_event fun x => ?_
    split
    · exact .refl x
    · split
      · exact .refl x
      · exact .of_frame rfl rfl rfl
  | patternComplete =>
    cases h
    refine s.upheld_event fun x => ?_
    split
    · exact .refl x
    · split
      · exact .of_frame
      · exact .refl x
  | resetRelease =>
    cases h
    exact Upheld.trans (t := s.modInputs _) (.of_frame rfl rfl rfl) (State.upheld_endReset _)

theorem State.upheld_idle (s : State) : Upheld s s.idle := by
  unfold State.idle State.idleInReset State.passSixteenth
  dsimp only
  split
  · split
    · exact .of_rfl
    · exact .refl s
  · split
    · have hpassed : Upheld s ((s.modClock fun c => { c with countedFrom := c.time }).sixteenth) :=
        .of_handed (by simp) (Sound.trans (t := s.modClock _) (.of_control rfl rfl) (State.sound_sixteenth _))
      split
      · exact hpassed.trans .of_rfl
      · exact hpassed
    · exact .of_rfl

/-- Every step upholds the strikes, the releases and the events: the command at the front of the queue does, and so does
idling. -/
theorem step_upheld {s t : State} (h : step s = .next t) : Upheld s t := by
  unfold step at h
  split at h
  · cases h; exact s.upheld_idle
  next c rest _ => exact Upheld.trans (t := { s with pending := rest }) .of_rfl (exec_upheld h)

/-- Settles O56: each command drives the strikes of the lanes it reaches anew, or leaves what R24 drives them by. -/
theorem drivesKept : Obligations.DrivesKept := fun _ _ hdrives hstep => (step_upheld hstep).sound.drives hdrives

/-- Settles O57: a release starts in LIVE and HELD alone, and every command that takes the station or the lane elsewhere
drops it. -/
theorem releasesKept : Obligations.ReleasesKept := fun _ _ hplaced hstep => (step_upheld hstep).sound.releases hplaced

/-- Settles O58: a command hands at most four events, a watch rule's entry into EVACUATE at most four more, and
`State.settleEvents` takes them all. -/
theorem eventsTaken : Obligations.EventsTaken := fun _ _ hnone hstep => (step_upheld hstep).handed hnone

end Sys2Proof.Machine
end

section
/-! SUPPORT. The state after a full reset, and the step on an empty queue. -/

namespace Sys2Proof.Machine

/-- Settles O1: both clauses are the two arms of `step`. -/
theorem stepRunsFront : Obligations.StepRunsFront := fun _ _ _ => ⟨rfl, rfl⟩

theorem reset_lane (l : Lane) : State.reset.lane l = LaneUnit.reset := by cases l <;> rfl

theorem reset_rule (r : RuleNo) : State.reset.watch.rules.get r = Rule.plain := by cases r <;> rfl

theorem reset_peer (p : Station) : State.reset.peer p = PeerEntry.reset := by
  unfold State.peer
  rw [show State.reset.peers.entries = List.replicate 16 PeerEntry.reset from rfl, List.getD_replicate _ p.isLt]

/-- Every read of the mailbox gives 0 after a full reset. -/
theorem reset_readPort (a : Nat) : State.reset.readPort a = 0 := by
  have hblock (k : Nat) : State.reset.port.data.getD k 0 = 0 := by
    rw [show State.reset.port.data = List.replicate 64 0 from rfl]
    rw [List.getD_eq_getElem?_getD, List.getElem?_getD_replicate_default_eq]
  unfold State.readPort
  dsimp only
  rw [hblock]
  (repeat' split) <;> rfl

theorem reset_doubt : State.reset.doubtActive = false := by decide

theorem reset_attention : State.reset.attention = 0 := by decide

/-- Settles O2: each block's reset values, read off. -/
theorem resetValues : Obligations.ResetValues := by
  unfold Obligations.ResetValues
  refine ⟨rfl, ?control, ?station, ?lanes, rfl, ?pay, ?clock, ?bell, ?line, rfl, fun p => reset_peer p, ?doubt, ?watch, ?faults,
    ?port, reset_attention, by decide⟩
  case control => exact ⟨rfl, rfl, rfl, rfl, rfl, rfl⟩
  case station => exact ⟨rfl, rfl, rfl, rfl, rfl, rfl, rfl⟩
  case lanes =>
    intro l
    rw [reset_lane]
    exact ⟨rfl, rfl, rfl, rfl, rfl, rfl, rfl, rfl, rfl, rfl, by cases l <;> rfl⟩
  case pay => exact ⟨rfl, rfl, rfl, rfl⟩
  case clock => exact ⟨rfl, rfl, rfl, rfl, rfl, rfl, rfl⟩
  case bell => exact ⟨rfl, rfl, rfl, rfl, rfl, rfl, rfl, rfl, rfl⟩
  case line => exact ⟨rfl, rfl, rfl, rfl, rfl, rfl, rfl, rfl, rfl, rfl, rfl, rfl, rfl⟩
  case doubt => exact ⟨rfl, rfl, reset_doubt⟩
  case watch =>
    refine ⟨rfl, rfl, rfl, rfl, rfl, rfl, fun r => ?_⟩
    rw [reset_rule]
    refine ⟨fun c hc => ?_, rfl, rfl, rfl, rfl, rfl, rfl, rfl, rfl, rfl⟩
    rcases hc with rfl | rfl <;> exact ⟨rfl, rfl, rfl⟩
  case faults => exact ⟨rfl, rfl, fun l k => by cases l <;> cases k <;> rfl⟩
  case port => exact ⟨rfl, rfl, rfl, reset_readPort⟩

/-- Settles O59: the tables by `State.tables_reset`, and no lane is driven or has a release. -/
theorem resetInvariants : Obligations.ResetInvariants := by
  obtain ⟨hsized, hordered, hrecords, hsingle, hrange⟩ := State.reset.tables_iff.1 State.tables_reset
  refine ⟨hsized, hordered, hrecords, hsingle, hrange, fun l => ?_, releasesPlaced_of_unreleased fun l => ?_, rfl⟩
  · rw [reset_lane]; rfl
  · rw [reset_lane]; exact ⟨rfl, nofun⟩

end Sys2Proof.Machine
end

section
/-! SUPPORT. Commands that reach no block: those a part in reset is given (R172, R196), and those the port or the station state
refuses (12 sections 12.1 and 12.2). -/

namespace Sys2Proof.Machine

section
variable {s : State}

/-! ## A part held in reset -/

theorem State.readPort_inReset (h : s.inReset = true) (a : Nat) : s.readPort a = 0 := by
  simp [State.readPort, h]

theorem State.attentionLine_inReset (h : s.inReset = true) : s.attentionLine = false := by
  simp [State.attentionLine, h]

/-- In reset the inputs alone move, the reset line apart. -/
def PinsMoved (s t : State) : Prop := t = { s with inputs := t.inputs } ∧ t.inputs.resetLine = s.inputs.resetLine

theorem PinsMoved.refl (s : State) : PinsMoved s s := ⟨rfl, rfl⟩

theorem PinsMoved.event {t : State} (h : PinsMoved s t) (hr : s.inReset = true) (act : State → State) :
    PinsMoved s (t.event act) := by
  have hreset : t.inReset = true := by rw [h.1]; exact hr
  rwa [t.event_inReset act hreset]

theorem Inputs.setLevel_resetLine (i : Inputs) (b : Bool) (x : Input) : (i.setLevel b x).resetLine = i.resetLine := by
  cases x <;> rfl

theorem exec_inReset (c : Instr) (hr : s.inReset = true) (hfull : c ≠ .fullReset) (hrelease : c ≠ .resetRelease)
    (hloss : c ≠ .backupLoss) (hreturn : c = .supplyReturn → s.supply.unpowered = false) :
    ∃ t, exec c s = .next t ∧ PinsMoved s t := by
  have hcommand (c : Instr) (r : Request) (k : Bool) (t : TakenIn) (act : State → State) :
      PinsMoved s (s.command c r k t act) := by
    rw [s.command_inReset c r k t act hr]; exact .refl s
  have hevent (act : State → State) : PinsMoved s (s.event act) := (PinsMoved.refl s).event hr act
  cases c with
  | fullReset => exact absurd rfl hfull
  | resetRelease => exact absurd rfl hrelease
  | backupLoss => exact absurd rfl hloss
  | doubtEnd => exact ⟨s, rfl, .refl s⟩
  | supplyReturn =>
    refine ⟨_, rfl, ?_⟩
    rw [if_neg (by simp [hreturn rfl])]
    exact PinsMoved.event (t := s.modInputs fun i => { i with gateLow := false, gateGood := true }) ⟨rfl, rfl⟩ hr _
  | supplyFailure => exact ⟨_, rfl, PinsMoved.event (by exact ⟨rfl, rfl⟩) hr _⟩
  | inputLevelChange i level =>
    refine ⟨_, rfl, ?_⟩
    split
    · exact .refl s
    · exact PinsMoved.event (by exact ⟨rfl, Inputs.setLevel_resetLine ..⟩) hr _
  | unknownCommand code =>
    refine ⟨_, rfl, ?_⟩
    split
    · exact .refl s
    · exact hcommand ..
  | setWord | loadClass | loadBell | loadPattern | loadRule | setTime | ready | badgePut | badgeDrop | badgeRead | musterRead
  | payRead | periodClose | traceMark | traceRead | incidentTake | statusRead | peerRead | hold | resume | arm | disarm
  | passbackMode | evacuate | allClear | shiftTime | attentionRead => exact ⟨_, rfl, hcommand ..⟩
  | _ => exact ⟨_, rfl, hevent _⟩

/-- Settles O3: the reset commands by what `State.fullReset` and `State.endReset` leave, every other command in reset by its
case of `exec_inReset`. -/
theorem resetCommands : Obligations.ResetCommands := by
  refine ⟨fun s => ?_, fun c s hr hfull hrelease hloss hreturn =>
    ⟨exec_inReset c hr hfull hrelease hloss hreturn, State.readPort_inReset hr, State.attentionLine_inReset hr⟩⟩
  intro line monitor
  refine ⟨rfl, rfl, fun h => ?_, fun hr hp => ?_, fun hp => ?_⟩
  · exact congrArg Host.Outcome.next (State.endReset_stays (s := s.modInputs fun i => { i with resetLine := false })
      (h.imp id .inr))
  · refine congrArg Host.Outcome.next ((State.endReset_ends (s := s.modInputs fun i => { i with resetLine := false })
      hr rfl hp).trans ?_)
    simp [line, monitor, State.modInputs, SupplyMonitor.resetEnd, failureDelay, hp]
    rfl
  · refine congrArg Host.Outcome.next ((if_pos hp).trans ?_)
    let powered := s.modInputs fun i => { i with gateLow := false, gateGood := true }
    by_cases hl : s.inputs.resetLine = true
    · exact (State.endReset_stays (s := powered.fullReset) (.inr (.inl hl))).trans (by rw [hl]; rfl)
    · exact (State.endReset_ends (s := powered.fullReset) rfl (by simpa [powered] using hl) rfl).trans (by rw [Bool.eq_false_iff.2 hl]; rfl)

/-! ## Commands refused -/

/-- A command that 12 section 12.2 refuses, by the states it is taken in. -/
theorem refused_command {x : ResultCode} {p : Prop} [Decidable p] (h : s.inReset = false) (c : Instr) (hc : s.portTakes c)
    (r : Request) (t : TakenIn) (act : State → State) (hp : p → t.takes s.station = false)
    (hx : (if p then some ResultCode.notInState else none) = some x) :
    ∃ u, Host.Outcome.next (s.command c r false t act) = (.next u : Host.Outcome State Fault Refusal) ∧ OnlyAnswered s u x := by
  split at hx
  next hp' =>
    cases hx
    exact ⟨_, rfl, by rw [s.command_refused c r t act h hc (hp hp')]; exact onlyAnswered_load s r _⟩
  next => simp at hx

theorem refused_locked {x : ResultCode} (h : s.inReset = false) (c : Instr) (hc : s.portTakes c) (r : Request)
    (act : State → State) (hx : (if s.station = .setup then none else some ResultCode.locked) = some x) :
    ∃ u, Host.Outcome.next (s.command c r true .setup act) = (.next u : Host.Outcome State Fault Refusal) ∧
      OnlyAnswered s u x := by
  split at hx
  next => simp at hx
  next hs =>
    cases hx
    exact ⟨_, rfl, by rw [s.command_locked c r .setup act h hc hs]; exact onlyAnswered_load s r _⟩

theorem TakenIn.served_refuses {x : StationState} (h : x = .setup ∨ x = .holdover) : TakenIn.served.takes x = false := by
  rcases h with rfl | rfl <;> rfl

theorem TakenIn.sending_refuses {x : StationState} (h : x = .setup ∨ x = .join ∨ x = .holdover) :
    TakenIn.sending.takes x = false := by
  rcases h with rfl | rfl | rfl <;> rfl

theorem TakenIn.notJoin_refuses {x : StationState} (h : x = .join ∨ x = .holdover) : TakenIn.notJoin.takes x = false := by
  rcases h with rfl | rfl <;> rfl

theorem State.load_station (s : State) (r : Request) : (s.load r).station = s.station := congrArg Control.station (by simp)

theorem refused_allClear {x : ResultCode} (h : s.inReset = false) (hc : s.portTakes .allClear)
    (hx : (if s.station = .evacuate then none else some ResultCode.notInState) = some x) :
    ∃ u, exec .allClear s = .next u ∧ OnlyAnswered s u x := by
  split at hx
  next => simp at hx
  next hs =>
    cases hx
    refine ⟨_, rfl, ?_⟩
    by_cases ht : TakenIn.served.takes s.station = true
    · rw [s.command_taken _ _ _ _ h hc ht]
      rw [if_pos (by rw [s.load_station]; exact hs)]
      exact onlyAnswered_load ..
    · rw [s.command_refused _ _ _ _ h hc (by simpa using ht)]
      exact onlyAnswered_load ..

theorem exec_refused (c : Instr) (r : ResultCode) (h : s.inReset = false) (hc : s.portTakes c)
    (hr : refusedIn c s.station = some r) : ∃ t, exec c s = .next t ∧ OnlyAnswered s t r := by
  cases c with
  | setWord | loadClass | loadBell | loadPattern | loadRule | ready => exact refused_locked h _ hc _ _ hr
  | setTime => exact refused_command h _ hc _ _ _ TakenIn.notJoin_refuses hr
  | badgePut | badgeDrop | badgeRead | musterRead | payRead | periodClose | traceMark | traceRead | incidentTake | hold | resume
  | arm | disarm | passbackMode => exact refused_command h _ hc _ _ _ TakenIn.served_refuses hr
  | evacuate | shiftTime => exact refused_command h _ hc _ _ _ TakenIn.sending_refuses hr
  | allClear => exact refused_allClear h hc hr
  | _ => exact absurd hr nofun

theorem exec_discarded (c : Instr) (h : s.inReset = false) (ht : isTerminal c) (hc : ¬ s.portTakes c) :
    exec c s = .next { s with port := { s.port with overrun := true } } := by
  cases c with
  | unknownCommand code =>
    have hcode : commandCodes.contains code = false := by simpa [isTerminal] using ht
    refine (congrArg Host.Outcome.next (if_neg (by rw [hcode]; decide))).trans ?_
    exact congrArg Host.Outcome.next (s.command_discarded _ _ _ _ _ h hc)
  | setWord | loadClass | loadBell | loadPattern | loadRule | setTime | ready | badgePut | badgeDrop | badgeRead | musterRead
  | payRead | periodClose | traceMark | traceRead | incidentTake | statusRead | peerRead | hold | resume | arm | disarm
  | passbackMode | evacuate | allClear | shiftTime | attentionRead =>
    exact congrArg Host.Outcome.next (s.command_discarded _ _ _ _ _ h hc)
  | _ => exact absurd ht id

/-- Settles O4: each command by the states it is taken in. -/
theorem refusedByState : Obligations.RefusedByState := by
  refine ⟨fun c s r h hc hr => exec_refused c r h hc hr, fun code s h hc hcode => ?_, fun c s h ht hc => exec_discarded c h ht hc⟩
  have hnot : commandCodes.contains code = false := by simpa using hcode
  refine ⟨_, congrArg Host.Outcome.next (if_neg (by rw [hnot]; decide)), ?_⟩
  rw [s.command_taken _ _ .anyState _ h hc rfl]
  exact onlyAnswered_load ..

end

end Sys2Proof.Machine
end

section
/-! SUPPORT. The writes of a mailbox transaction (12 section 12.1): what one byte stores, and where it is read back. -/

namespace Sys2Proof.Machine

/-! ## The two bytes of a parameter -/

theorem low_append (x y : BitVec 8) : (x ++ y : BitVec 16).extractLsb 7 0 = y := by
  apply BitVec.eq_of_getLsbD_eq
  intro i hi
  have hlt : i < 8 := hi
  have happend : (x ++ y).getLsbD i = y.getLsbD i := by rw [BitVec.getLsbD_append, if_pos hlt]
  rw [BitVec.getLsbD_extractLsb, Nat.zero_add]
  exact (congrArg _ happend).trans (by simp; omega)

theorem high_append (x y : BitVec 8) : (x ++ y : BitVec 16).extractLsb 15 8 = x := by
  apply BitVec.eq_of_getLsbD_eq
  intro i hi
  have hlt : i < 8 := hi
  have happend : (x ++ y).getLsbD (8 + i) = x.getLsbD i := by
    rw [BitVec.getLsbD_append, if_neg (by omega), Nat.add_sub_cancel_left]
  rw [BitVec.getLsbD_extractLsb]
  exact (congrArg _ happend).trans (by simp; omega)

section
variable {s : State}

/-! ## One byte written -/

/-- A write above the mailbox changes nothing, whatever the GO mark. -/
theorem State.takeWrite_above {addr : Nat} (h : 0x50 ≤ addr) (b : Byte) : s.takeWrite addr b = s := by
  have hoverrun : s.overrunWrite addr = s := if_neg (by omega)
  have hwrite : s.writePort addr b = s := by
    rw [State.writePort, if_neg (by omega)]
    have hstore : s.port.store addr b = s.port := by
      unfold TerminalPort.store blockSize
      rw [if_neg (by omega), if_neg (by omega), if_neg (by omega), if_neg (by omega), if_neg (by omega), if_neg (by omega)]
    rw [State.modPort, hstore]
  rw [State.takeWrite, hoverrun, hwrite, ite_self]

theorem State.writeBytes_above {addr : Nat} (h : 0x50 ≤ addr) (bs : List Byte) : s.writeBytes addr bs = s := by
  induction bs generalizing addr with
  | nil => rfl
  | cons b rest ih => rw [State.writeBytes, State.takeWrite_above h, ih (by omega)]

theorem State.takeWrite_go (h : s.port.go = true) (addr : Nat) (b : Byte) :
    s.takeWrite addr b = { s with port := { s.port with overrun := s.port.overrun || decide (inMailbox addr) } } := by
  rw [State.takeWrite, if_pos h, State.overrunWrite]
  split
  next hin => simp [State.modPort, hin]
  next hout => simp [hout]

/-- The byte of the mailbox at an address (R203), as a part out of reset reads it. -/
def TerminalPort.byteAt (p : TerminalPort) (a : Nat) : Byte :=
  if a = 0x00 then p.command
  else if a = 0x01 then byteOf (bit p.go)
  else if a = 0x02 then p.paramA.extractLsb 7 0
  else if a = 0x03 then p.paramA.extractLsb 15 8
  else if a = 0x04 then p.paramB.extractLsb 7 0
  else if a = 0x05 then p.paramB.extractLsb 15 8
  else if 0x10 ≤ a ∧ a < 0x10 + blockSize then p.data.getD (a - 0x10) 0
  else 0

theorem State.readPort_eq (h : s.inReset = false) (a : Nat) : s.readPort a = s.port.byteAt a := by
  simp [State.readPort, TerminalPort.byteAt, h]

theorem TerminalPort.byteAt_paramA (p : TerminalPort) (w : BitVec 16) (a : Nat) :
    ({ p with paramA := w } : TerminalPort).byteAt a =
      if a = 0x02 then w.extractLsb 7 0 else if a = 0x03 then w.extractLsb 15 8 else p.byteAt a := by
  unfold TerminalPort.byteAt; split_ifs <;> first | rfl | omega

theorem TerminalPort.byteAt_paramB (p : TerminalPort) (w : BitVec 16) (a : Nat) :
    ({ p with paramB := w } : TerminalPort).byteAt a =
      if a = 0x04 then w.extractLsb 7 0 else if a = 0x05 then w.extractLsb 15 8 else p.byteAt a := by
  unfold TerminalPort.byteAt; split_ifs <;> first | rfl | omega

theorem TerminalPort.byteAt_data (p : TerminalPort) (d : List Byte) (a : Nat) :
    ({ p with data := d } : TerminalPort).byteAt a =
      if 0x10 ≤ a ∧ a < 0x10 + blockSize then d.getD (a - 0x10) 0 else p.byteAt a := by
  unfold TerminalPort.byteAt; split_ifs <;> first | rfl | omega

/-- A parameter with its low byte written reads as that byte at its first address, and as before at its second. -/
theorem read_low {a i j : Nat} {q : Prop} [Decidable q] {x y b r : Byte} (hq : q) (hx : x = b) (hy : a = j → y = r) :
    (if a = i then x else if a = j then y else r) = if a = i ∧ q then b else r := by
  split_ifs <;> simp_all

/-- A parameter with its high byte written reads as that byte at its second address, and as before at its first. -/
theorem read_high {a i j : Nat} {q : Prop} [Decidable q] {x y b r : Byte} (hq : q) (hij : i ≠ j) (hx : a = i → x = r)
    (hy : y = b) : (if a = i then x else if a = j then y else r) = if a = j ∧ q then b else r := by
  split_ifs <;> simp_all

/-- A byte stored at any address but that of GO is read back there, when the mailbox occupies the address; every other address
reads as before. -/
theorem TerminalPort.byteAt_store (p : TerminalPort) (hlen : p.data.length = 64) {addr : Nat} (haddr : addr ≠ 0x01) (b : Byte)
    (a : Nat) : (p.store addr b).byteAt a = if a = addr ∧ inMailbox addr then b else p.byteAt a := by
  have hcases : addr = 0 ∨ addr = 2 ∨ addr = 3 ∨ addr = 4 ∨ addr = 5 ∨ (0x10 ≤ addr ∧ addr < 0x50) ∨ ¬ inMailbox addr := by
    unfold inMailbox; omega
  rcases hcases with rfl | rfl | rfl | rfl | rfl | hblock | hout
  · by_cases ha : a = 0 <;> simp [TerminalPort.store, TerminalPort.byteAt, inMailbox, ha]
  · refine (p.byteAt_paramA _ a).trans (read_low (by decide) (low_append _ b) ?_)
    rintro rfl
    exact high_append _ b
  · refine (p.byteAt_paramA _ a).trans (read_high (by decide) (by decide) ?_ (high_append b _))
    rintro rfl
    exact low_append b _
  · refine (p.byteAt_paramB _ a).trans (read_low (by decide) (low_append _ b) ?_)
    rintro rfl
    exact high_append _ b
  · refine (p.byteAt_paramB _ a).trans (read_high (by decide) (by decide) ?_ (high_append b _))
    rintro rfl
    exact low_append b _
  · have hstore : p.store addr b = { p with data := modAt (fun _ => b) (addr - 0x10) p.data } := by
      unfold TerminalPort.store blockSize
      rw [if_neg (by omega), if_neg (by omega), if_neg (by omega), if_neg (by omega), if_neg (by omega), if_pos (by omega)]
    rw [hstore, p.byteAt_data, getD_modAt _ _ _ _ _ (by omega)]
    by_cases ha : a = addr
    · rw [if_pos (by unfold blockSize; omega), if_pos (by omega), if_pos ⟨ha, .inr hblock⟩]
    · rw [if_neg (c := a = addr ∧ inMailbox addr) fun h => ha h.1]
      by_cases hin : 0x10 ≤ a ∧ a < 0x10 + blockSize
      · rw [if_pos hin, if_neg (by omega)]
        unfold TerminalPort.byteAt
        rw [if_neg (by omega), if_neg (by omega), if_neg (by omega), if_neg (by omega), if_neg (by omega),
          if_neg (by omega), if_pos hin]
      · rw [if_neg hin]
  · have hstore : p.store addr b = p := by
      unfold TerminalPort.store blockSize
      unfold inMailbox at hout
      rw [if_neg (by omega), if_neg (by omega), if_neg (by omega), if_neg (by omega), if_neg (by omega), if_neg (by omega)]
    rw [hstore, if_neg fun h => hout h.2]

theorem TerminalPort.store_frame (p : TerminalPort) (addr : Nat) (b : Byte) :
    (p.store addr b).go = p.go ∧ (p.store addr b).overrun = p.overrun ∧ (p.store addr b).payFlag = p.payFlag := by
  unfold TerminalPort.store; split_ifs <;> exact ⟨rfl, rfl, rfl⟩

/-! ## A transaction -/

theorem State.takeWrite_only (addr : Nat) (b : Byte) : s.takeWrite addr b = { s with port := (s.takeWrite addr b).port } := by
  unfold State.takeWrite State.overrunWrite State.writePort
  split_ifs <;> rfl

theorem exec_mailboxWrite (hr : s.inReset = false) {address : Byte} (hw : address.getLsbD 7 = false) (bs : List Byte) :
    exec (.mailboxWrite address bs) s = .next (s.writeBytes (address.toNat % 128) bs) := by
  refine (congrArg Host.Outcome.next (s.event_taken _ hr)).trans (congrArg Host.Outcome.next (if_neg ?_))
  rw [isRead, hw]; decide

theorem exec_mailboxRead (hr : s.inReset = false) {address : Byte} (hw : address.getLsbD 7 = true) (bs : List Byte) :
    exec (.mailboxWrite address bs) s = .next s :=
  (congrArg Host.Outcome.next (s.event_taken _ hr)).trans (congrArg Host.Outcome.next (if_pos hw))

theorem exec_overrun (hr : s.inReset = false) (addr : BitVec 7) (b : Byte) :
    exec (.overrun addr b) s = .next (if s.port.go then s.overrunWrite addr.toNat else s) :=
  congrArg Host.Outcome.next (s.event_taken _ hr)

/-- An address of 127 or less has its top bit clear. -/
theorem address_write : ∀ x : Byte, x.getLsbD 7 = false ↔ x.toNat < 128 := by decide

theorem address_next {x : Byte} (h : x.toNat % 128 < 127) (hx : x.getLsbD 7 = false) :
    (x + 1).getLsbD 7 = false ∧ (x + 1).toNat % 128 = x.toNat % 128 + 1 := by
  rw [address_write] at hx ⊢
  have : (x + 1).toNat = x.toNat + 1 := by
    rw [BitVec.toNat_add]
    exact Nat.mod_eq_of_lt (by simp; omega)
  omega

/-- What one byte written to the mailbox leaves, by the GO mark. -/
theorem takeWrite_spec (hr : s.inReset = false) (hlen : s.port.data.length = 64) (first : Nat) (b : Byte) :
    let t := s.takeWrite first b
    (s.port.go = true → t.port = { s.port with overrun := s.port.overrun || decide (inMailbox first) }) ∧
    (s.port.go = false → t.port.overrun = s.port.overrun ∧ t.port.payFlag = s.port.payFlag ∧
      (first = 0x01 → t.port = { s.port with go := b.getLsbD 0 }) ∧
      (first ≠ 0x01 → t.port.go = false ∧ (inMailbox first → t.readPort first = b) ∧
        ∀ a, a ≠ first ∨ ¬ inMailbox first → t.readPort a = s.readPort a)) := by
  intro t
  refine ⟨fun hgo => ?_, fun hgo => ?_⟩
  · simp only [t, State.takeWrite_go hgo]
  · have ht : t = s.writePort first b := if_neg (by simp [hgo])
    by_cases hfirst : first = 0x01
    · have hport : t.port = { s.port with go := b.getLsbD 0 } := by
        rw [ht, State.writePort, if_pos hfirst]
        split
        next hb => simp [hb]
        next hb => rw [Bool.eq_false_iff.2 hb, ← hgo]
      exact ⟨by rw [hport], by rw [hport], fun _ => hport, fun h => absurd hfirst h⟩
    · have hport : t = { s with port := s.port.store first b } := by rw [ht, State.writePort, if_neg hfirst]; rfl
      obtain ⟨hstoredGo, hoverrun, hflag⟩ := s.port.store_frame first b
      have hread (a : Nat) : t.readPort a = if a = first ∧ inMailbox first then b else s.readPort a := by
        rw [State.readPort_eq hr, State.readPort_eq (by rw [hport]; exact hr), hport]
        exact s.port.byteAt_store hlen hfirst b a
      refine ⟨by rw [hport]; exact hoverrun, by rw [hport]; exact hflag, fun h => absurd h hfirst, fun _ =>
        ⟨by rw [hport]; exact hstoredGo.trans hgo, fun hin => ?_, fun a ha => ?_⟩⟩
      · rw [hread, if_pos ⟨rfl, hin⟩]
      · rw [hread, if_neg fun h => ha.elim (fun hne => hne h.1) fun hout => hout h.2]

/-- ATTENTION READ taken: PAY_FLAG alone is cleared, and the attention word returned (R199). -/
theorem exec_attentionRead (hr : s.inReset = false) (hc : s.portTakes .attentionRead) :
    exec .attentionRead s = .next (((s.load { code := 0x70 }).modPort fun p => { p with payFlag := false }).answerData .done
      [(s.load { code := 0x70 }).attention]) :=
  congrArg Host.Outcome.next (s.command_taken _ _ .anyState _ hr hc rfl)

/-- ATTENTION READ in flight completes with the OVERRUN mark that a write left (R198). -/
theorem overrun_reported (addr : BitVec 7) (b : Byte) (hr : s.inReset = false) (hgo : s.port.go = true)
    (hc : s.port.command = 0x70) (haddr : addr.toNat < 0x06) :
    ∃ t u, exec (.overrun addr b) s = .next t ∧ exec .attentionRead t = .next u ∧
      u.port.command.toNat = 128 ∧ u.port.overrun = false ∧ u.port.go = false := by
  have hwrite : exec (.overrun addr b) s = .next (s.modPort fun p => { p with overrun := true }) := by
    rw [exec_overrun hr, if_pos hgo, State.overrunWrite, if_pos (.inl haddr)]
  have htakes : (s.modPort fun p => { p with overrun := true }).portTakes .attentionRead := fun _ => by
    simp [TerminalPort.held, hc]
  refine ⟨_, _, hwrite, exec_attentionRead hr htakes, ?_⟩
  exact completed_answerData (s := s.modPort fun p => { p with overrun := true }) .done _ (by simp)

/-- Settles O5: one byte by `takeWrite_spec`, the bytes after it by the address rising. -/
theorem mailboxWrites : Obligations.MailboxWrites := by
  refine ⟨fun address b rest s hr hlen => ?_, fun addr b s hr hgo hc haddr => overrun_reported addr b hr hgo hc haddr⟩
  intro first
  have hlt : first < 128 := Nat.mod_lt _ (by decide)
  refine ⟨fun hw => exec_mailboxRead hr hw rest, ?_, fun hw => ?_, fun addr => ⟨fun hgo => ?_, fun hgo => ?_⟩⟩
  · cases hw : address.getLsbD 7 with
    | true => exact exec_mailboxRead hr hw []
    | false => exact exec_mailboxWrite hr hw []
  · refine ⟨s.takeWrite first b, exec_mailboxWrite hr hw [b], s.takeWrite_only first b, fun hfirst => ?_, fun hfirst => ?_,
      takeWrite_spec hr hlen first b⟩
    · obtain ⟨hnext, haddress⟩ := address_next hfirst hw
      have ht : (s.takeWrite first b).inReset = false := by rw [State.takeWrite_only]; exact hr
      rw [exec_mailboxWrite hr hw, exec_mailboxWrite ht hnext, haddress]
      rfl
    · rw [exec_mailboxWrite hr hw]
      exact congrArg Host.Outcome.next (State.writeBytes_above (show 0x50 ≤ first by omega) _)
  · rw [exec_overrun hr, if_pos hgo, ← State.takeWrite_go hgo _ b, State.takeWrite, if_pos hgo]
  · rw [exec_overrun hr, if_neg (by simp [hgo])]

end

end Sys2Proof.Machine
end

section
/-! SUPPORT. The settings that the commands of SETUP store: what a checked code refuses, and what a clamped quantity stores
(10 section 10.2, 03 section 3.1, 05 section 5.1, 08 section 8.2). -/

namespace Sys2Proof.Machine

/-! ## Quantities -/

theorem clamp_eq_iff {lo hi x : Nat} (h : lo ≤ hi) : x = clamp lo hi x ↔ lo ≤ x ∧ x ≤ hi := by unfold clamp; omega

theorem clamp_zero (hi x : Nat) : clamp 0 hi x = min hi x := Nat.zero_max _

/-- The result of a quantity taken: DONE when it is stored as sent, DONE_CLAMPED otherwise (R173). -/
theorem completed_taken {α : Type} [DecidableEq α] {s t : State} {sent stored : α} {good : Prop}
    (h : sent = stored ↔ good) (ht : Completed s t (takenResult sent stored)) :
    (good → Completed s t .done) ∧ (¬ good → Completed s t .doneClamped) := by
  unfold takenResult at ht
  refine ⟨fun hg => ?_, fun hg => ?_⟩
  · rwa [if_pos (h.2 hg)] at ht
  · rwa [if_neg fun he => hg (h.1 he)] at ht

section
variable {s : State}

/-- A command of SETUP taken there is judged by its own rule on the loaded mailbox. -/
theorem State.command_inSetup (h : s.inSetup) {c : Instr} (hc : s.portTakes c) (r : Request) (act : State → State) :
    s.command c r true .setup act = act (s.load r) := s.command_setup c r act h.1 hc h.2

/-! ## SET WORD -/

theorem exec_setWord (h : s.inSetup) {w : SetWordBlock} (hc : s.portTakes (.setWord w)) :
    exec (.setWord w) s =
      .next ((s.load
        { code := 0x10, a := some (setWordNumber w), data := Config.writtenBlock (.setWord w) }).setWord w) :=
  congrArg Host.Outcome.next (State.command_inSetup h hc ..)

/-- A word with an undefined code is refused, and changes nothing but the mailbox. -/
theorem setWord_refused (h : s.inSetup) {w : SetWordBlock} (hc : s.portTakes (.setWord w))
    (hw : ∀ x : State, x.setWord w = x.answer .badValue) :
    ∃ t, exec (.setWord w) s = .next t ∧ OnlyAnswered s t .badValue :=
  ⟨_, exec_setWord h hc, by rw [hw]; exact onlyAnswered_load ..⟩

/-- A word taken replaces its stored word whole. -/
theorem setWord_stored (h : s.inSetup) {w : SetWordBlock} (hc : s.portTakes (.setWord w)) {put : Control → Control}
    {c : ResultCode} (hw : ∀ x : State, x.setWord w = (x.modControl put).answer c) :
    ∃ t, exec (.setWord w) s = .next t ∧ t = { s with control := t.control, port := t.port } ∧
      t.port.payFlag = s.port.payFlag ∧ t.control = put s.control ∧ Completed s t c := by
  refine ⟨_, exec_setWord h hc, ?_⟩
  rw [hw]
  exact ⟨State.answer_modControl_load_only .., by simp, State.answer_modControl_load_control .., completed_answer c (by simp)⟩

/-- A word whose quantities are clamped: it is stored clamped, and the result says whether any was. -/
theorem setWord_clamped (h : s.inSetup) {w : SetWordBlock} (hc : s.portTakes (.setWord w)) {put : Control → Control}
    {α : Type} [DecidableEq α] {sent stored : α} {good : Prop} (hgood : sent = stored ↔ good)
    (hw : ∀ x : State, x.setWord w = (x.modControl put).answer (takenResult sent stored)) :
    ∃ t, exec (.setWord w) s = .next t ∧ t = { s with control := t.control, port := t.port } ∧
      t.port.payFlag = s.port.payFlag ∧ t.control = put s.control ∧
      (good → Completed s t .done) ∧ (¬ good → Completed s t .doneClamped) := by
  obtain ⟨t, hexec, honly, hflag, hcontrol, hdone⟩ := setWord_stored h hc hw
  exact ⟨t, hexec, honly, hflag, hcontrol, completed_taken hgood hdone⟩

theorem readSW0_none {w : Word0} (h : w.rate = none ∨ 16 ≤ w.station ∨ 7 ≤ w.weekday) : readSW0 w = none := by
  unfold readSW0
  split
  · rfl
  next hrate =>
    rcases h with h | h | h
    · simp [hrate] at h
    · exact dif_neg (by omega)
    · exact dif_neg (by omega)

theorem readLaneCodes_none {c : LaneCodes} (h : c.kind = none ∨ c.direction = none ∨ c.failMode = none) :
    readLaneCodes c = none := by
  unfold readLaneCodes
  rcases h with h | h | h <;> simp [h]

theorem readSW1_none {w : Word1} (h : ∃ c ∈ [w.lane1, w.lane2, w.lane3, w.lane4],
    c.kind = none ∨ c.direction = none ∨ c.failMode = none) : readSW1 w = none := by
  obtain ⟨c, hc, hcodes⟩ := h
  have hnone := readLaneCodes_none hcodes
  unfold readSW1
  simp only [List.mem_cons, List.not_mem_nil, or_false] at hc
  rcases hc with rfl | rfl | rfl | rfl <;> simp [hnone]

theorem clampLimits_eq_iff (x : LaneLimits) :
    x = clampLimits x ↔ (1 ≤ x.release ∧ x.release ≤ 30) ∧ 5 ≤ x.heldOpen ∧ x.heldOpen ≤ 300 := by
  rw [← clamp_eq_iff (by decide), ← clamp_eq_iff (by decide)]
  cases x
  simp [clampLimits]

theorem clampWord2_eq_iff (w : Word2) : w = clampWord2 w ↔
    ((w.lane1 = clampLimits w.lane1 ∧ w.lane2 = clampLimits w.lane2 ∧ w.lane3 = clampLimits w.lane3 ∧
      w.lane4 = clampLimits w.lane4) ∧ (1 ≤ w.debounce ∧ w.debounce ≤ 16) ∧ w.reread ≤ 10) := by
  rw [← clamp_eq_iff (by decide), show w.reread ≤ 10 ↔ w.reread = clamp 0 10 w.reread by unfold clamp; omega]
  cases w
  simp [clampWord2, and_assoc]

theorem clampWord3_eq_iff (w : Word3) : w = clampWord3 w ↔
    (4 ≤ w.beaconInterval ∧ w.beaconInterval ≤ 64) ∧ (10 ≤ w.silenceLimit ∧ w.silenceLimit ≤ 600) ∧
      (2 ≤ w.joinPeriod ∧ w.joinPeriod ≤ 60) ∧ (1 ≤ w.doubtHold ∧ w.doubtHold ≤ 120) ∧ w.latency ≤ 15 := by
  rw [← clamp_eq_iff (by decide), ← clamp_eq_iff (by decide), ← clamp_eq_iff (by decide), ← clamp_eq_iff (by decide),
    show w.latency ≤ 15 ↔ w.latency = clamp 0 15 w.latency by unfold clamp; omega]
  cases w
  simp [clampWord3]

theorem clampWord4_eq_iff (w : Word4) : w = clampWord4 w ↔
    (16 ≤ w.stepThreshold ∧ w.stepThreshold ≤ 4800) ∧ w.dayRoll ≤ 1439 ∧ w.bellAdvance ≤ 160 ∧
      1 ≤ w.cueWindow ∧ w.cueWindow ≤ 120 := by
  rw [← clamp_eq_iff (by decide), ← clamp_eq_iff (by decide),
    show w.dayRoll ≤ 1439 ↔ w.dayRoll = clamp 0 1439 w.dayRoll by unfold clamp; omega,
    show w.bellAdvance ≤ 160 ↔ w.bellAdvance = clamp 0 160 w.bellAdvance by unfold clamp; omega]
  cases w
  simp [clampWord4]

theorem readSW4_none {w : Word4} (h : 8 ≤ w.evacPattern ∨ 8 ≤ w.alarmPattern) : readSW4 (clampWord4 w) = none :=
  dif_neg fun hlt : w.evacPattern < 8 ∧ w.alarmPattern < 8 => by omega

theorem readSW5_none {w : Word5} (h : w.retention = none ∨
    ∃ c ∈ [w.reader, w.strike, w.doorHeld, w.line, w.clock], c.action = none) : readSW5 (clampWord5 w) = none := by
  unfold readSW5
  rcases h with h | ⟨c, hc, haction⟩
  · simp [clampWord5, h]
  · have hnone : readChoice (clampChoice c) = none := by simp [readChoice, clampChoice, haction]
    simp only [List.mem_cons, List.not_mem_nil, or_false] at hc
    rcases hc with rfl | rfl | rfl | rfl | rfl <;> simp [clampWord5, hnone]

/-- Settles O6: each word by what checks it and what clamps it. -/
theorem setWords : Obligations.SetWords := by
  refine ⟨fun s h => ⟨fun rate station weekday hs hw hc => ?_, fun w hc hbad => ?_, fun lanes => ?_, fun w hc hbad => ?_,
    fun a hc _ => ?_⟩, fun s h => ⟨fun w hc => ?_, fun w hc => ?_⟩, fun s h => ⟨fun w hc hbad => ?_, fun w he ha hc => ?_,
    fun w hc hbad => ?_, fun reader strike doorHeld line clock retention threshold => ?_⟩⟩
  · obtain ⟨t, hexec, honly, hflag, hcontrol, hdone⟩ := setWord_stored (c := .done)
      (put := fun k => { k with sw0 := some { station := ⟨station, hs⟩, weekday, rate } }) h hc
      fun x => by simp [State.setWord, State.storeWord, readSW0, hs, hw]
    exact ⟨t, hexec, hdone, honly, hflag, hcontrol⟩
  · exact setWord_refused h hc fun x => by rw [State.setWord, readSW0_none hbad]; rfl
  · intro codes word hc
    obtain ⟨t, hexec, honly, hflag, hcontrol, hdone⟩ := setWord_stored (c := .done)
      (put := fun k => { k with sw1 := some lanes }) h hc fun x => rfl
    exact ⟨t, hexec, hdone, honly, hflag, hcontrol⟩
  · exact setWord_refused h hc fun x => by rw [State.setWord, readSW1_none hbad]; rfl
  · exact setWord_refused h hc fun x => rfl
  · intro limits inRange good stored
    have hgood : w = clampWord2 w ↔ good := by
      simp only [clampWord2_eq_iff, clampLimits_eq_iff]; rfl
    exact setWord_clamped (put := fun k => { k with sw2 := some stored }) h hc hgood fun x => by
      simp [State.setWord, State.storeWord, storeSW2, clampWord2, clampLimits, clamp, stored, limits]
  · intro good stored
    exact setWord_clamped (put := fun k => { k with sw3 := some stored }) h hc (clampWord3_eq_iff w) fun x => by
      simp [State.setWord, State.storeWord, clampWord3, clamp, stored]
  · exact setWord_refused h hc fun x => by rw [State.setWord, readSW4_none hbad]; rfl
  · intro good stored
    exact setWord_clamped (put := fun k => { k with sw4 := some stored }) h hc (clampWord4_eq_iff w) fun x => by
      simp [State.setWord, State.storeWord, readSW4, clampWord4, clamp, stored, he, ha]
  · exact setWord_refused h hc fun x => by rw [State.setWord, readSW5_none hbad]; rfl
  · intro sent kept good stored word hc
    have hchoice (c : FaultSetting) : sent c = clampChoice (sent c) ↔ 1 ≤ c.filter ∧ c.filter ≤ 8 := by
      rw [← clamp_eq_iff (by decide)]; simp [sent, clampChoice]
    have hgood : word = clampWord5 word ↔ good := by
      simp only [word, good, clampWord5, Word5.mk.injEq, hchoice, List.forall_mem_cons, and_assoc, true_and]
      rw [← clamp_eq_iff (lo := 1) (hi := 64) (by decide)]
      simp
    exact setWord_clamped (put := fun k => { k with sw5 := some stored }) h hc hgood fun x => rfl

end

end Sys2Proof.Machine
end

section
/-! SUPPORT. LOAD CLASS, LOAD BELL, LOAD PATTERN and LOAD RULE (03 section 3.1, 05 section 5.1, 08 section 8.2). -/

namespace Sys2Proof.Machine

section
variable {s : State}

/-! ## LOAD CLASS -/

/-- A pair of minutes of day as LOAD CLASS stores it. -/
def storedPair : PairCode → Option (Nat × Nat)
  | .present x y => some (min 1439 x, min 1439 y)
  | _ => none

/-- A pair of minutes of day that LOAD CLASS stores as sent. -/
def pairInRange : PairCode → Prop
  | .present x y => x ≤ 1439 ∧ y ≤ 1439
  | _ => True

theorem clampPair_eq_iff (p : PairCode) : p = clampPair p ↔ pairInRange p := by
  cases p with
  | present x y =>
    simp only [clampPair, pairInRange, PairCode.present.injEq, clamp_zero]
    omega
  | absent => simp [clampPair, pairInRange]
  | undefined => simp [clampPair, pairInRange]

theorem readPair_clampPair {p : PairCode} (h : p ≠ .undefined) : readPair (clampPair p) = some (storedPair p) := by
  cases p with
  | undefined => exact absurd rfl h
  | absent => rfl
  | present x y => simp [readPair, clampPair, storedPair, clamp_zero]

theorem readClassBlock_none {c : ClassBlock}
    (h : c.hours = .undefined ∨ c.night = .undefined ∨ c.quantum ∉ [1, 5, 6, 10, 15, 30]) :
    readClassBlock (clampClass c) = none := by
  unfold readClassBlock
  rcases h with h | h | h
  · simp [clampClass, h, clampPair, readPair]
  · simp [clampClass, h, clampPair, readPair]
  · have hquantum : quanta.contains (clampClass c).quantum = false := by simpa [quanta, clampClass] using h
    rw [hquantum]
    split <;> rfl

/-- The class record that LOAD CLASS stores (R48, R49). -/
def storedClass (c : ClassBlock) : ShiftClass :=
  { hours := storedPair c.hours, lead := min 240 c.lead, graceIn := min 60 c.graceIn, graceLate := min 60 c.graceLate,
    graceOut := min 60 c.graceOut, quantum := c.quantum, breakAfter := min 720 c.breakAfter,
    breakMinutes := min 90 c.breakMinutes, t1 := min 1440 c.t1, t2 := max (min 1440 c.t1) (min 1440 c.t2),
    dayMax := max 60 (min 1440 c.dayMax), weekly := min 65535 c.weekly, night := storedPair c.night }

theorem readClassBlock_some {c : ClassBlock} (hh : c.hours ≠ .undefined) (hn : c.night ≠ .undefined)
    (hq : c.quantum ∈ [1, 5, 6, 10, 15, 30]) : readClassBlock (clampClass c) = some (storedClass c) := by
  have hquantum : quanta.contains c.quantum = true := by simpa [quanta] using hq
  simp only [readClassBlock, clampClass, readPair_clampPair hh, readPair_clampPair hn, hquantum, if_true, storedClass,
    clamp, Nat.zero_max]

theorem clampClass_eq_iff (c : ClassBlock) : c = clampClass c ↔
    pairInRange c.hours ∧ c.lead ≤ 240 ∧ c.graceIn ≤ 60 ∧ c.graceLate ≤ 60 ∧ c.graceOut ≤ 60 ∧ c.breakAfter ≤ 720 ∧
      c.breakMinutes ≤ 90 ∧ (c.t1 ≤ c.t2 ∧ c.t2 ≤ 1440) ∧ (60 ≤ c.dayMax ∧ c.dayMax ≤ 1440) ∧ c.weekly ≤ 65535 ∧
      pairInRange c.night := by
  rw [← clampPair_eq_iff, ← clampPair_eq_iff]
  have hle (hi x : Nat) : x = clamp 0 hi x ↔ x ≤ hi := by unfold clamp; omega
  have htier : (c.t1 ≤ 1440 ∧ c.t2 = clamp (clamp 0 1440 c.t1) 1440 c.t2) ↔ c.t1 ≤ c.t2 ∧ c.t2 ≤ 1440 := by
    unfold clamp; omega
  obtain ⟨hours, lead, graceIn, graceLate, graceOut, quantum, breakAfter, breakMinutes, t1, t2, dayMax, weekly, night⟩ := c
  simp only [clampClass, ClassBlock.mk.injEq, hle, ← htier, ← clamp_eq_iff (show 60 ≤ 1440 by decide), true_and, and_assoc]

/-- LOAD CLASS taken. -/
theorem exec_loadClass (h : s.inSetup) {a : BitVec 16} {c : ClassBlock} (hc : s.portTakes (.loadClass a c)) :
    ∃ r : Request, exec (.loadClass a c) s = .next
      (if a.toNat < 8 then
        match readClassBlock (clampClass c) with
        | none => (s.load r).answer .badValue
        | some k =>
          ((s.load r).modPay fun p => { p with classes := modAt (fun _ => k) a.toNat p.classes }).answer
            (takenResult c (clampClass c))
      else (s.load r).answer .badValue) :=
  ⟨_, congrArg Host.Outcome.next (State.command_inSetup h hc ..)⟩

/-- Settles O7. -/
theorem loadClass : Obligations.LoadClass := by
  intro a c s h hc pair pairGood bad good
  obtain ⟨r, hexec⟩ := exec_loadClass h hc
  refine ⟨fun hbad => ?_, fun hgood hsized => ?_⟩
  · refine ⟨_, hexec, ?_⟩
    split
    next ha =>
      rw [readClassBlock_none (hbad.resolve_left (by omega))]
      exact onlyAnswered_load ..
    next => exact onlyAnswered_load ..
  · obtain ⟨ha, hrest⟩ := not_or.1 hgood
    obtain ⟨hhours, hrest⟩ := not_or.1 hrest
    obtain ⟨hnight, hquantum⟩ := not_or.1 hrest
    have ha : a.toNat < 8 := by omega
    have hpair : pair = storedPair := by funext p; cases p <;> rfl
    have hrange : pairGood = pairInRange := by funext p; cases p <;> rfl
    have hiff : c = clampClass c ↔ good := by rw [clampClass_eq_iff, ← hrange]
    rw [if_pos ha, readClassBlock_some hhours hnight (not_not.1 hquantum)] at hexec
    obtain ⟨hclasses, -⟩ := hsized
    obtain ⟨hdone, hclamped⟩ := completed_taken (s := s) hiff (completed_answer (takenResult c (clampClass c))
      (u := (s.load r).modPay fun p => { p with classes := modAt (fun _ => storedClass c) a.toNat p.classes }) (by simp))
    have hpay := State.answer_modPay_load_pay s r
      (fun p => { p with classes := modAt (fun _ => storedClass c) a.toNat p.classes }) (takenResult c (clampClass c))
    refine ⟨_, hexec, State.answer_modPay_load_only .., by simp, hdone, hclamped, ?_, ?_, fun n => ?_⟩
    · rw [hpay]
    · rw [hpay]; exact (modAt_length ..).trans hclasses
    · rw [hpay, hpair]
      exact getD_modAt _ _ _ _ _ (by omega)

/-! ## LOAD BELL and LOAD PATTERN -/

theorem exec_loadBell (h : s.inSetup) {a : BitVec 16} {e : BellBlock} (hc : s.portTakes (.loadBell a e)) :
    ∃ r : Request, exec (.loadBell a e) s = .next
      (if h : a.toNat < 48 then
        match readBellBlock (clampBell e) with
        | none => (s.load r).answer .badValue
        | some k => ((s.load r).modBellEntry ⟨a.toNat, h⟩ fun _ => k).answer (takenResult e (clampBell e))
      else (s.load r).answer .badValue) :=
  ⟨_, congrArg Host.Outcome.next (State.command_inSetup h hc ..)⟩

theorem readBellBlock_none {e : BellBlock} (h : e.role = none ∨ 8 ≤ e.pattern) : readBellBlock (clampBell e) = none := by
  unfold readBellBlock
  split
  · rfl
  next hrole =>
    rcases h with h | h
    · simp [clampBell, h] at hrole
    · exact dif_neg (by simp only [clampBell]; omega)

theorem readBellBlock_some {e : BellBlock} {role : BellRole} (hr : e.role = some role) (hp : e.pattern < 8) :
    readBellBlock (clampBell e) = some
      { minute := min 1439 e.minute, second := min 59 e.second, mask := e.mask, pattern := ⟨e.pattern, hp⟩, role,
        mark := none } := by
  simp [readBellBlock, clampBell, hr, hp, clamp_zero]

theorem clampBell_eq_iff (e : BellBlock) : e = clampBell e ↔ e.minute ≤ 1439 ∧ e.second ≤ 59 := by
  have hle (hi x : Nat) : x = clamp 0 hi x ↔ x ≤ hi := by unfold clamp; omega
  cases e
  simp [clampBell, hle]

theorem clampPattern_eq_iff (p : PatternBlock) :
    p = clampPattern p ↔ (1 ≤ p.on ∧ p.on ≤ 160) ∧ p.on ≤ p.period ∧ p.period ≤ 320 := by
  have hrange : (p.on = clamp 1 160 p.on ∧ p.period = clamp (clamp 1 160 p.on) 320 p.period) ↔
      (1 ≤ p.on ∧ p.on ≤ 160) ∧ p.on ≤ p.period ∧ p.period ≤ 320 := by unfold clamp; omega
  rw [← hrange]
  cases p
  simp [clampPattern]

theorem State.answer_modBell_load_only (s : State) (r : Request) (f : BellUnit → BellUnit) (c : ResultCode) :
    let t := ((s.load r).modBell f).answer c
    t = { s with bell := t.bell, port := t.port } ∧ t.port.payFlag = s.port.payFlag ∧ t.bell = f s.bell ∧ Completed s t c := by
  refine ⟨?_, by simp, by simp, completed_answer c (by simp)⟩
  calc ((s.load r).modBell f).answer c = { (s.load r) with
        bell := (((s.load r).modBell f).answer c).bell, port := (((s.load r).modBell f).answer c).port } := rfl
    _ = _ := by rw [State.load_only]

/-- Settles O8. -/
theorem loadBells : Obligations.LoadBells := by
  refine ⟨fun a e s h hc => ?_, fun a p s h hc => ?_⟩
  · obtain ⟨r, hexec⟩ := exec_loadBell h hc
    refine ⟨fun hbad => ⟨_, hexec, ?_⟩, fun role hp ha hrole hsized => ?_⟩
    · split
      next ha =>
        rw [readBellBlock_none (hbad.resolve_left (by omega))]
        exact onlyAnswered_load ..
      next => exact onlyAnswered_load ..
    · rw [dif_pos ha, readBellBlock_some hrole hp] at hexec
      simp only [State.modBellEntry] at hexec
      obtain ⟨-, hentries, -⟩ := hsized
      obtain ⟨honly, hflag, hbell, hcompleted⟩ := State.answer_modBell_load_only s r
        (fun b => { b with entries := modAt (fun _ => _) a.toNat b.entries }) (takenResult e (clampBell e))
      obtain ⟨hdone, hclamped⟩ := completed_taken (clampBell_eq_iff e) hcompleted
      refine ⟨_, hexec, honly, hflag, hdone, hclamped, ?_, ?_, fun n => ?_⟩
      · rw [hbell]
      · rw [hbell]; exact (modAt_length ..).trans hentries
      · rw [State.bellEntry, hbell]
        exact getD_modAt _ _ _ _ _ (by omega)
  · intro on good
    have hexec : ∃ r : Request, exec (.loadPattern a p) s = .next
        (if a.toNat < 8 then
          ((s.load r).modBell fun b =>
            { b with
              patterns := modAt (fun _ => { on := (clampPattern p).on, period := (clampPattern p).period,
                                            repeats := p.repeats.toNat }) a.toNat b.patterns }).answer
            (takenResult p (clampPattern p))
        else (s.load r).answer .badValue) := ⟨_, congrArg Host.Outcome.next (State.command_inSetup h hc ..)⟩
    obtain ⟨r, hexec⟩ := hexec
    refine ⟨fun ha => ⟨_, hexec, ?_⟩, fun ha hsized => ?_⟩
    · rw [if_neg (by omega)]
      exact onlyAnswered_load ..
    · rw [if_pos ha] at hexec
      obtain ⟨-, -, hpatterns, -⟩ := hsized
      obtain ⟨honly, hflag, hbell, hcompleted⟩ := State.answer_modBell_load_only s r
        (fun b => { b with patterns := modAt (fun _ => _) a.toNat b.patterns }) (takenResult p (clampPattern p))
      obtain ⟨hdone, hclamped⟩ := completed_taken (clampPattern_eq_iff p) hcompleted
      refine ⟨_, hexec, honly, hflag, hdone, hclamped, ?_, ?_, fun n => ?_⟩
      · rw [hbell]
      · rw [hbell]; exact (modAt_length ..).trans hpatterns
      · rw [State.pattern, hbell]
        exact getD_modAt _ _ _ _ _ (by omega)

/-! ## LOAD RULE -/

theorem allDefined_none {α : Type} {xs : List (Option α)} (h : none ∈ xs) : allDefined xs = none := by
  induction xs with
  | nil => simp at h
  | cons x xs ih =>
    cases x with
    | none => rfl
    | some x => simp [allDefined, ih (by simpa using h)]

theorem allDefined_map {α : Type} (xs : List α) : allDefined (xs.map some) = some xs := by
  induction xs with
  | nil => rfl
  | cons x xs ih => simp [allDefined, ih]

theorem readCondition_none {c : ConditionBlock} (h : none ∈ c.kinds ∨ none ∈ c.lanes ∨ c.test = none) :
    readCondition c = none := by
  unfold readCondition
  rcases h with h | h | h
  · rw [allDefined_none h]
  · rw [allDefined_none h]; cases allDefined c.kinds <;> rfl
  · rw [h]; cases allDefined c.kinds <;> cases allDefined c.lanes <;> rfl

theorem readRuleBlock_none {r : RuleBlock} (h : r.combine = none ∨ r.action = none ∨
    ∃ c ∈ [r.a, r.b], none ∈ c.kinds ∨ none ∈ c.lanes ∨ c.test = none) : readRuleBlock (clampRule r) = none := by
  unfold readRuleBlock clampRule
  rcases h with h | h | ⟨c, hc, hbad⟩
  · simp [h]
  · simp [h]
  · have hnone := readCondition_none hbad
    simp only [List.mem_cons, List.not_mem_nil, or_false] at hc
    rcases hc with rfl | rfl <;> simp [hnone]

theorem RuleNo.ofNumber_none {n : Nat} (h : 4 ≤ n) : RuleNo.ofNumber n = none := by
  obtain ⟨k, rfl⟩ := Nat.exists_eq_add_of_le' h
  rfl

theorem RuleNo.ofNumber_number (r : RuleNo) : RuleNo.ofNumber r.number = some r := by cases r <;> rfl

theorem exec_loadRule (h : s.inSetup) {a : BitVec 16} {b : RuleBlock} (hc : s.portTakes (.loadRule a b)) :
    ∃ r : Request, exec (.loadRule a b) s = .next
      (match RuleNo.ofNumber a.toNat, readRuleBlock (clampRule b) with
      | some n, some k => ((s.load r).modRule n fun _ => k).answer (takenResult b (clampRule b))
      | _, _ => (s.load r).answer .badValue) :=
  ⟨_, congrArg Host.Outcome.next (State.command_inSetup h hc ..)⟩

theorem clampRule_eq_iff (r : RuleBlock) :
    r = clampRule r ↔ (1 ≤ r.window ∧ r.window ≤ 3600) ∧ 1 ≤ r.count ∧ r.count ≤ 255 := by
  rw [← clamp_eq_iff (by decide), ← clamp_eq_iff (by decide)]
  cases r
  simp [clampRule]

/-- Settles O9. -/
theorem loadRule : Obligations.LoadRule := by
  intro a s h
  refine ⟨fun b hc hbad => ?_, ?_⟩
  · obtain ⟨r, hexec⟩ := exec_loadRule h hc
    refine ⟨_, hexec, ?_⟩
    rcases hbad with hnumber | hbad
    · rw [RuleNo.ofNumber_none hnumber]
      exact onlyAnswered_load ..
    · rw [readRuleBlock_none hbad]
      cases RuleNo.ofNumber a.toNat <;> exact onlyAnswered_load ..
  · intro n kindsA kindsB lanesA lanesB testA testB limitA limitB combine window count same action hn good block hc stored
    obtain ⟨r, hexec⟩ := exec_loadRule h hc
    have hread : readRuleBlock (clampRule block) = some stored := by
      simp [readRuleBlock, clampRule, block, readCondition, allDefined_map, stored, clamp]
    rw [hn, RuleNo.ofNumber_number, hread] at hexec
    obtain ⟨hdone, hclamped⟩ := completed_taken (s := s) (clampRule_eq_iff block)
      (completed_answer (takenResult block (clampRule block)) (u := (s.load r).modRule n fun _ => stored) (by simp [State.modRule]))
    refine ⟨_, hexec, ?_, by simp [State.modRule], hdone, hclamped, by simp [State.modRule]⟩
    calc ((s.load r).modRule n fun _ => stored).answer (takenResult block (clampRule block)) = { (s.load r) with
          watch := (((s.load r).modRule n fun _ => stored).answer (takenResult block (clampRule block))).watch
          port := (((s.load r).modRule n fun _ => stored).answer (takenResult block (clampRule block))).port } := rfl
      _ = _ := by rw [State.load_only]

end

end Sys2Proof.Machine
end

section
/-! SUPPORT. The fields of the blocks of R206 and R207, as their bytes are read back from the mailbox, and the commands that
return a record. -/

namespace Sys2Proof.Machine

/-! ## Numbers in bytes -/

theorem byteOf_toNat {n : Nat} (h : n < 256) : (byteOf n).toNat = n := by
  simp [byteOf, BitVec.toNat_ofNat, Nat.mod_eq_of_lt h]

theorem leNat_leBytes (k n : Nat) : leNat (leBytes k n) = n % 256 ^ k := by
  induction k generalizing n with
  | zero => simp [leBytes, leNat, Nat.mod_one]
  | succ k ih =>
    have hbyte : (BitVec.ofNat 8 n).toNat = n % 256 := by simp
    rw [leBytes, leNat, ih, hbyte, Nat.pow_succ', Nat.mod_mul]

theorem leNat_leBytes_of_lt {k n : Nat} (h : n < 256 ^ k) : leNat (leBytes k n) = n := by
  rw [leNat_leBytes, Nat.mod_eq_of_lt h]

theorem leNat_leBytes_bv (x : BitVec 16) : leNat (leBytes 2 x.toNat) = x.toNat := leNat_leBytes_of_lt x.isLt

theorem bit_le (b : Bool) : bit b ≤ 1 := by cases b <;> decide

theorem bit_eq (b : Bool) : bit b = if b then 1 else 0 := rfl

theorem Lane.number_lt (l : Lane) : l.number < 256 := by cases l <;> decide
theorem RuleNo.number_lt (r : RuleNo) : r.number < 256 := by cases r <;> decide
theorem eventCode_lt (k : EventKind) : eventCode k < 256 := by cases k <;> decide
theorem Reason.code_lt (r : Reason) : r.code < 256 := by cases r <;> decide
theorem IncidentKind.code_lt (k : IncidentKind) : k.code < 256 := by cases k <;> decide

/-! ## The gate trace entry (R207) -/

section
variable (u : Nat → Byte) (x : TraceEntry) (next : BitVec 16)

theorem traceBlock_fields :
    (fillBlock (traceBlock u x next)).take 2 = leBytes 2 x.number.toNat ∧
    (fillBlock (traceBlock u x next)).getD 2 0 = byteOf x.lane.number ∧
    (fillBlock (traceBlock u x next)).getD 3 0 = byteOf (eventCode x.outcome) ∧
    (fillBlock (traceBlock u x next)).getD 4 0 = (match x.reason with | some r => byteOf r.code | none => 0) ∧
    (fillBlock (traceBlock u x next)).getD 5 0 = byteOf (bit x.badge.isSome + 2 * bit x.unused) ∧
    ((fillBlock (traceBlock u x next)).drop 8).take 4 = leBytes 4 x.time := ⟨rfl, rfl, rfl, rfl, rfl, rfl⟩

theorem traceBlock_badge {n : Nat} (h : x.badge = some n) :
    ((fillBlock (traceBlock u x next)).drop 12).take 3 = leBytes 3 n := by
  unfold traceBlock; rw [h]; rfl

theorem traceBlock_next : ((fillBlock (traceBlock u x next)).drop 16).take 2 = leBytes 2 next.toNat := by
  unfold traceBlock
  cases x.badge <;> rfl

end

/-! ## The incident (R207) -/

section
variable (u : Nat → Byte) (i : Incident) (left lost : Nat)

theorem incidentBlock_fields :
    (fillBlock (incidentBlock u i left lost)).getD 0 0 = byteOf i.kind.code ∧
    (fillBlock (incidentBlock u i left lost)).getD 1 0 =
      byteOf (bit i.lane.isSome + 2 * bit i.badge.isSome + 4 * bit i.rule.isSome + 8 * bit i.peer.isSome +
        16 * bit i.detail.isSome) := ⟨rfl, rfl⟩

theorem incidentBlock_counts :
    (fillBlock (incidentBlock u i left lost)).getD 5 0 = byteOf left ∧
    (fillBlock (incidentBlock u i left lost)).getD 6 0 = byteOf lost ∧
    ((fillBlock (incidentBlock u i left lost)).drop 8).take 4 = leBytes 4 i.time := by
  unfold incidentBlock
  cases i.lane <;> cases i.rule <;> cases i.peer <;> exact ⟨rfl, rfl, rfl⟩

theorem incidentBlock_lane {l : Lane} (h : i.lane = some l) :
    (fillBlock (incidentBlock u i left lost)).getD 2 0 = byteOf l.number := by
  unfold incidentBlock; rw [h]; rfl

theorem incidentBlock_rule {r : RuleNo} (h : i.rule = some r) :
    (fillBlock (incidentBlock u i left lost)).getD 3 0 = byteOf r.number := by
  unfold incidentBlock; rw [h]; cases i.lane <;> rfl

theorem incidentBlock_peer {p : Station} (h : i.peer = some p) :
    (fillBlock (incidentBlock u i left lost)).getD 4 0 = byteOf p.val := by
  unfold incidentBlock; rw [h]; cases i.lane <;> cases i.rule <;> rfl

theorem incidentBlock_badge {n : Nat} (h : i.badge = some n) :
    ((fillBlock (incidentBlock u i left lost)).drop 12).take 3 = leBytes 3 n := by
  unfold incidentBlock; rw [h]; cases i.lane <;> cases i.rule <;> cases i.peer <;> rfl

theorem incidentBlock_detail {d : Int} (h : i.detail = some d) :
    ((fillBlock (incidentBlock u i left lost)).drop 16).take 4 = leSigned 4 d := by
  unfold incidentBlock; rw [h]; cases i.lane <;> cases i.rule <;> cases i.peer <;> cases i.badge <;> rfl

end

/-- A signed number of four bytes is read back (R203). -/
theorem toInt_leSigned {d : Int} (hlo : -2147483648 ≤ d) (hhi : d ≤ 2147483647) :
    (BitVec.ofNat 32 (leNat (leSigned 4 d))).toInt = d := by
  have hbytes : leNat (leSigned 4 d) = (BitVec.ofInt 32 d).toNat := leNat_leBytes_of_lt (BitVec.ofInt 32 d).isLt
  rw [hbytes, BitVec.ofNat_toNat, BitVec.setWidth_eq, BitVec.toInt_ofInt]
  have : ((2 ^ 32 : Nat) : Int) = 4294967296 := by norm_num
  rw [Int.bmod_eq_of_le] <;> omega

/-- The EMPTY block of INCIDENT TAKE: the lost count in its byte, every other byte zero (R207). -/
theorem lostBlock_fields (n : Nat) :
    (fillBlock (List.replicate 6 0 ++ [byteOf n])).getD 6 0 = byteOf n ∧
    ∀ k, k ≠ 6 → (fillBlock (List.replicate 6 0 ++ [byteOf n])).getD k 0 = 0 := by
  refine ⟨rfl, fun k hk => ?_⟩
  have hbytes : fillBlock (List.replicate 6 0 ++ [byteOf n]) = (List.replicate 64 (0 : Byte)).set 6 (byteOf n) := rfl
  rw [hbytes, List.getD_eq_getElem?_getD, List.getElem?_set_ne (Ne.symm hk), List.getElem?_getD_replicate_default_eq]

section
variable {s : State}

theorem State.answerData_modWatch_load (s : State) (r : Request) (f : WatchUnit → WatchUnit) (c : ResultCode)
    (bytes : List Byte) :
    let t := ((s.load r).modWatch f).answerData c bytes
    t = { s with watch := t.watch, port := t.port } ∧ t.port.payFlag = s.port.payFlag ∧ t.watch = f s.watch ∧
      t.port.data = fillBlock bytes ∧ Completed s t c := by
  refine ⟨?_, by simp, by simp, rfl, completed_answerData c bytes (by simp)⟩
  calc ((s.load r).modWatch f).answerData c bytes = { (s.load r) with
        watch := (((s.load r).modWatch f).answerData c bytes).watch
        port := (((s.load r).modWatch f).answerData c bytes).port } := rfl
    _ = _ := by rw [State.load_only]

theorem State.answer_modWatch_load (s : State) (r : Request) (f : WatchUnit → WatchUnit) (c : ResultCode) :
    let t := ((s.load r).modWatch f).answer c
    t = { s with watch := t.watch, port := t.port } ∧ t.port.payFlag = s.port.payFlag ∧ t.watch = f s.watch ∧
      Completed s t c := by
  refine ⟨?_, by simp, by simp, completed_answer c (by simp)⟩
  calc ((s.load r).modWatch f).answer c = { (s.load r) with
        watch := (((s.load r).modWatch f).answer c).watch, port := (((s.load r).modWatch f).answer c).port } := rfl
    _ = _ := by rw [State.load_only]

theorem State.load_watch (s : State) (r : Request) : (s.load r).watch = s.watch := by simp

/-! ## TRACE MARK, TRACE READ and INCIDENT TAKE -/

theorem exec_traceMark (h : s.served) (hc : s.portTakes .traceMark) :
    exec .traceMark s =
      .next (((s.load { code := 0x40 }).modWatch fun w => { w with readPtr := w.oldest }).answer .done) :=
  congrArg Host.Outcome.next (s.command_taken _ _ .served _ h.1 hc h.2)

theorem exec_traceRead (h : s.served) (hc : s.portTakes .traceRead) :
    ∃ u, exec .traceRead s = .next
      (match s.watch.trace.getD s.watch.readPtr none with
      | some e => ((s.load { code := 0x41 }).modWatch fun w => { w with readPtr := (w.readPtr + 1) % traceLength }).answerData
          .done (traceBlock u e s.watch.nextEvent)
      | none => ((s.load { code := 0x41 }).modWatch fun w => { w with readPtr := (w.readPtr + 1) % traceLength }).answerData
          .empty (List.replicate 16 0 ++ leBytes 2 s.watch.nextEvent.toNat)) := by
  refine ⟨(s.load { code := 0x41 }).freeBytes,
    congrArg Host.Outcome.next ((s.command_taken _ _ .served _ h.1 hc h.2).trans ?_)⟩
  rw [State.load_watch] <;> rfl

theorem exec_incidentTake (h : s.served) (hc : s.portTakes .incidentTake) :
    ∃ u, exec .incidentTake s = .next
      (match s.watch.incidents with
      | i :: rest => ((s.load { code := 0x42 }).modWatch fun w =>
          { w with incidents := rest, lost := if rest.isEmpty then 0 else w.lost }).answerData .done
          (incidentBlock u i rest.length s.watch.lost)
      | [] => ((s.load { code := 0x42 }).modWatch fun w => { w with lost := 0 }).answerData .empty
          (List.replicate 6 0 ++ [byteOf s.watch.lost])) := by
  refine ⟨(s.load { code := 0x42 }).freeBytes,
    congrArg Host.Outcome.next ((s.command_taken _ _ .served _ h.1 hc h.2).trans ?_)⟩
  rw [State.load_watch] <;> rfl

theorem traceRead_spec (h : s.served) (hc : s.portTakes .traceRead) :
    ∃ t, exec .traceRead s = .next t ∧ t = { s with watch := t.watch, port := t.port } ∧
      t.port.payFlag = s.port.payFlag ∧ t.watch = { s.watch with readPtr := (s.watch.readPtr + 1) % 32 } ∧
      leNat ((t.port.data.drop 16).take 2) = s.watch.nextEvent.toNat ∧
      (s.watch.trace.getD s.watch.readPtr none = none →
        Completed s t .empty ∧ t.port.data.take 16 = List.replicate 16 0) ∧
      ∀ e, s.watch.trace.getD s.watch.readPtr none = some e →
        Completed s t .done ∧ leNat (t.port.data.take 2) = e.number.toNat ∧
        (t.port.data.getD 2 0).toNat = e.lane.number ∧ (t.port.data.getD 3 0).toNat = eventCode e.outcome ∧
        (t.port.data.getD 4 0).toNat = (match e.reason with | some r => r.code | none => 0) ∧
        (t.port.data.getD 5 0).toNat = (if e.badge.isSome then 1 else 0) + (if e.unused then 2 else 0) ∧
        (e.time < 4294967296 → leNat ((t.port.data.drop 8).take 4) = e.time) ∧
        ∀ n, e.badge = some n → n < 16777216 → leNat ((t.port.data.drop 12).take 3) = n := by
  obtain ⟨u, hexec⟩ := exec_traceRead h hc
  cases hentry : s.watch.trace.getD s.watch.readPtr none with
  | none =>
    rw [hentry] at hexec
    obtain ⟨honly, hflag, hwatch, hdata, hcompleted⟩ := s.answerData_modWatch_load { code := 0x41 }
      (fun w => { w with readPtr := (w.readPtr + 1) % traceLength }) .empty
      (List.replicate 16 0 ++ leBytes 2 s.watch.nextEvent.toNat)
    refine ⟨_, hexec, honly, hflag, hwatch, ?_, fun _ => ⟨hcompleted, ?_⟩, nofun⟩
    · rw [hdata]
      exact leNat_leBytes_bv s.watch.nextEvent
    · rw [hdata]
      rfl
  | some e =>
    rw [hentry] at hexec
    obtain ⟨honly, hflag, hwatch, hdata, hcompleted⟩ := s.answerData_modWatch_load { code := 0x41 }
      (fun w => { w with readPtr := (w.readPtr + 1) % traceLength }) .done (traceBlock u e s.watch.nextEvent)
    obtain ⟨hnumber, hlane, houtcome, hreason, hmarks, htime⟩ := traceBlock_fields u e s.watch.nextEvent
    refine ⟨_, hexec, honly, hflag, hwatch, ?_, nofun, fun e' he => ?_⟩
    · rw [hdata, traceBlock_next, leNat_leBytes_bv]
    · cases he
      rw [hdata, hnumber, hlane, houtcome, hreason, hmarks, htime]
      refine ⟨hcompleted, leNat_leBytes_bv _, byteOf_toNat (Lane.number_lt e.lane), byteOf_toNat (eventCode_lt _), ?_, ?_,
        fun ht => leNat_leBytes_of_lt ht, fun n hn hlt => ?_⟩
      · cases e.reason with
        | none => rfl
        | some r => exact byteOf_toNat r.code_lt
      · rw [byteOf_toNat (by have := bit_le e.badge.isSome; have := bit_le e.unused; omega), bit_eq, bit_eq]
        cases e.unused <;> rfl
      · rw [traceBlock_badge u e _ hn, leNat_leBytes_of_lt hlt]

theorem incidentTake_spec (h : s.served) (hc : s.portTakes .incidentTake) (i : Incident) (rest : List Incident)
    (hi : s.watch.incidents = i :: rest) :
    ∃ t, exec .incidentTake s = .next t ∧ Completed s t .done ∧ t = { s with watch := t.watch, port := t.port } ∧
      t.port.payFlag = s.port.payFlag ∧
      t.watch = { s.watch with incidents := rest, lost := if rest = [] then 0 else s.watch.lost } ∧
      (t.port.data.getD 0 0).toNat = i.kind.code ∧
      (t.port.data.getD 1 0).toNat = (if i.lane.isSome then 1 else 0) + (if i.badge.isSome then 2 else 0) +
        (if i.rule.isSome then 4 else 0) + (if i.peer.isSome then 8 else 0) + (if i.detail.isSome then 16 else 0) ∧
      (∀ l, i.lane = some l → (t.port.data.getD 2 0).toNat = l.number) ∧
      (∀ r, i.rule = some r → (t.port.data.getD 3 0).toNat = r.number) ∧
      (∀ p : Station, i.peer = some p → (t.port.data.getD 4 0).toNat = p.val) ∧
      (rest.length < 256 → (t.port.data.getD 5 0).toNat = rest.length) ∧
      (s.watch.lost < 256 → (t.port.data.getD 6 0).toNat = s.watch.lost) ∧
      (i.time < 4294967296 → leNat ((t.port.data.drop 8).take 4) = i.time) ∧
      (∀ n, i.badge = some n → n < 16777216 → leNat ((t.port.data.drop 12).take 3) = n) ∧
      ∀ d : Int, i.detail = some d → -2147483648 ≤ d → d ≤ 2147483647 →
        (BitVec.ofNat 32 (leNat ((t.port.data.drop 16).take 4))).toInt = d := by
  obtain ⟨u, hexec⟩ := exec_incidentTake h hc
  rw [hi] at hexec
  obtain ⟨honly, hflag, hwatch, hdata, hcompleted⟩ := s.answerData_modWatch_load { code := 0x42 }
    (fun w => { w with incidents := rest, lost := if rest.isEmpty then 0 else w.lost }) .done
    (incidentBlock u i rest.length s.watch.lost)
  obtain ⟨hkind, hmarks⟩ := incidentBlock_fields u i rest.length s.watch.lost
  obtain ⟨hleft, hlost, htime⟩ := incidentBlock_counts u i rest.length s.watch.lost
  refine ⟨_, hexec, hcompleted, honly, hflag, hwatch.trans (by simp), ?_⟩
  rw [hdata, hkind, hmarks, hleft, hlost, htime]
  refine ⟨byteOf_toNat i.kind.code_lt, ?_, fun l hl => ?_, fun r hr => ?_, fun p hp => ?_, byteOf_toNat, byteOf_toNat,
    fun ht => leNat_leBytes_of_lt ht, fun n hn hlt => ?_, fun d hd hlo hhi => ?_⟩
  · rw [byteOf_toNat]
    · cases i.lane <;> cases i.badge <;> cases i.rule <;> cases i.peer <;> cases i.detail <;> rfl
    · have := bit_le i.lane.isSome
      have := bit_le i.badge.isSome
      have := bit_le i.rule.isSome
      have := bit_le i.peer.isSome
      have := bit_le i.detail.isSome
      omega
  · rw [incidentBlock_lane u i _ _ hl, byteOf_toNat (Lane.number_lt l)]
  · rw [incidentBlock_rule u i _ _ hr, byteOf_toNat (RuleNo.number_lt r)]
  · rw [incidentBlock_peer u i _ _ hp, byteOf_toNat (by omega)]
  · rw [incidentBlock_badge u i _ _ hn, leNat_leBytes_of_lt hlt]
  · rw [incidentBlock_detail u i _ _ hd, toInt_leSigned hlo hhi]

/-- Settles O17. -/
theorem recordReads : Obligations.RecordReads := by
  refine ⟨fun s h => ⟨fun hc => ?_, traceRead_spec h⟩, fun s h hc => ⟨fun hnone => ?_, incidentTake_spec h hc⟩⟩
  · obtain ⟨honly, hflag, hwatch, hcompleted⟩ := s.answer_modWatch_load { code := 0x40 }
      (fun w => { w with readPtr := w.oldest }) .done
    exact ⟨_, exec_traceMark h hc, hcompleted, honly, hflag, hwatch⟩
  · obtain ⟨u, hexec⟩ := exec_incidentTake h hc
    rw [hnone] at hexec
    obtain ⟨honly, hflag, hwatch, hdata, hcompleted⟩ := s.answerData_modWatch_load { code := 0x42 }
      (fun w => { w with lost := 0 }) .empty (List.replicate 6 0 ++ [byteOf s.watch.lost])
    obtain ⟨hlost, hzero⟩ := lostBlock_fields s.watch.lost
    refine ⟨_, hexec, hcompleted, honly, hflag, hwatch, fun hlt => ?_, fun k hk => ?_⟩
    · rw [hdata, hlost, byteOf_toNat hlt]
    · rw [hdata, hzero k hk]

end

end Sys2Proof.Machine
end

section
/-! SUPPORT. The commands that read the badge table, the pay records and the status, and those that arm a rule. -/

namespace Sys2Proof.Machine

/-! ## Blocks with a tail of zeros -/

theorem fillBlock_zero {bytes : List Byte} {k : Nat} (h : bytes.length ≤ k) : (fillBlock bytes).getD k 0 = 0 := by
  rw [List.getD_eq_getElem?_getD, fillBlock, List.getElem?_take]
  split
  · rw [List.getElem?_append_right h, List.getElem?_getD_replicate_default_eq]
  · rfl

section
variable (u : Nat → Byte) (e : BadgeEntry)

theorem badgeBlock_fields :
    (fillBlock (badgeBlock u e)).take 3 = leBytes 3 e.number ∧
    (fillBlock (badgeBlock u e)).getD 4 0 = byteOf e.cls.val ∧
    (fillBlock (badgeBlock u e)).getD 5 0 = byteOf (statusCode e.status) ∧
    (fillBlock (badgeBlock u e)).getD 6 0 = byteOf (modeCode e.mode) ∧
    (fillBlock (badgeBlock u e)).getD 7 0 = byteOf e.home.val ∧
    ((fillBlock (badgeBlock u e)).drop 8).take 2 = leBytes 2 (e.expiry.getD 0) ∧
    (fillBlock (badgeBlock u e)).getD 10 0 = byteOf (bit e.expiry.isSome) ∧
    (fillBlock (badgeBlock u e)).getD 11 0 = byteOf (bit e.paySlot.isSome) ∧
    (fillBlock (badgeBlock u e)).getD 12 0 = byteOf (presenceCode e.presence.state) ∧
    (fillBlock (badgeBlock u e)).getD 13 0 = (match e.presence.source with | some p => byteOf p.val | none => 0xFF) ∧
    ((fillBlock (badgeBlock u e)).drop 16).take 4 = leBytes 4 e.presence.time :=
  ⟨rfl, rfl, rfl, rfl, rfl, rfl, rfl, rfl, rfl, rfl, rfl⟩

end

section
variable (u : Nat → Byte) (d : DaySlot) (rest : List Byte)

/-- The fields of the slot block, whatever bytes follow it (R206). -/
theorem slotBlock_fields :
    (fillBlock (slotBlock u d ++ rest)).take 2 = leBytes 2 d.day ∧
    ((fillBlock (slotBlock u d ++ rest)).drop 2).take 2 = leBytes 2 d.regular ∧
    ((fillBlock (slotBlock u d ++ rest)).drop 4).take 2 = leBytes 2 d.ot1 ∧
    ((fillBlock (slotBlock u d ++ rest)).drop 6).take 2 = leBytes 2 d.ot2 ∧
    ((fillBlock (slotBlock u d ++ rest)).drop 8).take 2 = leBytes 2 d.night ∧
    ((fillBlock (slotBlock u d ++ rest)).drop 10).take 2 = leBytes 2 d.clamped ∧
    (fillBlock (slotBlock u d ++ rest)).getD 12 0 = byteOf d.intervals ∧
    (fillBlock (slotBlock u d ++ rest)).getD 13 0 = byteOf (bit d.breakMark + 2 * bit d.lastOut.isSome) :=
  ⟨rfl, rfl, rfl, rfl, rfl, rfl, rfl, rfl⟩

theorem slotBlock_flags : ((fillBlock (slotBlock u d ++ rest)).drop 18).take 2 = leBytes 2 d.flags.toNat := by
  unfold slotBlock; cases d.lastOut <;> rfl

theorem slotBlock_noOut (h : d.lastOut = none) :
    (fillBlock (slotBlock u d ++ rest)).getD 14 0 = 0 ∧
    ((fillBlock (slotBlock u d ++ rest)).drop 16).take 2 = [0, 0] := by
  unfold slotBlock; rw [h]; exact ⟨rfl, rfl⟩

theorem slotBlock_lastOut {o : Int} {c : Fin 8} (h : d.lastOut = some (o, c)) :
    (fillBlock (slotBlock u d ++ rest)).getD 14 0 = byteOf c.val ∧
    ((fillBlock (slotBlock u d ++ rest)).drop 16).take 2 = leSigned 2 o := by
  unfold slotBlock; rw [h]; exact ⟨rfl, rfl⟩

theorem slotBlock_length : (slotBlock u d).length = 20 := by
  unfold slotBlock; cases d.lastOut <;> rfl

end

/-! ## The open block of the CURRENT part (R206) -/

section
variable (u : Nat → Byte) (d : DaySlot) (r : PayRecord)

theorem openBlock_marks :
    (fillBlock (slotBlock u d ++ openBlock r)).getD 20 0 =
      byteOf (bit r.openIn.isSome + 2 * (match r.openIn with | some i => bit i.flagged | none => 0) +
        4 * bit r.orphan.isSome) := by
  unfold slotBlock; cases d.lastOut <;> rfl

theorem openBlock_openIn {i : OpenIn} (h : r.openIn = some i) :
    (fillBlock (slotBlock u d ++ openBlock r)).getD 21 0 = byteOf i.cls.val ∧
    (fillBlock (slotBlock u d ++ openBlock r)).getD 22 0 = byteOf i.source.val ∧
    (fillBlock (slotBlock u d ++ openBlock r)).getD 23 0 = i.era ∧
    ((fillBlock (slotBlock u d ++ openBlock r)).drop 24).take 4 = leBytes 4 i.time ∧
    ((fillBlock (slotBlock u d ++ openBlock r)).drop 28).take 2 = leBytes 2 i.day := by
  unfold slotBlock openBlock; rw [h]; cases d.lastOut <;> exact ⟨rfl, rfl, rfl, rfl, rfl⟩

theorem openBlock_noOpenIn (h : r.openIn = none) :
    ((fillBlock (slotBlock u d ++ openBlock r)).drop 21).take 9 = List.replicate 9 0 := by
  unfold slotBlock openBlock; rw [h]; cases d.lastOut <;> rfl

theorem openBlock_orphan {o : Orphan} (h : r.orphan = some o) :
    (fillBlock (slotBlock u d ++ openBlock r)).getD 30 0 = o.era ∧
    (fillBlock (slotBlock u d ++ openBlock r)).getD 31 0 = byteOf o.source.val ∧
    ((fillBlock (slotBlock u d ++ openBlock r)).drop 32).take 4 = leBytes 4 o.time := by
  unfold slotBlock openBlock; rw [h]; cases d.lastOut <;> cases r.openIn <;> exact ⟨rfl, rfl, rfl⟩

theorem openBlock_noOrphan (h : r.orphan = none) :
    ((fillBlock (slotBlock u d ++ openBlock r)).drop 30).take 6 = List.replicate 6 0 := by
  unfold slotBlock openBlock; rw [h]; cases d.lastOut <;> cases r.openIn <;> rfl

theorem openBlock_length : (openBlock r).length = 16 := by
  unfold openBlock; cases r.openIn <;> cases r.orphan <;> rfl

end

theorem periodBlock_fields (p : Period) :
    (fillBlock (periodBlock p)).take 2 = leBytes 2 p.regular ∧
    ((fillBlock (periodBlock p)).drop 2).take 2 = leBytes 2 p.ot1 ∧
    ((fillBlock (periodBlock p)).drop 4).take 2 = leBytes 2 p.ot2 ∧
    ((fillBlock (periodBlock p)).drop 6).take 2 = leBytes 2 p.night ∧
    (fillBlock (periodBlock p)).getD 8 0 = byteOf p.days ∧
    (fillBlock (periodBlock p)).getD 9 0 = byteOf (bit p.saturated) ∧
    ((fillBlock (periodBlock p)).drop 10).take 2 = leBytes 2 p.flags.toNat := ⟨rfl, rfl, rfl, rfl, rfl, rfl, rfl⟩

/-- A byte of a run of zeros in a block. -/
theorem getD_of_zeros {bytes : List Byte} {n m : Nat} (h : (bytes.drop n).take m = List.replicate m 0) {k : Nat} (hlo : n ≤ k)
    (hhi : k < n + m) : bytes.getD k 0 = 0 := by
  have hk : ((bytes.drop n).take m)[k - n]? = bytes[k]? := by
    rw [List.getElem?_take, if_pos (by omega), List.getElem?_drop, Nat.add_sub_cancel' hlo]
  rw [List.getD_eq_getElem?_getD, ← hk, h, List.getElem?_getD_replicate_default_eq]

theorem byteOf_mod (n : Nat) : (byteOf n).toNat = n % 256 := by simp [byteOf]

/-- A signed number of two bytes is read back (R203). -/
theorem toInt_leSigned_two {d : Int} (hlo : -32768 ≤ d) (hhi : d ≤ 32767) :
    (BitVec.ofNat 16 (leNat (leSigned 2 d))).toInt = d := by
  have hbytes : leNat (leSigned 2 d) = (BitVec.ofInt 16 d).toNat := leNat_leBytes_of_lt (BitVec.ofInt 16 d).isLt
  rw [hbytes, BitVec.ofNat_toNat, BitVec.setWidth_eq, BitVec.toInt_ofInt]
  have : ((2 ^ 16 : Nat) : Int) = 65536 := by norm_num
  rw [Int.bmod_eq_of_le] <;> omega

section
variable {s : State}

/-- A command that returns a block and changes nothing else. -/
theorem onlyAnswered_loadData (s : State) (r : Request) (c : ResultCode) (bytes : List Byte) :
    OnlyAnswered s ((s.load r).answerData c bytes) c :=
  ⟨by rw [State.answerData_only, State.load_only], by simp, completed_answerData c bytes (by simp)⟩

/-- A command that returns fields and changes nothing else. -/
theorem onlyAnswered_loadReply (s : State) (r : Request) (c : ResultCode) (x : Reply) :
    OnlyAnswered s ((s.load r).answerReply c x) c :=
  ⟨by rw [State.answerReply_only, State.load_only], by simp, completed_answerReply c x (by simp)⟩

theorem State.load_badges (s : State) (r : Request) : (s.load r).badges = s.badges := by simp
theorem State.load_pay (s : State) (r : Request) : (s.load r).pay = s.pay := by simp
theorem State.load_lookup (s : State) (r : Request) (n : Nat) : (s.load r).lookup n = s.lookup n := by
  rw [State.lookup, State.load_badges]; rfl

/-! ## BADGE READ -/

theorem exec_badgeRead (h : s.served) {a : BitVec 16} {badge : BitVec 24} (hc : s.portTakes (.badgeRead a badge)) :
    ∃ r, exec (.badgeRead a badge) s = .next
      (if a = 0 ∧ isBadge badge.toNat = true then (s.load r).answerEntry (s.lookup badge.toNat)
      else if a = 1 ∧ (badge = 0 ∨ isBadge badge.toNat = true) then (s.load r).answerEntry (s.nextEntry badge.toNat)
      else (s.load r).answer .badValue) := by
  refine ⟨{ code := 0x22, a := some a, data := leBytes 3 badge.toNat },
    congrArg Host.Outcome.next ((s.command_taken _ _ .served _ h.1 hc h.2).trans ?_)⟩
  rw [State.load_lookup, State.nextEntry, State.load_badges, State.nextEntry]

theorem isBadge_iff (n : Nat) : isBadge n = true ↔ 1 ≤ n ∧ n ≤ 16777214 := decide_eq_true_iff

/-- The entry found: the one of the number, or the first one beyond it. -/
def Found (s : State) (a : BitVec 16) (n : Nat) (e : BadgeEntry) : Prop :=
  e ∈ s.badges.entries ∧ (a = 0 → e.number = n) ∧
    (a = 1 → n < e.number ∧ ∀ x ∈ s.badges.entries, n < x.number → e.number ≤ x.number)

/-- Entries of one number in a table in ascending order are one entry. -/
theorem eq_of_number {xs : List BadgeEntry} (h : (xs.map BadgeEntry.number).Pairwise (· < ·)) {x y : BadgeEntry} (hx : x ∈ xs)
    (hy : y ∈ xs) (hxy : x.number = y.number) : x = y := by
  have hnodup : (xs.map BadgeEntry.number).Nodup := h.imp fun hlt => Nat.ne_of_lt hlt
  exact List.inj_on_of_nodup_map hnodup hx hy hxy

theorem lookup_eq_some_iff (h : TableOrdered s) (n : Nat) (e : BadgeEntry) :
    s.lookup n = some e ↔ e ∈ s.badges.entries ∧ e.number = n := by
  constructor
  · intro hfind
    exact ⟨List.mem_of_find?_eq_some hfind, by simpa using List.find?_some hfind⟩
  · rintro ⟨hmem, hn⟩
    obtain ⟨x, hx⟩ := Option.isSome_iff_exists.1 (List.find?_isSome (p := fun e => decide (e.number = n)).2
      ⟨e, hmem, by simpa using hn⟩)
    have hxn : x.number = n := by simpa using List.find?_some hx
    rw [State.lookup, hx, eq_of_number h.2.1 (List.mem_of_find?_eq_some hx) hmem (hxn.trans hn.symm)]

theorem nextEntry_eq_some_iff (h : TableOrdered s) (n : Nat) (e : BadgeEntry) :
    s.nextEntry n = some e ↔
      e ∈ s.badges.entries ∧ n < e.number ∧ ∀ x ∈ s.badges.entries, n < x.number → e.number ≤ x.number := by
  have hfirst {x : BadgeEntry} (hx : s.nextEntry n = some x) :
      x ∈ s.badges.entries ∧ n < x.number ∧ ∀ y ∈ s.badges.entries, n < y.number → x.number ≤ y.number := by
    refine ⟨List.mem_of_find?_eq_some hx, by simpa using List.find?_some hx, fun y hy hn => ?_⟩
    obtain ⟨-, before, behind, hentries, hbefore⟩ := List.find?_eq_some_iff_append.1 hx
    have hsorted := h.2.1
    rw [hentries, List.map_append, List.map_cons, List.pairwise_append, List.pairwise_cons] at hsorted
    rw [hentries, List.mem_append, List.mem_cons] at hy
    rcases hy with hy | rfl | hy
    · have := hbefore y hy
      simp at this
      omega
    · exact le_refl _
    · exact Nat.le_of_lt (hsorted.2.1.1 _ (List.mem_map_of_mem hy))
  refine ⟨hfirst, fun ⟨hmem, hn, hle⟩ => ?_⟩
  obtain ⟨x, hx⟩ := Option.isSome_iff_exists.1 (List.find?_isSome (p := fun x => decide (n < x.number)).2
    ⟨e, hmem, by simpa using hn⟩)
  obtain ⟨hxmem, hxn, hxle⟩ := hfirst hx
  have := hle x hxmem hxn
  have := hxle e hmem hn
  rw [State.nextEntry, hx, eq_of_number h.2.1 hxmem hmem (by omega)]

/-- The bytes of an entry returned (R206). -/
theorem badgeRead_bytes (u : Nat → Byte) (e : BadgeEntry) (hn : e.number < 16777216) :
    let data := fillBlock (badgeBlock u e)
    data.length = 64 ∧ leNat (data.take 3) = e.number ∧
      (data.getD 4 0).toNat = e.cls.val ∧
      (data.getD 5 0).toNat = (if e.status = .active then 1 else 2) ∧
      (data.getD 6 0).toNat = (match e.mode with | .strict => 1 | .soft => 2 | .modeNone => 3) ∧
      (data.getD 7 0).toNat = e.home.val ∧
      (∀ d, e.expiry = some d → d < 65536 → leNat ((data.drop 8).take 2) = d) ∧
      (e.expiry = none → leNat ((data.drop 8).take 2) = 0) ∧
      (data.getD 10 0).toNat = (if e.expiry.isSome then 1 else 0) ∧
      (data.getD 11 0).toNat = (if e.paySlot.isSome then 1 else 0) ∧
      (data.getD 12 0).toNat = (match e.presence.state with | .unknown => 0 | .isIn => 1 | .isOut => 2) ∧
      (data.getD 13 0).toNat = (match e.presence.source with | some p => p.val | none => 255) ∧
      (e.presence.time < 4294967296 → leNat ((data.drop 16).take 4) = e.presence.time) ∧
      ∀ k, 20 ≤ k → data.getD k 0 = 0 := by
  obtain ⟨hnumber, hcls, hstatus, hmode, hhome, hexpiry, hpresent, hslot, hstate, hsource, htime⟩ := badgeBlock_fields u e
  intro data
  refine ⟨fillBlock_length _, ?_⟩
  rw [hnumber, hcls, hstatus, hmode, hhome, hexpiry, hpresent, hslot, hstate, hsource, htime]
  refine ⟨leNat_leBytes_of_lt hn, byteOf_toNat (by omega), ?_, ?_, byteOf_toNat (by omega), fun d hd hlt => ?_, fun hd => ?_,
    ?_, ?_, ?_, ?_, fun ht => leNat_leBytes_of_lt ht, fun k hk => fillBlock_zero hk⟩
  · cases e.status <;> rfl
  · cases e.mode <;> rfl
  · rw [hd]; exact leNat_leBytes_of_lt hlt
  · rw [hd]; rfl
  · cases e.expiry <;> rfl
  · cases e.paySlot <;> rfl
  · cases e.presence.state <;> rfl
  · cases e.presence.source with
    | none => rfl
    | some p => exact byteOf_toNat (by omega)

theorem badgeRead_spec (a : BitVec 16) (badge : BitVec 24) (h : s.served) (hc : s.portTakes (.badgeRead a badge))
    (hordered : TableOrdered s) :
    let n := badge.toNat
    let good : Prop := (a = 0 ∧ 1 ≤ n ∧ n ≤ 16777214) ∨ (a = 1 ∧ n ≤ 16777214)
    (¬ good → ∃ t, exec (.badgeRead a badge) s = .next t ∧ OnlyAnswered s t .badValue) ∧
    (good → (∀ e, ¬ Found s a n e) → ∃ t, exec (.badgeRead a badge) s = .next t ∧ OnlyAnswered s t .noEntry) ∧
    ∀ e, good → Found s a n e → ∃ t u, exec (.badgeRead a badge) s = .next t ∧ OnlyAnswered s t .done ∧
      t.port.data = fillBlock (badgeBlock u e) ∧ e.number < 16777216 := by
  intro n good
  obtain ⟨r, hexec⟩ := exec_badgeRead h hc
  have hzero : badge = 0 ↔ n = 0 := ⟨fun h => by simp [n, h], fun h => BitVec.eq_of_toNat_eq h⟩
  have hexact : (a = 0 ∧ isBadge n = true) ↔ a = 0 ∧ 1 ≤ n ∧ n ≤ 16777214 := by rw [isBadge_iff]
  have hnext : (a = 1 ∧ (badge = 0 ∨ isBadge n = true)) ↔ a = 1 ∧ n ≤ 16777214 := by
    rw [isBadge_iff, hzero]
    refine and_congr_right fun _ => ⟨fun h => ?_, fun h => ?_⟩ <;> omega
  -- what is looked up answers as the two kinds of the command ask
  have hfound : good → ∃ o, exec (.badgeRead a badge) s = .next ((s.load r).answerEntry o) ∧ ∀ e, o = some e ↔ Found s a n e := by
    rintro (h0 | h1)
    · refine ⟨s.lookup n, by rw [hexec, if_pos (hexact.2 h0)], fun e => ?_⟩
      rw [lookup_eq_some_iff hordered, Found]
      simp [h0.1]
    · have hne : a ≠ 0 := by rw [h1.1]; decide
      refine ⟨s.nextEntry n, by rw [hexec, if_neg (fun h => hne h.1), if_pos (hnext.2 h1)], fun e => ?_⟩
      rw [nextEntry_eq_some_iff hordered, Found]
      simp [h1.1]
  refine ⟨fun hbad => ⟨_, hexec, ?_⟩, fun hgood hnone => ?_, fun e hgood he => ?_⟩
  · obtain ⟨h0, h1⟩ := not_or.1 hbad
    rw [if_neg (fun h => h0 (hexact.1 h)), if_neg (fun h => h1 (hnext.1 h))]
    exact onlyAnswered_load ..
  · obtain ⟨o, hread, ho⟩ := hfound hgood
    have : o = none := Option.eq_none_iff_forall_not_mem.2 fun e he => hnone e ((ho e).1 he)
    rw [this] at hread
    exact ⟨_, hread, onlyAnswered_load ..⟩
  · obtain ⟨o, hread, ho⟩ := hfound hgood
    rw [(ho e).2 he] at hread
    exact ⟨_, _, hread, onlyAnswered_loadData .., rfl, by have := (hordered.2.2.1 e he.1).2; omega⟩

/-! ## MUSTER READ -/

theorem exec_musterRead (h : s.served) {a : BitVec 16} (hc : s.portTakes (.musterRead a)) :
    exec (.musterRead a) s = .next
      (if a = 0 then (s.load { code := 0x23, a := some a }).readMuster 0
      else if a = 1 then (s.load { code := 0x23, a := some a }).readMuster s.badges.cursor
      else (s.load { code := 0x23, a := some a }).answer .badValue) := by
  refine congrArg Host.Outcome.next ((s.command_taken _ _ .served _ h.1 hc h.2).trans ?_)
  rw [State.load_badges]

theorem State.inBeyond_load (s : State) (r : Request) (n : Nat) : (s.load r).inBeyond n = s.inBeyond n := by
  rw [State.inBeyond, State.load_badges]; rfl

theorem readMuster_spec (r : Request) (start : Nat) :
    let beyond := s.inBeyond start
    let t := (s.load r).readMuster start
    Completed s t .done ∧ t = { s with badges := t.badges, port := t.port } ∧ t.port.payFlag = s.port.payFlag ∧
      t.badges = { s.badges with cursor := (beyond.take 7).getLastD start } ∧
      t.port.reply = .muster
        { muster := s.badges.muster, badges := beyond.take 7, count := min 7 beyond.length,
          atEnd := decide (beyond.drop 7 = []) } := by
  intro beyond t
  have hbeyond : (s.load r).inBeyond start = beyond := s.inBeyond_load r start
  have ht : t = ((s.load r).modBadges fun b => { b with cursor := (beyond.take 7).getLastD start }).answerReply .done
      (.muster { muster := s.badges.muster, badges := beyond.take 7, count := (beyond.take 7).length,
                 atEnd := decide (beyond.length ≤ 7) }) := by
    simp only [t, State.readMuster, hbeyond, State.load_badges]
  rw [ht]
  refine ⟨completed_answerReply .done _ (by simp), ?_, by simp, by simp, ?_⟩
  · rw [State.load_only]
    rfl
  · simp [List.length_take, List.drop_eq_nil_iff]

/-- Settles O14. -/
theorem badgeReads : Obligations.BadgeReads := by
  refine ⟨fun a badge s h hc hordered => ?_, fun a s h hc => ?_⟩
  · intro n good found
    obtain ⟨hbad, hnone, hone⟩ := badgeRead_spec a badge h hc hordered
    refine ⟨hbad, hnone, fun e hgood he => ?_⟩
    obtain ⟨t, u, hexec, honly, hdata, hn⟩ := hone e hgood he
    exact ⟨t, hexec, honly, by rw [hdata]; exact badgeRead_bytes u e hn⟩
  · intro start beyond
    have hbeyond : beyond = s.inBeyond start := by simp [beyond, State.inBeyond]
    refine ⟨fun h0 h1 => ?_, fun ha => ⟨(s.load { code := 0x23, a := some a }).readMuster start, ?_, ?_⟩⟩
    · refine ⟨_, exec_musterRead h hc, ?_⟩
      rw [if_neg h0, if_neg h1]
      exact onlyAnswered_load ..
    · rw [exec_musterRead h hc]
      rcases ha with ha | ha
      · simp [start, ha]
      · rw [if_neg (by rw [ha]; decide), if_pos ha]
        simp [start, ha]
    · rw [hbeyond]
      exact readMuster_spec _ start

end

end Sys2Proof.Machine
end

section
/-! SUPPORT. PAY READ, the status commands and the rules' ARM and DISARM (03 section 3.6, 12 sections 12.3 and 12.4, 08 section
8.2). -/

namespace Sys2Proof.Machine

section
variable {s : State}

/-! ## PAY READ -/

theorem exec_payRead (h : s.served) {a : BitVec 16} {badge : BitVec 24} (hc : s.portTakes (.payRead a badge)) :
    ∃ r u, exec (.payRead a badge) s = .next
      (if a.toNat < 4 ∧ isBadge badge.toNat = true then
        match s.payRecord badge.toNat with
        | none => (s.load r).answer .noEntry
        | some x => (s.load r).answerData .done (payPart u x a.toNat)
      else (s.load r).answer .badValue) := by
  refine ⟨{ code := 0x30, a := some a, data := leBytes 3 badge.toNat },
    (s.load { code := 0x30, a := some a, data := leBytes 3 badge.toNat }).freeBytes,
    congrArg Host.Outcome.next ((s.command_taken _ _ .served _ h.1 hc h.2).trans ?_)⟩
  have hrecord (r : Request) : (s.load r).payRecord badge.toNat = s.payRecord badge.toNat := by
    rw [State.payRecord, State.load_lookup, State.load_pay, State.payRecord]
  rw [hrecord] <;> rfl

theorem payRecord_eq_some_iff (n : Nat) (r : PayRecord) :
    s.payRecord n = some r ↔
      ∃ e slot, s.lookup n = some e ∧ e.paySlot = some slot ∧ s.pay.record slot = some r := by
  unfold State.payRecord
  constructor
  · intro hr
    split at hr
    next slot _ he => exact ⟨_, slot, he, rfl, hr⟩
    next => cases hr
  · rintro ⟨e, slot, he, hslot, hr⟩
    obtain ⟨number, cls, status, expiry, mode, home, paySlot, presence⟩ := e
    cases hslot
    rw [he]
    exact hr

/-- The bytes of a slot part (R206). -/
theorem slotPart_bytes (u : Nat → Byte) (d : DaySlot) (rest : List Byte) :
    let data := fillBlock (slotBlock u d ++ rest)
    let byte (k : Nat) : Nat := (data.getD k 0).toNat
    let word (k : Nat) : Nat := leNat ((data.drop k).take 2)
    word 0 = d.day % 65536 ∧ word 2 = d.regular % 65536 ∧ word 4 = d.ot1 % 65536 ∧ word 6 = d.ot2 % 65536 ∧
      word 8 = d.night % 65536 ∧ word 10 = d.clamped % 65536 ∧ byte 12 = d.intervals % 256 ∧
      byte 13 = (if d.breakMark then 1 else 0) + (if d.lastOut.isSome then 2 else 0) ∧
      (d.lastOut = none → byte 14 = 0 ∧ word 16 = 0) ∧
      (∀ out cls, d.lastOut = some (out, cls) → byte 14 = cls.val ∧
        (-32768 ≤ out → out ≤ 32767 → (BitVec.ofNat 16 (word 16)).toInt = out)) ∧
      word 18 = d.flags.toNat := by
  obtain ⟨hday, hregular, hot1, hot2, hnight, hclamped, hintervals, hmarks⟩ := slotBlock_fields u d rest
  intro data byte word
  simp only [byte, word, data]
  rw [List.drop_zero, hday, hregular, hot1, hot2, hnight, hclamped, hintervals, hmarks, slotBlock_flags]
  refine ⟨leNat_leBytes .., leNat_leBytes .., leNat_leBytes .., leNat_leBytes .., leNat_leBytes .., leNat_leBytes ..,
    byteOf_mod _, ?_, fun hnone => ?_, fun out cls hout => ?_, leNat_leBytes_of_lt (d.flags.isLt.trans (by decide))⟩
  · cases d.breakMark <;> cases d.lastOut <;> rfl
  · obtain ⟨hcls, htime⟩ := slotBlock_noOut u d rest hnone
    rw [hcls, htime]
    exact ⟨rfl, rfl⟩
  · obtain ⟨hcls, htime⟩ := slotBlock_lastOut u d rest hout
    rw [hcls, htime]
    exact ⟨byteOf_toNat (by omega), toInt_leSigned_two⟩

/-- The bytes of the open IN and the orphan OUT (R206). -/
theorem openPart_bytes (u : Nat → Byte) (d : DaySlot) (r : PayRecord) :
    let data := fillBlock (slotBlock u d ++ openBlock r)
    let byte (k : Nat) : Nat := (data.getD k 0).toNat
    let word (k : Nat) : Nat := leNat ((data.drop k).take 2)
    let long (k : Nat) : Nat := leNat ((data.drop k).take 4)
    byte 20 = (if r.openIn.isSome then 1 else 0) + (if r.openIn.any OpenIn.flagged then 2 else 0) +
        (if r.orphan.isSome then 4 else 0) ∧
      (∀ i, r.openIn = some i → byte 21 = i.cls.val ∧ byte 22 = i.source.val ∧ byte 23 = i.era.toNat ∧
        long 24 = i.time % 4294967296 ∧ word 28 = i.day % 65536) ∧
      (r.openIn = none → ∀ k, 21 ≤ k → k < 30 → byte k = 0) ∧
      (∀ o, r.orphan = some o → byte 30 = o.era.toNat ∧ byte 31 = o.source.val ∧ long 32 = o.time % 4294967296) ∧
      (r.orphan = none → ∀ k, 30 ≤ k → k < 36 → byte k = 0) := by
  intro data byte word long
  refine ⟨?_, fun i hi => ?_, fun hnone k hlo hhi => ?_, fun o ho => ?_, fun hnone k hlo hhi => ?_⟩
  · simp only [byte, data, openBlock_marks]
    cases r.openIn with
    | none => cases r.orphan <;> rfl
    | some i => cases hf : i.flagged <;> cases r.orphan <;> simp [hf, bit, byteOf]
  · obtain ⟨hcls, hsource, hera, htime, hday⟩ := openBlock_openIn u d r hi
    simp only [byte, word, long, data, hcls, hsource, hera, htime, hday]
    exact ⟨byteOf_toNat (by omega), byteOf_toNat (by omega), trivial, leNat_leBytes .., leNat_leBytes ..⟩
  · simp only [byte, data, getD_of_zeros (openBlock_noOpenIn u d r hnone) hlo (by omega)]
    rfl
  · obtain ⟨hera, hsource, htime⟩ := openBlock_orphan u d r ho
    simp only [byte, long, data, hera, hsource, htime]
    exact ⟨trivial, byteOf_toNat (by omega), leNat_leBytes ..⟩
  · simp only [byte, data, getD_of_zeros (openBlock_noOrphan u d r hnone) hlo (by omega)]
    rfl

/-- The bytes of a period part (R206). -/
theorem periodPart_bytes (p : Period) :
    let data := fillBlock (periodBlock p)
    let byte (k : Nat) : Nat := (data.getD k 0).toNat
    let word (k : Nat) : Nat := leNat ((data.drop k).take 2)
    (word 0 = p.regular % 65536 ∧ word 2 = p.ot1 % 65536 ∧ word 4 = p.ot2 % 65536 ∧ word 6 = p.night % 65536 ∧
      byte 8 = p.days % 256 ∧ byte 9 = (if p.saturated then 1 else 0) ∧ word 10 = p.flags.toNat) ∧
      ∀ k, 12 ≤ k → byte k = 0 := by
  obtain ⟨hregular, hot1, hot2, hnight, hdays, hsaturated, hflags⟩ := periodBlock_fields p
  intro data byte word
  refine ⟨?_, fun k hk => congrArg BitVec.toNat (fillBlock_zero hk)⟩
  simp only [byte, word, data]
  rw [List.drop_zero, hregular, hot1, hot2, hnight, hdays, hsaturated, hflags]
  refine ⟨leNat_leBytes .., leNat_leBytes .., leNat_leBytes .., leNat_leBytes .., byteOf_mod _, ?_, leNat_leBytes_of_lt (p.flags.isLt.trans (by decide))⟩
  cases p.saturated <;> rfl

/-- Settles O15. -/
theorem payRead : Obligations.PayRead := by
  intro a badge s h hc n good linked
  obtain ⟨r, u, hexec⟩ := exec_payRead h hc
  have hgood : good ↔ a.toNat < 4 ∧ isBadge n = true := by rw [isBadge_iff]; simp only [good]; omega
  refine ⟨fun hbad => ⟨_, hexec, ?_⟩, fun hg hnone => ?_, fun x hg hlinked => ?_⟩
  · rw [if_neg fun h => hbad (hgood.2 h)]
    exact onlyAnswered_load ..
  · have : s.payRecord n = none := Option.eq_none_iff_forall_not_mem.2 fun x hx => hnone x ((payRecord_eq_some_iff n x).1 hx)
    rw [if_pos (hgood.1 hg), this] at hexec
    exact ⟨_, hexec, onlyAnswered_load ..⟩
  · rw [if_pos (hgood.1 hg), (payRecord_eq_some_iff n x).2 hlinked] at hexec
    dsimp only at hexec
    refine ⟨_, hexec, onlyAnswered_loadData .., fillBlock_length _, ?_⟩
    intro byte word long slotPart openPart periodPart
    refine ⟨fun ha => ?_, fun ha => ?_, fun ha => ?_, fun ha => ?_⟩
    · subst ha
      exact ⟨slotPart_bytes u x.current (openBlock x), openPart_bytes u x.current x, fun k hk => congrArg BitVec.toNat
        (fillBlock_zero ((List.length_append.trans (congrArg₂ _ (slotBlock_length ..) (openBlock_length _))).trans_le hk))⟩
    · subst ha
      have hpart : payPart u x 1 = slotBlock u x.previous ++ [] := (List.append_nil _).symm
      refine ⟨?_, fun k hk => congrArg BitVec.toNat
        (fillBlock_zero ((slotBlock_length u x.previous).trans_le hk))⟩
      have hbytes := slotPart_bytes u x.previous []
      rw [← hpart] at hbytes
      exact hbytes
    · subst ha
      exact periodPart_bytes x.period
    · subst ha
      exact periodPart_bytes x.last

end

end Sys2Proof.Machine
end

section
/-! SUPPORT. The rules' ARM and DISARM, and the status commands (08 section 8.2, 12 sections 12.3 and 12.4). -/

namespace Sys2Proof.Machine

section
variable {s : State}

/-! ## ARM and DISARM -/

/-- A disarmed rule matches no event (R145). -/
theorem State.matchRule_disarmed {r : RuleNo} (h : (s.watch.rules.get r).armed = false) (e : LaneEvent) : s.matchRule r e = s := by
  unfold State.matchRule
  simp [h]

theorem exec_arm (h : s.served) {a : BitVec 16} (hc : s.portTakes (.arm a)) :
    ∃ r : Request, exec (.arm a) s = .next (match RuleNo.ofNumber a.toNat with
      | none => (s.load r).answer .badValue
      | some n => ((s.load r).modRule n fun y => { y with armed := true, counter := y.count - 1, first := none }).answer .done) :=
  ⟨{ code := 0x62, a := some a }, congrArg Host.Outcome.next ((s.command_taken _ _ .served _ h.1 hc h.2).trans (by rfl))⟩

theorem exec_disarm (h : s.served) {a : BitVec 16} (hc : s.portTakes (.disarm a)) :
    ∃ r : Request, exec (.disarm a) s = .next (match RuleNo.ofNumber a.toNat with
      | none => (s.load r).answer .badValue
      | some n => ((s.load r).modRule n fun y => { y with armed := false, first := none }).answer .done) :=
  ⟨{ code := 0x63, a := some a }, congrArg Host.Outcome.next ((s.command_taken _ _ .served _ h.1 hc h.2).trans (by rfl))⟩

/-- A rule changed and the command answered DONE: the watch unit's rules alone change, and the mailbox. -/
theorem State.answer_modRule_load (s : State) (r : Request) (n : RuleNo) (f : Rule → Rule) :
    let t := ((s.load r).modRule n f).answer .done
    Completed s t .done ∧ t = { s with watch := t.watch, port := t.port } ∧ t.port.payFlag = s.port.payFlag ∧
      t.watch = { s.watch with rules := s.watch.rules.set n (f (s.watch.rules.get n)) } := by
  obtain ⟨honly, hflag, hwatch, hcompleted⟩ := s.answer_modWatch_load r
    (fun w => { w with rules := w.rules.set n (f (w.rules.get n)) }) .done
  exact ⟨hcompleted, honly, hflag, hwatch⟩

/-- Settles O21. -/
theorem armDisarm : Obligations.ArmDisarm := by
  refine ⟨fun r => by cases r <;> rfl, fun a s hr => ⟨fun hs => ?_, fun hs hlarge => ?_, fun n hs hn => ?_⟩⟩
  · exact ⟨fun hc => exec_refused _ _ hr hc (if_pos hs), fun hc => exec_refused _ _ hr hc (if_pos hs)⟩
  · refine ⟨fun hc => ?_, fun hc => ?_⟩
    · obtain ⟨r, hexec⟩ := exec_arm ⟨hr, hs⟩ hc
      rw [RuleNo.ofNumber_none hlarge] at hexec
      exact ⟨_, hexec, onlyAnswered_load ..⟩
    · obtain ⟨r, hexec⟩ := exec_disarm ⟨hr, hs⟩ hc
      rw [RuleNo.ofNumber_none hlarge] at hexec
      exact ⟨_, hexec, onlyAnswered_load ..⟩
  · refine ⟨fun hc => ?_, fun hc => ?_⟩
    · obtain ⟨r, hexec⟩ := exec_arm ⟨hr, hs⟩ hc
      rw [hn, RuleNo.ofNumber_number] at hexec
      exact ⟨_, hexec, State.answer_modRule_load ..⟩
    · obtain ⟨r, hexec⟩ := exec_disarm ⟨hr, hs⟩ hc
      rw [hn, RuleNo.ofNumber_number] at hexec
      obtain ⟨hdone, honly, hflag, hwatch⟩ := s.answer_modRule_load r n fun y => { y with armed := false, first := none }
      refine ⟨_, hexec, hdone, honly, hflag, hwatch, State.matchRule_disarmed ?_⟩
      dsimp only
      rw [hwatch, PerRule.get_set_same]

/-! ## ATTENTION READ -/

/-- A bit of a mark that a condition sets. -/
theorem getLsbD_ite_mark (c : Prop) [Decidable c] (x : Byte) (k : Nat) :
    (if c then x else 0).getLsbD k = (decide c && x.getLsbD k) := by
  by_cases h : c <;> simp [h]

/-- The marks of the attention word (R199). -/
theorem attention_marks (s : State) :
    s.attention.getLsbD 0 = !s.watch.incidents.isEmpty ∧ s.attention.getLsbD 1 = s.journalHigh ∧
      s.attention.getLsbD 2 = s.doubtActive ∧ s.attention.getLsbD 3 = decide (s.station = .evacuate) ∧
      s.attention.getLsbD 4 = s.anyHold ∧ s.attention.getLsbD 5 = s.anyFault ∧
      s.attention.getLsbD 6 = s.port.payFlag ∧ s.attention.getLsbD 7 = false := by
  simp only [State.attention, BitVec.getLsbD_or, getLsbD_ite_mark]
  simp
  cases s.watch.incidents <;> simp

theorem anyHold_iff (s : State) :
    s.anyHold = true ↔ s.control.stationReasons ≠ [] ∨ ∃ l, s.control.laneReasons.get l ≠ [] := by
  have hlane (l : Lane) : l ∈ Lane.all := by cases l <;> decide
  simp [State.anyHold, hlane]

theorem anyFault_iff (s : State) :
    s.anyFault = true ↔ s.faults.line.state = .active ∨ s.faults.clock.state = .active ∨
      ∃ l k, ((s.faults.lanes.get l).get k).state = .active := by
  have hlane (l : Lane) : l ∈ Lane.all := by cases l <;> decide
  have hkind (f : LaneFaults) : (∃ k, (f.get k).state = .active) ↔
      (f.reader.state = .active ∨ f.strike.state = .active) ∨ f.doorHeld.state = .active :=
    ⟨fun ⟨k, hk⟩ => match k, hk with
      | .reader, hk => .inl (.inl hk)
      | .strike, hk => .inl (.inr hk)
      | .doorHeld, hk => .inr hk,
      fun h => h.elim (fun h => h.elim (fun h => ⟨.reader, h⟩) fun h => ⟨.strike, h⟩) fun h => ⟨.doorHeld, h⟩⟩
  simp [State.anyFault, hlane, hkind, or_assoc]

/-- Settles O19. -/
theorem attentionRead : Obligations.AttentionRead := by
  intro s hr
  obtain ⟨hincident, hhigh, hdoubt, hevac, hhold, hfault, hflag, hspare⟩ := attention_marks s
  refine ⟨fun hc => ?_, hincident, fun w hw => ?_, hdoubt, hevac, hhold ▸ anyHold_iff s, hfault ▸ anyFault_iff s, hflag, hspare, ?_⟩
  · have hload : (s.load { code := 0x70 }).attention = s.attention := by
      have hflag : (s.load { code := 0x70 }).port.payFlag = s.port.payFlag := by simp
      unfold State.attention
      rw [hflag, State.load_only]
      rfl
    refine ⟨_, exec_attentionRead hr hc, completed_answerData _ _ (by simp), ?_, ?_, fun k hk => ?_, by simp⟩
    · calc ((s.load { code := 0x70 }).modPort fun p => { p with payFlag := false }).answerData .done
            [(s.load { code := 0x70 }).attention] = { s.load { code := 0x70 } with
          port := (((s.load { code := 0x70 }).modPort fun p => { p with payFlag := false }).answerData .done
            [(s.load { code := 0x70 }).attention]).port } := rfl
        _ = _ := by rw [State.load_only]
    · rw [hload]
      rfl
    · exact fillBlock_zero hk
  · rw [hhigh, State.journalHigh, hw]
  · simp [State.attentionLine, hr]

/-! ## STATUS READ and PEER READ -/

theorem exec_statusRead (hr : s.inReset = false) {a b : BitVec 16} (hc : s.portTakes (.statusRead a b)) :
    ∃ r : Request, exec (.statusRead a b) s = .next (match s.statusPart a.toNat b.toNat with
      | none => (s.load r).answer .badValue
      | some x => (s.load r).answerReply .done (.status x)) := by
  refine ⟨{ code := 0x50, a := some a, b := some b },
    congrArg Host.Outcome.next ((s.command_taken _ _ .anyState _ hr hc rfl).trans ?_)⟩
  have hload (r : Request) : (s.load r).statusPart a.toNat b.toNat = s.statusPart a.toNat b.toNat := by
    rw [State.load_only]
    rfl
  rw [hload] <;> rfl

theorem exec_peerRead (hr : s.inReset = false) {a : BitVec 16} (hc : s.portTakes (.peerRead a)) :
    ∃ r : Request, exec (.peerRead a) s = .next (if h : a.toNat < 16 then
      (s.load r).answerReply .done (.peer (s.peer ⟨a.toNat, h⟩)) else (s.load r).answer .badValue) := by
  refine ⟨{ code := 0x51, a := some a }, congrArg Host.Outcome.next ((s.command_taken _ _ .anyState _ hr hc rfl).trans ?_)⟩
  have hload (r : Request) (p : Station) : (s.load r).peer p = s.peer p := by
    rw [State.load_only]
    rfl
  simp only [hload]

theorem Lane.ofNumber_number (l : Lane) : Lane.ofNumber l.number = some l := by cases l <;> rfl

theorem Lane.ofNumber_eq_none_iff {n : Nat} : Lane.ofNumber n = none ↔ ¬ (1 ≤ n ∧ n ≤ 4) := by
  rcases n with _ | _ | _ | _ | _ | k <;> simp [Lane.ofNumber]

theorem statusPart_eq_none_iff {a b : Nat} :
    s.statusPart a b = none ↔ 10 ≤ a ∨ (a = 2 ∧ ¬ (1 ≤ b ∧ b ≤ 4)) ∨ (a = 8 ∧ 48 ≤ b) := by
  by_cases ha : a < 10
  · rw [← Lane.ofNumber_eq_none_iff]
    interval_cases a <;> simp [State.statusPart]
  · have hnone : s.statusPart a b = none := by
      unfold State.statusPart
      iterate 10 rw [if_neg (by omega)]
    simp [hnone, not_lt.1 ha]

theorem bellStatus_part (s : State) (b : Nat) : s.statusPart 6 b = some (.bell
    { arbiter := s.bell.arbiter, output := s.bell.arbiter.any Sounding.on, missed := s.bell.missed, cut := s.bell.cut,
      suppressed := s.bell.suppressed, earlyCue := s.bell.earlyCue }) := by
  have houtput : s.bellOutput = s.bell.arbiter.any Sounding.on := by
    unfold State.bellOutput
    cases s.bell.arbiter <;> rfl
  rw [← houtput]
  rfl

/-- Settles O18. -/
theorem statusReads : Obligations.StatusReads := by
  refine ⟨fun a b s hr hc => ?_, fun a s hr hc => ⟨fun hlarge => ?_, fun p hp => ?_⟩⟩
  · intro bad peers
    have hbad : s.statusPart a.toNat b.toNat = none ↔ bad := by
      rw [statusPart_eq_none_iff]
      simp only [bad, ← BitVec.toNat_inj]
      rfl
    obtain ⟨r, hexec⟩ := exec_statusRead hr hc
    refine ⟨fun h => ?_, fun h => ?_⟩
    · rw [hbad.2 h] at hexec
      exact ⟨_, hexec, onlyAnswered_load ..⟩
    · obtain ⟨x, hx⟩ := Option.ne_none_iff_exists'.1 (mt hbad.1 h)
      rw [hx] at hexec
      refine ⟨_, x, hexec, onlyAnswered_loadReply .., rfl, ?_⟩
      have hpart {n : BitVec 16} {y : StatusReply} (ha : a = n) (hy : s.statusPart n.toNat b.toNat = some y) : x = y :=
        Option.some.inj (hx.symm.trans (ha ▸ hy))
      have hpeers (y : PeerState) : peers y = s.peersIn y := List.countP_eq_length_filter
      refine ⟨fun ha => hpart ha rfl, fun ha => hpart ha rfl, fun l ha hl => hpart ha ?_, fun ha => hpart ha rfl,
        fun ha => hpart ha rfl, fun ha => ?_, fun ha => ?_, fun ha => hpart ha rfl, fun ha => hpart ha ?_,
        fun ha => hpart ha rfl⟩
      · rw [hl]
        exact congrArg (Option.map _) (Lane.ofNumber_number l)
      · rw [hpeers, hpeers, hpeers]
        exact hpart ha rfl
      · exact hpart ha (bellStatus_part s _)
      · exact if_pos (by_contra fun hb => h (.inr (.inr ⟨ha, not_lt.1 hb⟩)))
  · obtain ⟨r, hexec⟩ := exec_peerRead hr hc
    rw [dif_neg (by omega)] at hexec
    exact ⟨_, hexec, onlyAnswered_load ..⟩
  · obtain ⟨r, hexec⟩ := exec_peerRead hr hc
    have hlt : a.toNat < 16 := by omega
    rw [dif_pos hlt] at hexec
    have hstation : (⟨a.toNat, hlt⟩ : Station) = p := Fin.ext hp
    exact ⟨_, hexec, onlyAnswered_loadReply .., hstation ▸ rfl⟩

end

end Sys2Proof.Machine
end

section
/-! SUPPORT. BADGE PUT and BADGE DROP, by what each leaves of the badge table and of the pay records (01 section 1.3,
03 section 3.2). -/

namespace Sys2Proof.Machine

/-! ## The records of the pay unit -/

theorem lookup_cons_ite (k m : Nat) (r : PayRecord) (xs : List (Nat × PayRecord)) :
    ((m, r) :: xs).lookup k = if k = m then some r else xs.lookup k := by
  rw [List.lookup_cons]
  by_cases h : k = m
  · simp [h]
  · rw [if_neg h, beq_false_of_ne h]

theorem lookup_insertRecord {slot : Nat} {r : PayRecord} {xs : List (Nat × PayRecord)} (h : slot ∉ xs.map Prod.fst) (k : Nat) :
    (insertRecord slot r xs).lookup k = if k = slot then some r else xs.lookup k := by
  induction xs with
  | nil => exact lookup_cons_ite ..
  | cons y ys ih =>
    obtain ⟨m, x⟩ := y
    rw [List.map_cons, List.mem_cons, not_or] at h
    unfold insertRecord
    split
    · exact lookup_cons_ite ..
    · rw [lookup_cons_ite, ih h.2, lookup_cons_ite]
      split_ifs with hm hslot
      · exact absurd (hslot.symm.trans hm) h.1
      · rfl
      · rfl
      · rfl

theorem lookup_filter_ne (slot : Nat) (xs : List (Nat × PayRecord)) (k : Nat) :
    (xs.filter fun x => decide (x.1 ≠ slot)).lookup k = if k = slot then none else xs.lookup k := by
  induction xs with
  | nil => simp
  | cons y ys ih =>
    obtain ⟨m, x⟩ := y
    rw [List.filter_cons, lookup_cons_ite]
    by_cases hm : m = slot
    · subst hm
      simp only [ne_eq, not_true_eq_false, decide_false, Bool.false_eq_true, if_false]
      rw [ih]
      split_ifs <;> rfl
    · simp only [hm, ne_eq, not_false_eq_true, decide_true, if_true]
      rw [lookup_cons_ite, ih]
      split_ifs with hk hslot
      · exact absurd (hk.symm.trans hslot) hm
      · rfl
      · rfl
      · rfl

theorem PayUnit.record_allocate {p : PayUnit} {slot : Nat} (h : slot ∉ p.records.map Prod.fst) (k : Nat) :
    (p.allocate slot).record k = if k = slot then some (.fresh p.today) else p.record k := lookup_insertRecord h k

theorem PayUnit.record_free (p : PayUnit) (slot k : Nat) : (p.free slot).record k = if k = slot then none else p.record k :=
  lookup_filter_ne slot p.records k

/-- A record changed and then freed leaves nothing of the change. -/
theorem PayUnit.free_modRecord (p : PayUnit) (slot : Nat) (f : PayRecord → PayRecord) : (p.modRecord slot f).free slot = p.free slot := by
  unfold PayUnit.free PayUnit.modRecord
  congr 1
  induction p.records with
  | nil => rfl
  | cons y ys ih => by_cases hy : y.1 = slot <;> simp_all

theorem PayUnit.record_isSome_iff (p : PayUnit) (k : Nat) : (p.record k).isSome = true ↔ k ∈ p.records.map Prod.fst := by
  simp [PayUnit.record]

theorem PayUnit.freeSlot_eq_none_iff (p : PayUnit) : p.freeSlot = none ↔ 1024 ≤ p.records.length := by
  simp [PayUnit.freeSlot]

theorem PayUnit.freeSlot_of_lt {p : PayUnit} (h : p.records.length < 1024) : ∃ slot, p.freeSlot = some slot :=
  ⟨_, if_pos h⟩

/-- The free record of the lowest number allocated (R50). -/
theorem allocated_of_freeSlot {s t : State} {slot : Nat} (h : RecordsOrdered s) (hslot : s.pay.freeSlot = some slot)
    (ht : t.pay = s.pay.allocate slot) : Allocated s t slot := by
  obtain ⟨hlt, hfree, hbelow⟩ := PayUnit.freeSlot_spec h.1 hslot
  refine ⟨hlt, ?_, fun k hk => (s.pay.record_isSome_iff k).2 (hbelow k hk), ?_, fun k hk => ?_, by rw [ht]; rfl, by rw [ht]; rfl,
    by rw [ht]; rfl⟩
  · exact Option.not_isSome_iff_eq_none.1 (mt (s.pay.record_isSome_iff slot).1 hfree)
  · rw [ht, PayUnit.record_allocate hfree, if_pos rfl]
    rfl
  · rw [ht, PayUnit.record_allocate hfree, if_neg hk]

/-- A record freed (R50). -/
theorem freed_of_eq {s t : State} {slot : Nat} (ht : t.pay = s.pay.free slot) : Freed s t slot :=
  ⟨by rw [ht, PayUnit.record_free, if_pos rfl], fun k hk => by rw [ht, PayUnit.record_free, if_neg hk], by rw [ht]; rfl,
    by rw [ht]; rfl, by rw [ht]; rfl⟩

/-! ## The entries of the badge table -/

section
variable {s t : State}

theorem tableChanged_iff (n : Nat) (x : Option BadgeEntry) (h : t.badges.cursor = s.badges.cursor ∧
    t.badges.ownStale = s.badges.ownStale ∧ t.badges.ownStranger = s.badges.ownStranger)
    (hlookup : ∀ m, t.lookup m = if m = n then x else s.lookup m) : TableChanged s t n x := by
  obtain ⟨hcursor, hstale, hstranger⟩ := h
  exact ⟨(hlookup n).trans (if_pos rfl), fun m hm => (hlookup m).trans (if_neg hm), hcursor, hstale, hstranger⟩

theorem tableChanged_insert {f : BadgeFields} {slot : Option Nat} (h : s.lookup f.number = none)
    (ht : t.badges = { s.badges with entries := insertEntry (newEntry f slot) s.badges.entries }) :
    TableChanged s t f.number (some (f.entry slot { state := .unknown, time := 0, source := none })) := by
  refine tableChanged_iff _ _ (by rw [ht]; exact ⟨rfl, rfl, rfl⟩) fun m => ?_
  unfold State.lookup
  rw [ht]
  exact find?_insertEntry m h

theorem tableChanged_replace {f : BadgeFields} {e : BadgeEntry} {slot : Option Nat} (h : s.lookup f.number = some e)
    (ht : t.badges = (s.replaceEntry f slot).badges) : TableChanged s t f.number (some (f.entry slot e.presence)) := by
  refine tableChanged_iff _ _ (by rw [ht]; exact ⟨rfl, rfl, rfl⟩) fun m => ?_
  have hkept (x : BadgeEntry) : (if x.number = f.number then { x with
      cls := f.cls, status := f.status, expiry := f.expiry, mode := f.mode, home := f.home, paySlot := slot } else x).number =
      x.number := by split <;> rfl
  have hlookup : t.lookup m = (s.lookup m).map fun x => if x.number = f.number then { x with
      cls := f.cls, status := f.status, expiry := f.expiry, mode := f.mode, home := f.home, paySlot := slot } else x := by
    unfold State.lookup
    rw [ht]
    exact find?_map_number hkept m
  rw [hlookup]
  split
  next hm =>
    subst hm
    rw [h, Option.map_some, if_pos (State.lookup_number h)]
    simp [BadgeFields.entry, State.lookup_number h]
  next hm =>
    cases hx : s.lookup m with
    | none => rfl
    | some x => rw [Option.map_some, if_neg fun hx' => hm ((State.lookup_number hx).symm.trans hx')]

theorem tableChanged_remove {n : Nat} {e : BadgeEntry} (h : s.lookup n = some e) (ht : t.badges = (s.removeEntry e).badges) :
    TableChanged s t n none := by
  refine tableChanged_iff _ _ (by rw [ht]; exact ⟨rfl, rfl, rfl⟩) fun m => ?_
  unfold State.lookup
  rw [ht]
  show (s.badges.entries.filter _).find? _ = _
  rw [State.lookup_number h, List.find?_filter]
  split
  next hm =>
    subst hm
    simp
  next hm =>
    congr 1
    funext x
    by_cases hx : x.number = m <;> simp [hx, hm]

end

/-! ## What the port takes of a badge command -/

/-- The badge table and the pay unit changed by a command that is answered DONE. -/
def State.tablesTaken (s : State) (r : Request) (b : BadgeTable) (p : PayUnit) : State :=
  ({ s.load r with badges := b, pay := p } : State).answer .done

theorem tablesTaken_spec (s : State) (r : Request) (b : BadgeTable) (p : PayUnit) :
    let t := s.tablesTaken r b p
    Completed s t .done ∧ t = { s with badges := t.badges, pay := t.pay, port := t.port } ∧
      t.port.payFlag = s.port.payFlag ∧ t.badges = b ∧ t.pay = p := by
  refine ⟨completed_answer (s := s) .done (by simp), ?_, ?_, rfl, rfl⟩
  · calc s.tablesTaken r b p = { s.load r with badges := b, pay := p, port := (s.tablesTaken r b p).port } := rfl
      _ = _ := by rw [State.load_only]; rfl
  · have hflag : (s.load r).port.payFlag = s.port.payFlag := by simp
    exact hflag

/-- What a badge block spells is what the port reads from it (R3). -/
theorem readBadgeBlock_eq_some_iff (b : BadgeBlock) (f : BadgeFields) : readBadgeBlock b = some f ↔ Spells b f := by
  have hstatus (x : BadgeStatus) : statusOf b.status = some x ↔ (b.status = 1 ∧ x = .active) ∨ (b.status = 2 ∧ x = .blocked) := by
    unfold statusOf
    split_ifs with h1 h2 <;> simp_all [@eq_comm _ x]
  have hmode (x : PassbackMode) : modeOf b.mode = some x ↔
      (b.mode = 1 ∧ x = .strict) ∨ (b.mode = 2 ∧ x = .soft) ∨ (b.mode = 3 ∧ x = .modeNone) := by
    unfold modeOf
    split_ifs with h1 h2 h3 <;> simp_all [@eq_comm _ x]
  have hexpiry (x : Option Nat) : expiryOf b = some x ↔ (b.expiryPresent = 0 ∧ x = none) ∨
      (b.expiryPresent = 1 ∧ x = some b.expiry.toNat ∧ b.expiry.toNat ≤ 3106) := by
    unfold expiryOf
    split_ifs with h1 h2
    · simp [h1, @eq_comm _ x]
    · simp [h2.1, h2.2, @eq_comm _ x]
    · simp only [h1, false_and, false_or, false_iff]
      rintro ⟨hpresent, -, hle⟩
      exact h2 ⟨hpresent, hle⟩
  obtain ⟨number, cls, status, mode, home, expiry⟩ := f
  unfold Spells
  rw [← hstatus, ← hmode, ← hexpiry]
  unfold readBadgeBlock
  constructor
  · intro hread
    split at hread
    next st mo ex hst hmo hex =>
      split at hread
      next hgood =>
        cases hread
        exact ⟨⟨rfl, (isBadge_iff _).1 hgood.1⟩, rfl, hst, hmo, rfl, hex⟩
      next => cases hread
    next => cases hread
  · rintro ⟨⟨hnumber, hrange⟩, hcls, hst, hmo, hhome, hex⟩
    dsimp only at hnumber hrange hcls hst hmo hhome hex
    subst hnumber
    rw [hst, hmo, hex]
    have hgood : isBadge b.number.toNat = true ∧ b.cls.toNat < 8 ∧ b.home.toNat < 16 :=
      ⟨(isBadge_iff _).2 hrange, hcls ▸ cls.isLt, hhome ▸ home.isLt⟩
    refine (dif_pos hgood).trans ?_
    have hc : cls = ⟨b.cls.toNat, hgood.2.1⟩ := Fin.ext hcls
    have hh : home = ⟨b.home.toNat, hgood.2.2⟩ := Fin.ext hhome
    rw [hc, hh]

section
variable {s : State}

theorem State.load_ownStation (s : State) (r : Request) : (s.load r).ownStation = s.ownStation := by
  rw [State.load_only]
  rfl

theorem exec_badgePut (h : s.served) {b : BadgeBlock} (hc : s.portTakes (.badgePut b)) :
    ∃ r : Request, exec (.badgePut b) s = .next (match readBadgeBlock b with
      | none => (s.load r).answer .badValue
      | some f => match s.lookup f.number with
        | none => (s.load r).putNew f
        | some e => (s.load r).putOld e f) := by
  refine ⟨{ code := 0x20, data := badgeBlockBytes b },
    congrArg Host.Outcome.next ((s.command_taken _ _ .served _ h.1 hc h.2).trans ?_)⟩
  simp only [State.load_lookup] <;> rfl

theorem exec_badgePut_new (h : s.served) {b : BadgeBlock} (hc : s.portTakes (.badgePut b)) {f : BadgeFields} (hf : Spells b f)
    (hnew : s.lookup f.number = none) : ∃ r : Request, exec (.badgePut b) s = .next ((s.load r).putNew f) := by
  obtain ⟨r, hexec⟩ := exec_badgePut h hc
  rw [(readBadgeBlock_eq_some_iff b f).2 hf] at hexec
  dsimp only at hexec
  rw [hnew] at hexec
  exact ⟨r, hexec⟩

theorem exec_badgePut_old (h : s.served) {b : BadgeBlock} (hc : s.portTakes (.badgePut b)) {f : BadgeFields} (hf : Spells b f)
    {e : BadgeEntry} (hold : s.lookup f.number = some e) :
    ∃ r : Request, exec (.badgePut b) s = .next ((s.load r).putOld e f) := by
  obtain ⟨r, hexec⟩ := exec_badgePut h hc
  rw [(readBadgeBlock_eq_some_iff b f).2 hf] at hexec
  dsimp only at hexec
  rw [hold] at hexec
  exact ⟨r, hexec⟩

/-- The table with a new entry (R4). -/
def BadgeTable.inserted (b : BadgeTable) (f : BadgeFields) (slot : Option Nat) : BadgeTable :=
  { b with entries := insertEntry (newEntry f slot) b.entries }

/-- BADGE PUT of a new badge: nothing changes without a place and a free record, and otherwise an entry is inserted, with the
lowest free record just when it is homed here (R4). -/
theorem putNew_full {f : BadgeFields} (r : Request)
    (h : 4096 ≤ s.badges.entries.length ∨ (f.home = s.ownStation ∧ 1024 ≤ s.pay.records.length)) :
    (s.load r).putNew f = (s.load r).answer .full := by
  unfold State.putNew
  rw [State.load_badges, State.load_pay, State.load_ownStation]
  by_cases hfull : 4096 ≤ s.badges.entries.length
  · exact if_pos hfull
  · obtain ⟨hhome, hrecords⟩ := h.resolve_left hfull
    rw [if_neg hfull, if_pos hhome, (s.pay.freeSlot_eq_none_iff).2 hrecords]

theorem putNew_here {f : BadgeFields} {slot : Nat} (r : Request) (h : s.badges.entries.length < 4096) (hhome : f.home = s.ownStation)
    (hslot : s.pay.freeSlot = some slot) :
    (s.load r).putNew f = s.tablesTaken r (s.badges.inserted f (some slot)) (s.pay.allocate slot) := by
  unfold State.putNew
  rw [State.load_badges, State.load_pay, State.load_ownStation, if_neg (not_le.2 h), if_pos hhome, hslot]
  unfold State.tablesTaken
  rw [← State.load_badges s r, ← State.load_pay s r]
  rfl

theorem putNew_elsewhere {f : BadgeFields} (r : Request) (h : s.badges.entries.length < 4096) (hhome : f.home ≠ s.ownStation) :
    (s.load r).putNew f = s.tablesTaken r (s.badges.inserted f none) s.pay := by
  unfold State.putNew
  rw [State.load_badges, State.load_pay, State.load_ownStation, if_neg (not_le.2 h), if_neg hhome]
  unfold State.tablesTaken
  rw [← State.load_badges s r, ← State.load_pay s r]
  rfl

/-- An entry's pay record holds an open IN or an orphan OUT. -/
theorem busy_iff (slot : Nat) : ((s.pay.record slot).map PayRecord.busy).getD false = true ↔
    ∃ r, s.pay.record slot = some r ∧ (r.openIn.isSome = true ∨ r.orphan.isSome = true) := by
  cases s.pay.record slot <;> simp [PayRecord.busy]

/-- BADGE PUT of a badge of the table, by its pay slot and its new home (R5). -/
theorem putOld_eq (r : Request) (e : BadgeEntry) (f : BadgeFields) :
    (s.load r).putOld e f =
      match e.paySlot with
      | some slot =>
        if f.home = s.ownStation then s.tablesTaken r (s.replaceEntry f (some slot)).badges s.pay
        else if ((s.pay.record slot).map PayRecord.busy).getD false then (s.load r).answer .stillOpen
        else s.tablesTaken r (s.replaceEntry f none).badges (s.pay.free slot)
      | none =>
        if f.home = s.ownStation then
          match s.pay.freeSlot with
          | none => (s.load r).answer .full
          | some slot => s.tablesTaken r (s.replaceEntry f (some slot)).badges (s.pay.allocate slot)
        else s.tablesTaken r (s.replaceEntry f none).badges s.pay := by
  have hreplace (slot : Option Nat) : (s.replaceEntry f slot).badges = ((s.load r).replaceEntry f slot).badges := by
    rw [State.replaceEntry, State.modEntry, State.modBadges_badges, ← State.load_badges s r]
    rfl
  unfold State.putOld State.tablesTaken
  simp only [hreplace]
  rw [State.load_ownStation, ← State.load_pay s r]
  rfl

/-- Settles O12. -/
theorem badgePut : Obligations.BadgePut := by
  refine ⟨fun b s h hc hrecords => ⟨fun hbad => ?_, fun f hf hnew => ⟨fun hfull => ?_, fun hroom hslots => ?_⟩⟩,
    fun b f e s h hc hrecords hf hold => ?_⟩
  · obtain ⟨r, hexec⟩ := exec_badgePut h hc
    rw [Option.eq_none_iff_forall_not_mem.2 fun f hf => hbad f ((readBadgeBlock_eq_some_iff b f).1 hf)] at hexec
    exact ⟨_, hexec, onlyAnswered_load ..⟩
  · obtain ⟨r, hexec⟩ := exec_badgePut_new h hc hf hnew
    rw [putNew_full r hfull] at hexec
    exact ⟨_, hexec, onlyAnswered_load ..⟩
  · obtain ⟨r, hexec⟩ := exec_badgePut_new h hc hf hnew
    have hlength (slot : Option Nat) : (s.badges.inserted f slot).entries.length = s.badges.entries.length + 1 :=
      insertEntry_length _ _
    by_cases hhome : f.home = s.ownStation
    · obtain ⟨slot, hslot⟩ := PayUnit.freeSlot_of_lt (hslots hhome)
      rw [putNew_here r hroom hhome hslot] at hexec
      obtain ⟨hdone, honly, hflag, hbadges, hpay⟩ := tablesTaken_spec s r (s.badges.inserted f (some slot)) (s.pay.allocate slot)
      exact ⟨_, some slot, hexec, hdone, honly, hflag, tableChanged_insert hnew hbadges, hlength _, rfl,
        fun _ => ⟨slot, rfl, allocated_of_freeSlot hrecords hslot hpay⟩, fun hne => absurd hhome hne⟩
    · rw [putNew_elsewhere r hroom hhome] at hexec
      obtain ⟨hdone, honly, hflag, hbadges, hpay⟩ := tablesTaken_spec s r (s.badges.inserted f none) s.pay
      exact ⟨_, none, hexec, hdone, honly, hflag, tableChanged_insert hnew hbadges, hlength _, rfl,
        fun h => absurd h hhome, fun _ => ⟨rfl, hpay⟩⟩
  · obtain ⟨r, hexec⟩ := exec_badgePut_old h hc hf hold
    rw [putOld_eq] at hexec
    intro busy replaced
    have hreplaced (slot : Option Nat) (p : PayUnit) :
        replaced (s.tablesTaken r (s.replaceEntry f slot).badges p) slot := by
      obtain ⟨hdone, honly, hflag, hbadges, hpay⟩ := tablesTaken_spec s r (s.replaceEntry f slot).badges p
      exact ⟨hdone, honly, hflag, tableChanged_replace hold hbadges, rfl, List.length_map _⟩
    refine ⟨fun slot hslot hhome => ?_, fun slot hslot hhome hbusy => ?_, fun slot hslot hhome hbusy => ?_,
      fun hslot hhome => ?_, fun hslot hhome hfull => ?_, fun hslot hhome hroom => ?_⟩ <;> rw [hslot] at hexec
    · exact ⟨_, hexec.trans (congrArg Host.Outcome.next (if_pos hhome)), hreplaced (some slot) s.pay, rfl⟩
    · exact ⟨_, hexec.trans (congrArg Host.Outcome.next ((if_neg hhome).trans (if_pos ((busy_iff slot).2 hbusy)))),
        onlyAnswered_load ..⟩
    · exact ⟨_, hexec.trans (congrArg Host.Outcome.next ((if_neg hhome).trans (if_neg (mt (busy_iff slot).1 hbusy)))),
        hreplaced none _, freed_of_eq rfl⟩
    · exact ⟨_, hexec.trans (congrArg Host.Outcome.next (if_neg hhome)), hreplaced none s.pay, rfl⟩
    · rw [(s.pay.freeSlot_eq_none_iff).2 hfull] at hexec
      exact ⟨_, hexec.trans (congrArg Host.Outcome.next (if_pos hhome)), onlyAnswered_load ..⟩
    · obtain ⟨slot, hslot⟩ := PayUnit.freeSlot_of_lt hroom
      rw [hslot] at hexec
      exact ⟨_, slot, hexec.trans (congrArg Host.Outcome.next (if_pos hhome)), hreplaced (some slot) _,
        allocated_of_freeSlot hrecords hslot rfl⟩

/-! ## BADGE DROP -/

theorem exec_badgeDrop (h : s.served) {force : BitVec 16} {badge : BitVec 24} (hc : s.portTakes (.badgeDrop force badge)) :
    ∃ r : Request, exec (.badgeDrop force badge) s = .next
      (if isBadge badge.toNat = true ∧ force.toNat < 2 then
        match s.lookup badge.toNat with
        | none => (s.load r).answer .noEntry
        | some e => (s.load r).dropBadge e (decide (force = 1))
      else (s.load r).answer .badValue) := by
  refine ⟨{ code := 0x21, b := some force, data := leBytes 3 badge.toNat },
    congrArg Host.Outcome.next ((s.command_taken _ _ .served _ h.1 hc h.2).trans ?_)⟩
  simp only [State.load_lookup] <;> rfl

/-- BADGE DROP of an entry: the closing of a forced open IN goes with the record (R6). -/
theorem dropBadge_eq (r : Request) (e : BadgeEntry) (force : Bool) :
    (s.load r).dropBadge e force =
      match e.paySlot with
      | none => s.tablesTaken r (s.removeEntry e).badges s.pay
      | some slot =>
        if ((s.pay.record slot).map fun x => x.openIn.isSome).getD false = true ∧ force = false then (s.load r).answer .stillOpen
        else s.tablesTaken r (s.removeEntry e).badges (s.pay.free slot) := by
  have hremove : (s.removeEntry e).badges = ((s.load r).removeEntry e).badges := by
    rw [State.removeEntry, State.modBadges_badges, ← State.load_badges s r]
    rfl
  unfold State.dropBadge State.tablesTaken
  rw [hremove, ← State.load_pay s r]
  cases e.paySlot with
  | none => rfl
  | some slot =>
    dsimp only
    rw [← PayUnit.free_modRecord _ slot fun x => x.closeMissingOut (s.load r).pay.today]
    rfl

theorem openHere_iff (slot : Nat) : ((s.pay.record slot).map fun x => x.openIn.isSome).getD false = true ↔
    ∃ r, s.pay.record slot = some r ∧ r.openIn.isSome = true := by
  cases s.pay.record slot <;> simp

/-- Settles O13. -/
theorem badgeDrop : Obligations.BadgeDrop := by
  intro force badge s h hc n good openHere
  obtain ⟨r, hexec⟩ := exec_badgeDrop h hc
  have hgood : good ↔ isBadge n = true ∧ force.toNat < 2 := by rw [isBadge_iff]; simp only [good]; omega
  refine ⟨fun hbad => ?_, fun hg hnone => ?_, fun e hg he => ?_⟩
  · rw [if_neg fun h => hbad (hgood.2 h)] at hexec
    exact ⟨_, hexec, onlyAnswered_load ..⟩
  · rw [if_pos (hgood.1 hg), hnone] at hexec
    exact ⟨_, hexec, onlyAnswered_load ..⟩
  · rw [if_pos (hgood.1 hg), he] at hexec
    dsimp only at hexec
    rw [dropBadge_eq] at hexec
    refine ⟨fun hforce hopen => ?_, fun hdrop => ?_⟩
    · obtain ⟨slot, x, hslot, hx, hin⟩ := hopen
      rw [hslot] at hexec
      exact ⟨_, hexec.trans (congrArg Host.Outcome.next (if_pos ⟨(openHere_iff slot).2 ⟨x, hx, hin⟩, by subst hforce; rfl⟩)),
        onlyAnswered_load ..⟩
    · cases hslot : e.paySlot with
      | none =>
        rw [hslot] at hexec
        obtain ⟨hdone, honly, hflag, hbadges, hpay⟩ := tablesTaken_spec s r (s.removeEntry e).badges s.pay
        exact ⟨_, hexec, hdone, honly, hflag, tableChanged_remove he hbadges, rfl, fun _ => hpay, nofun⟩
      | some slot =>
        have hopen : ¬ (((s.pay.record slot).map fun x => x.openIn.isSome).getD false = true ∧ decide (force = 1) = false) := by
          rintro ⟨hopen, hforce⟩
          obtain ⟨x, hx, hin⟩ := (openHere_iff slot).1 hopen
          exact hdrop.elim (of_decide_eq_false hforce) fun hnot => hnot ⟨slot, x, hslot, hx, hin⟩
        rw [hslot] at hexec
        obtain ⟨hdone, honly, hflag, hbadges, hpay⟩ := tablesTaken_spec s r (s.removeEntry e).badges (s.pay.free slot)
        refine ⟨_, hexec.trans (congrArg Host.Outcome.next (if_neg hopen)), hdone, honly, hflag, tableChanged_remove he hbadges, rfl,
          nofun, fun k hk => ?_⟩
        cases hk
        exact freed_of_eq hpay

end

end Sys2Proof.Machine
end

section
/-! SUPPORT. Lanes driven in any station state (R24), the holds of a lane and of the station (R39, R151 to R153), and READY
(R177). -/

namespace Sys2Proof.Machine

/-! ## The strike drive in any station state -/

/-- A change that leaves the lane as it is changes nothing. -/
theorem State.eq_modLane {s : State} {l : Lane} {f : LaneUnit → LaneUnit} (h : f (s.lane l) = s.lane l) : s = s.modLane l f :=
  (s.modLane_self l).symm.trans (State.modLane_congr h.symm)

section
variable (s : State) (l : Lane)

/-- The drive that R24 gives a lane in the station state. -/
def State.driveFor (u : LaneUnit) : Bool :=
  match s.station with
  | .setup | .join => false
  | .evacuate => true
  | .holdover => decide ((s.sw1 l).failMode = .release)
  | .live | .held => liveDrive u

/-- A lane with its strike driven as R24 gives, a sense check started with a change (R20). -/
def State.redriven (u : LaneUnit) : LaneUnit :=
  if s.driveFor l u = u.drive then u
  else
    { u with
      drive := s.driveFor l u
      senseCheck := if u.kind ≠ .off ∧ s.station ≠ .holdover then some senseCheckTime else u.senseCheck }

theorem State.driveOf_eq : s.driveOf l = s.driveFor l (s.lane l) := by
  unfold State.driveOf State.driveFor
  cases s.station <;> rfl

theorem State.refreshDrive_eq : s.refreshDrive l = s.modLane l (s.redriven l) := by
  unfold State.refreshDrive
  rw [s.driveOf_eq l]
  split
  next h => exact State.eq_modLane (if_pos h)
  next h => exact State.modLane_congr (if_neg h).symm

theorem State.modLane_refreshDrive (f : LaneUnit → LaneUnit) :
    (s.modLane l f).refreshDrive l = s.modLane l fun u => s.redriven l (f u) := by
  rw [State.refreshDrive_eq, State.modLane_modLane]
  rfl

variable {s l}

theorem State.redriven_off {u : LaneUnit} {d : Bool} (h : u.kind = .off) (hd : s.driveFor l u = d) :
    s.redriven l u = { u with drive := d } := by
  unfold State.redriven
  rw [hd]
  split
  next h => rw [h]
  next => simp [h]

theorem State.redriven_fitted {u : LaneUnit} {d : Bool} (h : u.kind ≠ .off) (hs : s.station ≠ .holdover) (hd : s.driveFor l u = d) :
    s.redriven l u = drivenLane u d := by
  unfold State.redriven drivenLane
  rw [hd]
  split
  next h => rw [h, if_pos rfl]
  next hne => simp [h, hs, Ne.symm hne, senseCheckTime]

end

/-- A step taken by every lane in turn that may ask of a lane only what the others leave alone. -/
theorem State.foldl_modLane {op : State → Lane → State} {g : Lane → LaneUnit → LaneUnit} (s : State)
    (hop : ∀ (p : PerLane LaneUnit) (l : Lane), op (s.modLanes fun _ => p) l = (s.modLanes fun _ => p).modLane l (g l)) :
    Lane.all.foldl op s = s.modLanes (PerLane.mapEach g) :=
  s.foldl_lanes (fun _ => True) (fun p l _ => hop p l) fun _ => trivial

/-! ## A lane that comes to rest -/

section
variable (s : State) (l : Lane)

/-- A lane put in OPEN, its strike driven (R19, R29). -/
def State.openedLane (d : Bool) (u : LaneUnit) : LaneUnit :=
  s.redriven l { u with state := .opened, openDrive := d, heldOpen := s.heldOpenStart l, releaseTimer := none }

/-- A lane that comes to rest: OPEN behind an open door, and otherwise HELD or IDLE (R39, R40, R43). -/
def State.settledLane (u : LaneUnit) : LaneUnit :=
  if u.doorOpen then s.openedLane l false u
  else s.redriven l { u with state := s.restState l, heldOpen := none }

theorem State.openDoor_eq (d : Bool) : s.openDoor l d = s.modLane l (s.openedLane l d) := s.modLane_refreshDrive l _

theorem State.settleLane_eq : s.settleLane l = s.modLane l (s.settledLane l) := by
  unfold State.settleLane
  split
  next h =>
    rw [s.openDoor_eq l]
    exact State.modLane_congr (if_pos h).symm
  next h =>
    rw [s.modLane_refreshDrive l]
    exact State.modLane_congr (if_neg h).symm

variable {s l}

theorem State.heldOpenStart_eq (hs : s.station ≠ .holdover) : s.heldOpenStart l =
    if s.station = .evacuate then none else some (16 * (s.sw2.limits.get l).heldOpen) := by
  have hlimit : s.heldOpenLimit l = 16 * (s.sw2.limits.get l).heldOpen := Nat.mul_comm ..
  unfold State.heldOpenStart
  rw [hlimit]
  cases h : s.station <;> first | rfl | exact absurd h hs

theorem State.driveFor_locked {u : LaneUnit} (hs : s.station ≠ .holdover) (hu : liveDrive u = false) :
    s.driveFor l u = decide (s.station = .evacuate) := by
  unfold State.driveFor
  cases h : s.station <;> first | rfl | exact hu | exact absurd h hs

theorem State.openedLane_false {u : LaneUnit} (hk : u.kind ≠ .off) (hs : s.station ≠ .holdover) :
    s.openedLane l false u = doorOpened s l u := by
  unfold State.openedLane doorOpened
  rw [State.heldOpenStart_eq hs]
  exact State.redriven_fitted hk hs (State.driveFor_locked hs rfl)

theorem State.settledLane_door {u : LaneUnit} (hs : s.station ≠ .holdover) (hd : u.kind = .door ∧ u.aux.level = some true) :
    s.settledLane l u = doorOpened s l u :=
  (if_pos ((LaneUnit.doorOpen_iff u).2 hd)).trans (State.openedLane_false (by rw [hd.1]; nofun) hs)

theorem State.settledLane_rest {u : LaneUnit} (hs : s.station ≠ .holdover) (hk : u.kind ≠ .off)
    (hd : ¬ (u.kind = .door ∧ u.aux.level = some true)) : s.settledLane l u =
      drivenLane { u with state := s.restState l, heldOpen := none } (decide (s.station = .evacuate)) := by
  refine (if_neg (mt (LaneUnit.doorOpen_iff u).1 hd)).trans (State.redriven_fitted hk hs (State.driveFor_locked hs ?_))
  unfold State.restState
  split <;> rfl

theorem State.settledLane_off {u : LaneUnit} (hs : s.station ≠ .holdover) (hk : u.kind = .off) : s.settledLane l u =
      { u with state := s.restState l, heldOpen := none, drive := decide (s.station = .evacuate) } := by
  have hd : ¬ (u.kind = .door ∧ u.aux.level = some true) := by rw [hk]; nofun
  refine (if_neg (mt (LaneUnit.doorOpen_iff u).1 hd)).trans (State.redriven_off hk (State.driveFor_locked hs ?_))
  unfold State.restState
  split <;> rfl

theorem laneHeld_iff : s.laneHeld l = true ↔ heldLane s l := by
  simp [State.laneHeld, heldLane]

theorem State.restState_held (h : heldLane s l) : s.restState l = .held := if_pos (laneHeld_iff.2 h)
theorem State.restState_idle (h : ¬ heldLane s l) : s.restState l = .idle := if_neg (mt laneHeld_iff.1 h)

end

/-! ## Hold reasons -/

section
variable (s : State)

/-- The hold context after a reason is added (R152). -/
def State.heldContext (r : HoldReason) (l : Option Lane) : Option HoldContext :=
  if s.anyHold then s.control.context
  else some { time := s.clock.time, reason := r, lane := l, lanes := s.lanes.map LaneUnit.context }

theorem State.takeContext_eq (r : HoldReason) (l : Option Lane) :
    s.takeContext r l = s.modControl fun c => { c with context := s.heldContext r l } := by
  unfold State.takeContext State.heldContext
  split <;> rfl

theorem noReason_iff : noReason s ↔ s.anyHold = false := by
  rw [← Bool.not_eq_true, anyHold_iff, noReason]
  push Not
  rfl

variable {s}

theorem contextTaken_of_eq {t : State} {r : HoldReason} {l : Option Lane} (h : t.control.context = s.heldContext r l) :
    ContextTaken s t r l := by
  refine ⟨fun hn => ?_, fun hn => ?_⟩
  · rw [h, State.heldContext, (noReason_iff s).1 hn]
    rfl
  · rw [h, State.heldContext, if_pos (Bool.not_eq_false _ ▸ mt (noReason_iff s).2 hn)]

/-- A lane after a reason of its own was added: from IDLE to HELD in JOIN, LIVE and HELD (R39). -/
def State.heldBy (s : State) (u : LaneUnit) : LaneUnit :=
  if u.state = .idle ∧ (s.station = .join ∨ s.station = .live ∨ s.station = .held) then { u with state := .held } else u

theorem State.reachHold_eq {l : Lane} (h : s.laneHeld l = true) : s.reachHold l = s.modLane l s.heldBy := by
  have hkept (hs : ¬ (s.station = .join ∨ s.station = .live ∨ s.station = .held)) : s = s.modLane l s.heldBy :=
    State.eq_modLane (if_neg fun hb => hs hb.2)
  have hreached (hs : s.station = .join ∨ s.station = .live ∨ s.station = .held) :
      (if (s.lane l).state = .idle ∧ s.laneHeld l = true then s.modLane l fun u => { u with state := .held } else s) =
        s.modLane l s.heldBy := by
    split
    next hi => exact State.modLane_congr (if_pos ⟨hi.1, hs⟩).symm
    next hi => exact State.eq_modLane (if_neg fun hb => hi ⟨hb.1, h⟩)
  unfold State.reachHold
  split
  next hx => exact hreached (.inl hx)
  next hx => exact hreached (.inr (.inl hx))
  next hx => exact hreached (.inr (.inr hx))
  next h1 h2 h3 => exact hkept fun h => h.elim h1 fun h => h.elim h2 h3

theorem State.addLaneReason_same {l : Lane} {r : HoldReason} (h : r ∈ s.control.laneReasons.get l) : s.addLaneReason l r = s :=
  if_pos (List.contains_iff_mem.2 h)

/-- A new reason of a lane (R151, R152). -/
theorem State.addLaneReason_new {l : Lane} {r : HoldReason} (h : r ∉ s.control.laneReasons.get l) :
    s.addLaneReason l r =
      { s with
        lanes := s.lanes.set l (s.heldBy (s.lane l))
        control :=
          { s.control with
            laneReasons := s.control.laneReasons.set l (s.control.laneReasons.get l ++ [r])
            context := s.heldContext r (some l) } } := by
  refine (if_neg (mt List.contains_iff_mem.1 h)).trans ?_
  rw [s.takeContext_eq r (some l), State.reachHold_eq]
  · rfl
  · exact laneHeld_iff.2 (.inl (by simp))

theorem laneHeldBy_addLaneReason (s : State) (l : Lane) (r : HoldReason) : LaneHeldBy s (s.addLaneReason l r) l r := by
  refine ⟨fun h => by rw [State.addLaneReason_same h]; exact ⟨rfl, rfl⟩, fun h => ?_⟩
  rw [State.addLaneReason_new h]
  refine ⟨rfl, contextTaken_of_eq rfl, fun k => ?_⟩
  show (s.lanes.set l (s.heldBy (s.lane l))).get k = _
  rw [PerLane.get_set]
  by_cases hk : k = l
  · subst hk
    simp [State.heldBy]
  · simp [hk]

theorem State.addLaneReason_only (s : State) (l : Lane) (r : HoldReason) :
    s.addLaneReason l r = { s with lanes := (s.addLaneReason l r).lanes, control := (s.addLaneReason l r).control } := by
  by_cases h : r ∈ s.control.laneReasons.get l
  · rw [State.addLaneReason_same h]
  · rw [State.addLaneReason_new h]

theorem State.addStationReason_same {r : HoldReason} (h : r ∈ s.control.stationReasons) : s.addStationReason r = s :=
  if_pos (List.contains_iff_mem.2 h)

/-- A new reason of the station (R151, R152). -/
theorem State.addStationReason_new {r : HoldReason} (h : r ∉ s.control.stationReasons) :
    s.addStationReason r =
      { s with
        lanes := s.lanes.map fun u => if s.station = .live ∧ u.state = .idle then { u with state := .held } else u
        control :=
          { s.control with
            stationReasons := s.control.stationReasons ++ [r]
            station := if s.station = .live then .held else s.station
            context := s.heldContext r none } } := by
  refine (if_neg (mt List.contains_iff_mem.1 h)).trans ?_
  rw [s.takeContext_eq r none]
  split
  next hlive =>
    rw [State.foldl_modLane (g := fun _ u => if u.state = .idle then { u with state := .held } else u)]
    · simp only [hlive, true_and]
      rfl
    · intro p l
      refine (State.reachHold_eq (laneHeld_iff.2 (.inr rfl))).trans (State.modLane_congr ?_)
      exact if_congr (and_iff_left (.inr (.inr rfl))) rfl rfl
  next hlive =>
    simp only [hlive, false_and, if_false]
    rfl

theorem stationHeldBy_addStationReason (s : State) (r : HoldReason) : StationHeldBy s (s.addStationReason r) r := by
  refine ⟨fun h => by rw [State.addStationReason_same h]; exact ⟨rfl, rfl⟩, fun h => ?_⟩
  rw [State.addStationReason_new h]
  exact ⟨rfl, contextTaken_of_eq rfl, fun l => PerLane.get_map ..⟩

theorem State.addStationReason_only (s : State) (r : HoldReason) :
    s.addStationReason r = { s with lanes := (s.addStationReason r).lanes, control := (s.addStationReason r).control } := by
  by_cases h : r ∈ s.control.stationReasons
  · rw [State.addStationReason_same h]
  · rw [State.addStationReason_new h]

end

/-! ## HOLD and RESUME -/

section
variable {s : State}

theorem exec_hold (h : s.served) {a : BitVec 16} (hc : s.portTakes (.hold a)) :
    ∃ r : Request, exec (.hold a) s = .next (if a = 0 then ((s.load r).addStationReason .terminal).answer .done
      else match Lane.ofNumber a.toNat with
        | some l => ((s.load r).addLaneReason l .terminal).answer .done
        | none => (s.load r).answer .badValue) :=
  ⟨{ code := 0x60, a := some a }, congrArg Host.Outcome.next ((s.command_taken _ _ .served _ h.1 hc h.2).trans (by rfl))⟩

/-- A change of the lanes and of station control on a loaded state, answered: nothing else of the state before changes. -/
theorem State.answer_heldChange {s x t : State} (r : Request) (h : x = s.load r)
    (ht : t = { x with lanes := t.lanes, control := t.control }) (c : ResultCode) :
    Completed s (t.answer c) c ∧
      t.answer c = { s with lanes := (t.answer c).lanes, control := (t.answer c).control, port := (t.answer c).port } ∧
      (t.answer c).port.payFlag = s.port.payFlag := by
  subst h
  have hport : t.port = (s.load r).port := by rw [ht]
  refine ⟨completed_answer c (by rw [hport]; simp), ?_, by rw [State.answer_payFlag, hport]; simp⟩
  calc t.answer c = { t with port := (t.answer c).port } := rfl
    _ = { s.load r with lanes := t.lanes, control := t.control, port := (t.answer c).port } := by rw [ht]
    _ = _ := by rw [State.load_only]; rfl

theorem StationHeldBy.of_load {s t : State} {r : Request} {x : HoldReason} (h : StationHeldBy (s.load r) t x) : StationHeldBy s t x := by
  rw [State.load_only] at h
  exact h

theorem LaneHeldBy.of_load {s t : State} {r : Request} {l : Lane} {x : HoldReason} (h : LaneHeldBy (s.load r) t l x) :
    LaneHeldBy s t l x := by
  rw [State.load_only] at h
  exact h

/-- An ALARM claim that sounds is stopped (R153). -/
theorem State.stopAlarm_eq (s : State) : ∃ b, s.stopAlarm = { s with bell := { s.bell with arbiter := b } } ∧
    ((∃ x, s.bell.arbiter = some x ∧ x.rank = .alarm) → b = none) ∧
    ((∀ x, s.bell.arbiter = some x → x.rank ≠ .alarm) → b = s.bell.arbiter) := by
  unfold State.stopAlarm
  split
  next halarm => exact ⟨none, rfl, fun _ => rfl, fun hn => absurd rfl (hn _ halarm)⟩
  next hother =>
    refine ⟨s.bell.arbiter, rfl, ?_, fun _ => rfl⟩
    rintro ⟨⟨rank, pattern, entry, repeatNo, on, left⟩, hx, halarm⟩
    cases halarm
    exact (hother _ _ _ _ _ hx).elim

/-- Station control with every hold ended (R153). -/
def unheldControl (c : Control) : Control :=
  { c with station := if c.station = .held then .live else c.station, stationReasons := [], laneReasons := .same [], context := none }

/-- A lane whose hold ends: outside EVACUATE a lane in HELD comes to rest (R39, R153). -/
def State.unheldLane (s : State) (l : Lane) (u : LaneUnit) : LaneUnit :=
  if u.state = .held ∧ s.station ≠ .evacuate then (s.modControl unheldControl).settledLane l u else u

theorem unheldControl_station (c : Control) : (unheldControl c).station ≠ .held := by
  unfold unheldControl
  dsimp only
  split
  · nofun
  · assumption

theorem not_heldLane_unheld (s : State) (l : Lane) : ¬ heldLane (s.modControl unheldControl) l := by
  rintro (h | h)
  · exact h (by cases l <;> rfl)
  · exact unheldControl_station s.control h

theorem State.endHolds_eq (s : State) (h : s.station.serving = true) :
    s.endHolds = { s with
      lanes := PerLane.mapEach s.unheldLane s.lanes, bell := s.stopAlarm.bell, control := unheldControl s.control } := by
  obtain ⟨b, hstop, -⟩ := s.stopAlarm_eq
  have hcleared : s.stopAlarm.modControl unheldControl = { s with bell := s.stopAlarm.bell, control := unheldControl s.control } := by
    rw [hstop]
    rfl
  have hstands (hs : s.station = .evacuate) : PerLane.mapEach s.unheldLane s.lanes = s.lanes := by
    simp [PerLane.mapEach, State.unheldLane, hs]
  have hended (hs : s.station ≠ .evacuate) : Lane.all.foldl (fun x l => State.endHold x l) (s.stopAlarm.modControl unheldControl) =
      { s with lanes := PerLane.mapEach s.unheldLane s.lanes, bell := s.stopAlarm.bell, control := unheldControl s.control } := by
    rw [hcleared, State.foldl_modLane (g := s.unheldLane)]
    · rfl
    · intro p l
      have hheld : ¬ heldLane (({ s with bell := s.stopAlarm.bell, control := unheldControl s.control } : State).modLanes fun _ => p) l :=
        not_heldLane_unheld s l
      unfold State.endHold
      rw [Bool.eq_false_iff.2 (mt laneHeld_iff.1 hheld), State.settleLane_eq]
      split
      next hu => exact State.modLane_congr (if_pos ⟨hu.1, hs⟩).symm
      next hu => exact State.eq_modLane (if_neg fun hb => hu ⟨hb.1, rfl⟩)
  unfold State.endHolds
  change (match s.station with
    | .join | .live | .held => Lane.all.foldl (fun x l => State.endHold x l) (s.stopAlarm.modControl unheldControl)
    | _ => s.stopAlarm.modControl unheldControl) = _
  cases hs : s.station with
  | join | live | held => exact hended (by rw [hs]; nofun)
  | evacuate => rw [hstands hs]; exact hcleared
  | setup | holdover => rw [hs] at h; cases h

theorem exec_resume (h : s.served) (hc : s.portTakes .resume) :
    ∃ r : Request, exec .resume s = .next ((s.load r).endHolds.answer .done) :=
  ⟨{ code := 0x61 }, congrArg Host.Outcome.next ((s.command_taken _ _ .served _ h.1 hc h.2).trans (by rfl))⟩

/-- A lane as RESUME leaves it (R39, R153). -/
theorem unheldLane_spec (s : State) (h : s.station.serving = true) (l : Lane) (u : LaneUnit) :
    (u.state ≠ .held ∨ s.station = .evacuate → s.unheldLane l u = u) ∧
    (u.state = .held → s.station ≠ .evacuate →
      (u.kind = .door ∧ u.aux.level = some true → s.unheldLane l u = doorOpened s l u) ∧
      (u.kind ≠ .off → ¬ (u.kind = .door ∧ u.aux.level = some true) →
        s.unheldLane l u = drivenLane { u with state := .idle, heldOpen := none } false) ∧
      (u.kind = .off → s.unheldLane l u = { u with state := .idle, heldOpen := none, drive := false })) := by
  refine ⟨fun hu => if_neg fun hb => hu.elim (fun hn => hn hb.1) hb.2, fun hu hs => ?_⟩
  have hunheld : s.unheldLane l u = (s.modControl unheldControl).settledLane l u := if_pos ⟨hu, hs⟩
  have hstation : (s.modControl unheldControl).station ≠ .evacuate ∧ (s.modControl unheldControl).station ≠ .holdover := by
    have hst : (s.modControl unheldControl).station = if s.station = .held then .live else s.station := rfl
    rw [hst]
    split
    · exact ⟨nofun, nofun⟩
    · exact ⟨hs, fun hh => by rw [hh] at h; cases h⟩
  have hidle := State.restState_idle (not_heldLane_unheld s l)
  rw [hunheld]
  refine ⟨fun hd => ?_, fun hk hd => ?_, fun hk => ?_⟩
  · rw [State.settledLane_door hstation.2 hd]
    unfold doorOpened
    simp only [hstation.1, hs, if_false]
    rfl
  · rw [State.settledLane_rest hstation.2 hk hd, hidle, decide_eq_false hstation.1]
  · rw [State.settledLane_off hstation.2 hk, hidle, decide_eq_false hstation.1]

/-- RESUME on the state that the port hands on. -/
theorem State.load_endHolds (s : State) (r : Request) (h : s.station.serving = true) :
    ∃ b, (s.load r).endHolds = { s.load r with
        lanes := PerLane.mapEach s.unheldLane s.lanes, bell := { s.bell with arbiter := b }, control := unheldControl s.control } ∧
      ((∃ x, s.bell.arbiter = some x ∧ x.rank = .alarm) → b = none) ∧
      ((∀ x, s.bell.arbiter = some x → x.rank ≠ .alarm) → b = s.bell.arbiter) := by
  obtain ⟨b, hstop, halarm, hother⟩ := (s.load r).stopAlarm_eq
  have hbell : (s.load r).bell = s.bell := by simp
  rw [hbell] at halarm hother
  refine ⟨b, ?_, halarm, hother⟩
  rw [State.endHolds_eq _ (by rw [State.load_station]; exact h), hstop, hbell]
  rw [State.load_only]
  rfl

/-- Settles O20. -/
theorem holdAndResume : Obligations.HoldAndResume := by
  refine ⟨fun a s h hc => ⟨fun hlarge => ?_, fun ha => ?_⟩, fun s h hc => ?_⟩
  · obtain ⟨r, hexec⟩ := exec_hold h hc
    have hzero : a ≠ 0 := by rintro rfl; exact absurd hlarge (by decide)
    rw [if_neg hzero, Lane.ofNumber_eq_none_iff.2 (by omega)] at hexec
    exact ⟨_, hexec, onlyAnswered_load ..⟩
  · obtain ⟨r, hexec⟩ := exec_hold h hc
    by_cases hzero : a = 0
    · rw [if_pos hzero] at hexec
      obtain ⟨hdone, honly, hflag⟩ := State.answer_heldChange r rfl ((s.load r).addStationReason_only .terminal) .done
      refine ⟨_, hexec, hdone, honly, hflag, fun _ => ?_, fun l hl => ?_⟩
      · exact (stationHeldBy_addStationReason (s.load r) .terminal).of_load
      · subst hzero
        exact absurd hl (by cases l <;> decide)
    · have hpos : a.toNat ≠ 0 := fun h => hzero (BitVec.eq_of_toNat_eq h)
      obtain ⟨l, hl⟩ := Option.ne_none_iff_exists'.1 (mt (Lane.ofNumber_eq_none_iff (n := a.toNat)).1 (by omega))
      rw [if_neg hzero, hl] at hexec
      obtain ⟨hdone, honly, hflag⟩ := State.answer_heldChange r rfl ((s.load r).addLaneReason_only l .terminal) .done
      refine ⟨_, hexec, hdone, honly, hflag, fun h => absurd h hzero, fun k hk => ?_⟩
      rw [hk, Lane.ofNumber_number] at hl
      cases hl
      exact (laneHeldBy_addLaneReason (s.load r) _ .terminal).of_load
  · obtain ⟨r, hexec⟩ := exec_resume h hc
    obtain ⟨b, hended, halarm, hother⟩ := s.load_endHolds r h.2
    rw [hended] at hexec
    refine ⟨_, hexec, completed_answer .done (by simp), ?_, by simp, rfl, rfl, halarm, hother, fun l => ?_⟩
    · rw [State.load_only]
      rfl
    · have hlane := unheldLane_spec s h.2 l (s.lane l)
      rw [← PerLane.get_mapEach s.unheldLane] at hlane
      exact hlane

end

end Sys2Proof.Machine
end

section
/-! SUPPORT. READY (R177). -/

namespace Sys2Proof.Machine

section
variable {s : State}

theorem exec_ready (h : s.inSetup) (hc : s.portTakes .ready) :
    ∃ r : Request, exec .ready s = .next (if s.marks.complete then (s.load r).getReady.answer .done
      else (s.load r).answerReply .incomplete (.incomplete s.marks)) := by
  refine ⟨{ code := 0x16 }, congrArg Host.Outcome.next ((s.command_setup _ _ _ h.1 hc h.2).trans ?_)⟩
  have hmarks (r : Request) : (s.load r).marks = s.marks := by
    rw [State.load_only]
    rfl
  rw [hmarks]

theorem marks_complete_iff (m : WrittenMarks) : m.complete = true ↔ m = ⟨true, true, true, true, true, true, true⟩ := by
  obtain ⟨sw0, sw1, sw2, sw3, sw4, sw5, clockSet⟩ := m
  simp [WrittenMarks.complete, and_assoc]

/-- A lane at READY (R177). -/
def State.readyLane (s : State) (l : Lane) (u : LaneUnit) : LaneUnit :=
  if s.inputs.strap.get l = true ∧ (s.sw1 l).kind ≠ .off then
    { u with kind := (s.sw1 l).kind, state := .idle, aux := s.seek, sense := s.seek }
  else { u with kind := .off, state := .off, aux := .reset, sense := .reset }

/-- READY, block by block (R177). -/
theorem State.getReady_eq (s : State) : s.getReady =
    { s with
      lanes := PerLane.mapEach s.readyLane s.lanes
      control :=
        { s.control with
          station := .join, joinTimer := some (sixteenths s.sw3.joinPeriod), contactFound := false
          contactTimer := some s.sw2.debounce }
      pay := { s.pay with today := payDay s.dayRollMinute s.clock.time }
      clock := { s.clock with countedFrom := s.clock.time }
      journal := { s.journal with next := 0 }
      peers := { s.peers with entries := s.peers.entries.map fun e => { e with offset := none } }
      line := { s.line with fresh := true }
      supply := s.supply.joinEntry s.inputs.gateLow } := by
  unfold State.getReady
  rw [State.foldl_modLane (g := s.readyLane) s fun p l => rfl]
  rfl

theorem readyLane_eq (l : Lane) (u : LaneUnit) : s.readyLane l u =
    let fitted : Prop := s.inputs.strap.get l = true ∧ (s.sw1 l).kind ≠ .off
    let sought : Debounced := { level := none, timer := some s.sw2.debounce }
    { u with
      kind := if fitted then (s.sw1 l).kind else .off
      state := if fitted then .idle else .off
      aux := if fitted then sought else .reset
      sense := if fitted then sought else .reset } := by
  by_cases h : s.inputs.strap.get l = true ∧ (s.sw1 l).kind ≠ .off
  · simp only [State.readyLane, if_pos h]
    rfl
  · simp only [State.readyLane, if_neg h]

/-- Settles O11. -/
theorem ready : Obligations.Ready := by
  intro s h hc marks complete
  obtain ⟨r, hexec⟩ := exec_ready h hc
  have hcomplete : s.marks.complete = true ↔ complete := marks_complete_iff s.marks
  refine ⟨fun hmissing => ?_, fun hall => ?_⟩
  · rw [if_neg (mt hcomplete.1 hmissing)] at hexec
    exact ⟨_, hexec, onlyAnswered_loadReply .., rfl⟩
  · rw [if_pos (hcomplete.2 hall), State.getReady_eq] at hexec
    refine ⟨_, hexec, completed_answer .done (by simp), by simp, fun l => ?_, ?_⟩
    · rw [State.load_only]
      exact (PerLane.get_mapEach ..).trans (readyLane_eq l (s.lane l))
    · rw [State.load_only]
      refine ⟨?_, rfl, rfl, rfl, rfl, rfl, rfl, rfl, rfl, rfl, rfl, rfl, rfl, rfl⟩
      show ({ s.control with
        station := .join, joinTimer := some (s.sw3.joinPeriod * 16), contactFound := false
        contactTimer := some s.sw2.debounce } : Control) = _
      rw [Nat.mul_comm]

end

end Sys2Proof.Machine
end

section
/-! SUPPORT. The phases of a sounding pattern (R103), the day rolls (R69, R70), and timers that end (R114, R131, R137, R148). -/

namespace Sys2Proof.Machine

/-! ## The phases of a pattern -/

section
variable {s : State}

theorem lastRepeat_iff (x : Sounding) (p : Pattern) : x.lastRepeat p = true ↔
    (x.rank = .scheduled ∧ max 1 p.repeats ≤ x.repeatNo) ∨ (x.rank = .alarm ∧ p.repeats ≠ 0 ∧ p.repeats ≤ x.repeatNo) := by
  unfold Sounding.lastRepeat repeatsOf
  cases x.rank with
  | scheduled => simp
  | alarm => by_cases h : p.repeats = 0 <;> simp [h]
  | evacuation => simp

theorem endsPeriod_iff (x : Sounding) (p : Pattern) : x.endsPeriod p = true ↔ x.on = false ∨ p.period ≤ p.on := by
  simp [Sounding.endsPeriod]

theorem exec_patternPhaseEnd (hr : s.inReset = false) {x : Sounding} (hx : s.bell.arbiter = some x) :
    exec .patternPhaseEnd s = .next (if x.endsPeriod (s.pattern x.pattern) && x.lastRepeat (s.pattern x.pattern) then s
      else s.modBell fun b => { b with arbiter := some (x.nextPhase (s.pattern x.pattern)) }) := by
  refine congrArg Host.Outcome.next ((s.event_taken _ hr).trans ?_)
  rw [hx]

theorem exec_patternComplete (hr : s.inReset = false) {x : Sounding} (hx : s.bell.arbiter = some x) :
    exec .patternComplete s = .next (if x.endsPeriod (s.pattern x.pattern) && x.lastRepeat (s.pattern x.pattern) then s.silence
      else s) := by
  refine congrArg Host.Outcome.next ((s.event_taken _ hr).trans ?_)
  rw [hx]

/-- Settles O39. -/
theorem patternPhases : Obligations.PatternPhases := by
  intro x s hr hx p periodEnds last sounding
  have hends : x.endsPeriod p = true ↔ periodEnds := endsPeriod_iff x p
  have hlast : x.lastRepeat p = true ↔ last := lastRepeat_iff x p
  rw [exec_patternPhaseEnd hr hx, exec_patternComplete hr hx]
  refine ⟨fun he => ?_, fun he hl => ?_, fun he hl => ?_⟩
  · have he : x.endsPeriod p = false := Bool.eq_false_iff.2 (mt hends.1 he)
    rw [he]
    exact ⟨by rw [Sounding.nextPhase, he]; rfl, rfl⟩
  · have hl : x.lastRepeat p = false := Bool.eq_false_iff.2 (mt hlast.1 hl)
    rw [hends.2 he, hl]
    exact ⟨by rw [Sounding.nextPhase, hends.2 he]; rfl, rfl⟩
  · rw [hends.2 he, hlast.2 hl]
    exact ⟨rfl, rfl⟩

end

/-! ## Day rolls -/

/-- The flags of an open IN of an earlier pay day that a roll closes (R59, R70). -/
def oldInFlags (r : PayRecord) (today : Nat) : PayFlags :=
  if r.openIn.any fun i => decide (i.day < today) then 0x010 ||| (if r.openIn.any OpenIn.flagged then 0x020 else 0) else 0

/-- The flags of an orphan OUT of an earlier pay day that a roll discards (R58, R70). -/
def oldOutFlags (r : PayRecord) (roll today : Nat) : PayFlags :=
  if r.orphan.any fun o => decide (payDay roll o.time < today) then 0x008 else 0

/-- EARLY_LEAVE of a slot whose last OUT comes before the end of its class (R70). -/
def earlyFlags (d : DaySlot) (classes : Fin 8 → ShiftClass) (roll : Nat) : PayFlags :=
  if (match d.lastOut with
    | none => false
    | some (o, cls) => ((classes cls).stop roll).any fun e => decide (o < e)) then 0x004 else 0

theorem closeOpenIn_eq (r : PayRecord) (today : Nat) :
    (match r.openIn with
      | some i => if i.day < today then r.closeMissingOut today else r
      | none => r) =
    { r with
      openIn := if r.openIn.any fun i => decide (i.day < today) then none else r.openIn
      previous := { r.previous with flags := r.previous.flags ||| oldInFlags r today } } := by
  unfold oldInFlags PayRecord.closeMissingOut
  obtain ⟨openIn, orphan, current, previous, period, last⟩ := r
  cases openIn with
  | none => simp
  | some i =>
    by_cases h : i.day < today
    · have hne : i.day ≠ today := Nat.ne_of_lt h
      simp [h, hne, PayRecord.modSlot, DaySlot.flag, PayFlag.when, PayFlag.bit]
    · simp [h]

theorem closeOrphan_eq (r : PayRecord) (roll today : Nat) :
    (match r.orphan with
      | some o => if payDay roll o.time < today then r.discardOrphan roll today else r
      | none => r) =
    { r with
      orphan := if r.orphan.any fun o => decide (payDay roll o.time < today) then none else r.orphan
      previous := { r.previous with flags := r.previous.flags ||| oldOutFlags r roll today } } := by
  unfold oldOutFlags PayRecord.discardOrphan
  obtain ⟨openIn, orphan, current, previous, period, last⟩ := r
  cases orphan with
  | none => simp
  | some o =>
    by_cases h : payDay roll o.time < today
    · have hne : payDay roll o.time ≠ today := Nat.ne_of_lt h
      simp [h, hne, PayRecord.modSlot, DaySlot.flag, PayFlag.bit]
    · simp [h]

/-- The open parts of an earlier pay day closed (R70). -/
theorem closeOld_eq (r : PayRecord) (roll today : Nat) : r.closeOld roll today =
    { r with
      openIn := if r.openIn.any fun i => decide (i.day < today) then none else r.openIn
      orphan := if r.orphan.any fun o => decide (payDay roll o.time < today) then none else r.orphan
      previous := { r.previous with flags := r.previous.flags ||| oldInFlags r today ||| oldOutFlags r roll today } } := by
  exact (congrArg (fun a : PayRecord => match a.orphan with
    | some o => if payDay roll o.time < today then a.discardOrphan roll today else a
    | none => a) (closeOpenIn_eq r today)).trans (closeOrphan_eq _ roll today)

theorem judge_eq (d : DaySlot) (classes : Fin 8 → ShiftClass) (roll : Nat) :
    d.judge classes roll = { d with flags := d.flags ||| earlyFlags d classes roll } := by
  unfold DaySlot.judge earlyFlags
  obtain ⟨day, regular, ot1, ot2, night, clamped, intervals, breakMark, lastOut, flags⟩ := d
  cases lastOut with
  | none => simp
  | some x =>
    obtain hstop | ⟨e, hstop⟩ := Option.eq_none_or_eq_some ((classes x.2).stop roll)
    · simp [hstop]
    · by_cases h : x.1 < e <;> simp [hstop, h, DaySlot.flag, PayFlag.bit]

theorem rolledSlot_eq (s : State) (r : PayRecord) :
    r.rolledSlot s.pay.shiftClass s.dayRollMinute s.pay.today = { r.previous with flags := rolledFlags s r } := by
  unfold PayRecord.rolledSlot
  rw [closeOld_eq, judge_eq]
  rfl

/-- A record rolled, as the statements say it (R70). -/
theorem roll_eq (s : State) (r : PayRecord) : r.roll s.pay.shiftClass s.dayRollMinute s.pay.today = rolledRecord s r := by
  unfold PayRecord.roll
  rw [rolledSlot_eq, closeOld_eq]
  rfl

theorem rollOnce_eq (s : State) : s.rollOnce = rolledOnce s := by
  have hrecords : s.pay.records.map (fun x => (x.1, x.2.roll s.pay.shiftClass s.dayRollMinute s.pay.today)) =
      s.pay.records.map fun x => (x.1, rolledRecord s x.2) := by simp only [roll_eq]
  have hflags : s.pay.rollFlags s.dayRollMinute = s.pay.records.any fun x => decide (rolledFlags s x.2 ≠ 0) := by
    simp only [PayUnit.rollFlags, rolledSlot_eq]
  unfold State.rollOnce rolledOnce rolledPayFlag
  rw [hflags, ← hrecords]
  rfl

theorem rollTimes_eq (n : Nat) (s : State) : s.rollTimes n = rolledOnce^[n] s := by
  induction n generalizing s with
  | zero => rfl
  | succ n ih => rw [State.rollTimes, ih, rollOnce_eq, Function.iterate_succ_apply]

theorem takeRolls_eq {s : State} (h : s.station ≠ .setup) :
    s.takeRolls = rolledOnce^[payDay s.dayRollMinute s.clock.time - s.pay.today] s :=
  (if_neg h).trans (rollTimes_eq _ s)

/-- Settles O40. -/
theorem dayRoll : Obligations.DayRoll := by
  intro s hr day c
  have hexec : exec .dayRoll s = .next s.takeRolls := congrArg Host.Outcome.next (s.event_taken _ hr)
  refine ⟨fun h => ?_, fun hs hday => ?_, fun hs => ?_⟩
  · by_cases hs : s.station = .setup
    · rw [hexec, State.takeRolls, if_pos hs]
    · rw [hexec, takeRolls_eq hs, Nat.sub_eq_zero_of_le (h.resolve_left hs)]
      rfl
  · have hone : day - c = 1 := by omega
    rw [hexec, takeRolls_eq hs, hone]
    rfl
  · rw [hexec, takeRolls_eq hs]

/-! ## Timers that end -/

section
variable {s : State}

theorem clearCause_eq (r : FaultRecord) (c : FaultCause) : r.clearCause c = causeCleared r c := by
  unfold FaultRecord.clearCause causeCleared
  by_cases h : c ∈ r.causes
  · rw [if_pos (List.contains_iff_mem.2 h), if_neg (not_not.2 h)]
    simp only [List.isEmpty_iff]
    rfl
  · rw [if_neg (mt List.contains_iff_mem.1 h), if_pos h]

theorem clearLine_eq (h : s.station ≠ .setup) (c : FaultCause) :
    s.clearLine c = { s with faults := { s.faults with line := causeCleared s.faults.line c } } := by
  rw [← clearCause_eq]
  exact if_pos (decide_eq_true h)

theorem exec_peerSilence (hr : s.inReset = false) {p : Station} (hs : s.station.serving = true) (hheard : (s.peer p).state = .heard)
    (hsilence : (s.peer p).silence.isSome = true) : exec (.peerSilence p) s = .next (s.losePeer p) :=
  congrArg Host.Outcome.next ((s.event_taken _ hr).trans (if_pos ⟨hs, hheard, hsilence⟩))

/-- A peer lost (R131): its entry, doubt opened, and PEER_LOST recorded. -/
theorem losePeer_eq (s : State) (p : Station) : s.losePeer p =
    { s with
      peers := { (s.modPeer p fun e => { e with state := .lost, silence := none }).peers with deadline := doubtDeadline s }
      watch := (doubtQueue s s.watch .peerLost (some p)).queue
        { kind := .peerLost, time := s.clock.time, lane := none, badge := none, rule := none, peer := some p,
          detail := none } } := by
  unfold State.losePeer
  rw [State.openDoubt_eq, State.recordIncident_eq]
  rfl

/-- Settles O41. -/
theorem timerEnds : Obligations.TimerEnds := by
  intro s hr
  refine ⟨fun p hs hsized hheard hsilence => ?_, fun htimer hs => ?_, fun n hs => ?_, ⟨s, rfl, rfl, fun ht hi => ?_⟩⟩
  · have hpeer (q : Station) := s.peer_modPeer p q (fun e => { e with state := .lost, silence := none }) hsized.2.2.2.1
    rw [exec_peerSilence hr hs hheard hsilence, losePeer_eq]
    exact ⟨_, rfl, rfl, (hpeer p).trans (if_pos rfl), fun q hq => (hpeer q).trans (if_neg hq), rfl, rfl, rfl⟩
  · refine congrArg Host.Outcome.next ((s.event_taken _ hr).trans ((if_pos htimer).trans ?_))
    exact clearLine_eq (s := s.modLine fun p => { p with clashTimer := none }) hs .clash
  · exact congrArg Host.Outcome.next ((s.event_taken _ hr).trans (if_pos hs))
  · simp [State.doubtActive, ht, hi]

end

end Sys2Proof.Machine
end

section
/-! SUPPORT. The bell output taken by an alarm or by the evacuation pattern (R104, R107), and the detections of the fault monitor
(R189 to R193). -/

namespace Sys2Proof.Machine

/-! ## The output taken from whatever sounds -/

theorem changeFirst_append_of_none {α : Type} {p : α → Bool} {f : α → α} {xs ys : List α} (h : xs.any p = false) :
    changeFirst p f (xs ++ ys) = xs ++ changeFirst p f ys := by
  induction xs with
  | nil => rfl
  | cons x xs ih =>
    rw [List.any_cons, Bool.or_eq_false_iff] at h
    rw [List.cons_append, changeFirst, h.1, ih h.2]
    rfl

/-- The last item of a list that satisfies a property is the one that no later item follows. -/
theorem changeLast_eq_mapIdx {α : Type} (p : α → Bool) (f : α → α) (xs : List α) :
    changeLast p f xs = xs.mapIdx fun k x => if p x && !(xs.drop (k + 1)).any p then f x else x := by
  induction xs using List.reverseRecOn with
  | nil => rfl
  | append_singleton xs x ih =>
    have hlater (k : Nat) (hk : k < xs.length) : ((xs ++ [x]).drop (k + 1)).any p = ((xs.drop (k + 1)).any p || p x) := by
      rw [List.drop_append_of_le_length (by omega)]
      simp
    have hinit : (xs.mapIdx fun k y => if p y && !((xs ++ [x]).drop (k + 1)).any p then f y else y) =
        if p x then xs else changeLast p f xs := by
      split
      next hx =>
        refine List.ext_getElem (by simp) fun k _ hk => ?_
        rw [List.getElem_mapIdx, hlater k hk]
        simp [hx]
      next hx =>
        rw [ih]
        refine List.ext_getElem (by simp) fun k hk _ => ?_
        rw [List.length_mapIdx] at hk
        rw [List.getElem_mapIdx, List.getElem_mapIdx, hlater k hk, Bool.eq_false_iff.2 hx, Bool.or_false]
    rw [List.mapIdx_append, hinit]
    unfold changeLast
    rw [List.reverse_append, List.reverse_singleton, List.singleton_append, changeFirst]
    split
    next hx => simp [hx]
    next hx => simp [hx]

theorem scheduled_sounds {s : State} {p : Fin 8} {e : Fin 48} {n : Nat} {o : Bool} {k : Nat}
    (h : s.bell.arbiter = some { rank := .scheduled, pattern := p, entry := some e, repeatNo := n, on := o, left := k }) :
    scheduledSounds s = true ∧ (s.bell.markCut e).trace = cutTrace s := by
  refine ⟨by simp [scheduledSounds, h], ?_⟩
  have hof (r : BellRecord) : (decide (r.entry = e) && decide (r.outcome = .rung)) =
      (decide (r.outcome = .rung) && s.bell.arbiter.any fun x => decide (x.entry = some r.entry)) := by
    rw [h, Bool.and_comm]
    congr 1
    simp [@eq_comm _ e]
  unfold BellUnit.markCut cutTrace
  dsimp only
  rw [changeLast_eq_mapIdx]
  simp only [hof]

/-- A sounding SCHEDULED claim counted CUT, its record changed (R104, R107). -/
theorem countCut_eq (s : State) : s.countCut = { s with bell := bellTaken s s.bell.arbiter } := by
  unfold State.countCut
  split
  next p e n o k h =>
    obtain ⟨hsounds, htrace⟩ := scheduled_sounds h
    unfold bellTaken
    rw [hsounds, ← htrace]
    rfl
  next hother =>
    have hsilent : scheduledSounds s = false := by
      unfold scheduledSounds
      split
      next x hx =>
        obtain ⟨rank, p, entry, n, o, k⟩ := x
        cases entry with
        | none => simp
        | some e => cases rank <;> first | rfl | exact (hother _ _ _ _ _ hx).elim
      next => rfl
    unfold bellTaken
    rw [hsilent]
    rfl

/-- A claim that takes the output from whatever sounds (R104). -/
theorem countCut_sound_eq (s : State) (rank : Rank) (p : Fin 8) (e : Option (Fin 48)) :
    s.countCut.sound rank p e = { s with bell := bellTaken s (some (claimOf s rank p e)) } := by
  rw [countCut_eq]
  rfl

theorem claimEvacuation_eq {s : State} (h : s.station.serving = true) :
    s.claimEvacuation = { s with bell := bellTaken s (some (claimOf s .evacuation s.sw4.evacPattern none)) } :=
  (if_pos h).trans (countCut_sound_eq s .evacuation s.sw4.evacPattern none)

/-- What the output stops of whatever sounds at entry into HOLDOVER (R105). -/
theorem stopBell_eq (s : State) : s.stopBell = { s with bell := bellTaken s none } := by
  rw [State.stopBell, countCut_eq]
  rfl

/-- An ALARM claim (R104): the bell unit alone changes. -/
theorem claimAlarm_spec (s : State) : s.claimAlarm = { s with bell := s.claimAlarm.bell } ∧ AlarmClaimed s s.claimAlarm := by
  by_cases hs : s.station.serving = true
  · by_cases hevac : ∃ x, s.bell.arbiter = some x ∧ x.rank = .evacuation
    · have hstands : s.claimAlarm = s := by
        obtain ⟨⟨rank, p, entry, n, o, k⟩, hx, hrank⟩ := hevac
        cases hrank
        rw [State.claimAlarm, if_pos hs, hx]
      rw [hstands]
      exact ⟨rfl, fun _ => rfl, fun hn => absurd (.inr hevac) hn⟩
    · have htaken : s.claimAlarm = { s with bell := bellTaken s (some (claimOf s .alarm s.sw4.alarmPattern none)) } := by
        rw [State.claimAlarm, if_pos hs]
        split
        next hx => exact absurd ⟨_, hx, rfl⟩ hevac
        next => exact countCut_sound_eq s .alarm s.sw4.alarmPattern none
      rw [htaken]
      refine ⟨rfl, fun ha => ha.elim (fun hn => ?_) fun hx => absurd hx hevac, fun _ => rfl⟩
      rw [hs] at hn
      cases hn
  · have hstands : s.claimAlarm = s := if_neg hs
    rw [hstands]
    exact ⟨rfl, fun _ => rfl, fun hn => absurd (.inl (Bool.eq_false_iff.2 hs)) hn⟩

/-! ## Detections of the LINE and CLOCK records -/

/-- What a detection leaves of a record (R189). -/
theorem detect_active {r : FaultRecord} (w : FaultSetting) (c : FaultCause) (h : r.state = .active) :
    r.detect w (some c) = { r with causes := if c ∈ r.causes then r.causes else r.causes ++ [c] } := by
  simp [FaultRecord.detect, h]

theorem detect_counts {r : FaultRecord} {w : FaultSetting} (c : FaultCause) (h : r.state ≠ .active) (hw : r.count + 1 < w.filter) :
    r.detect w (some c) = { r with
      state := .counting, count := r.count + 1, causes := if c ∈ r.causes then r.causes else r.causes ++ [c] } := by
  simp [FaultRecord.detect, h, hw]

theorem detect_activates {r : FaultRecord} {w : FaultSetting} (c : FaultCause) (h : r.state ≠ .active) (hw : w.filter ≤ r.count + 1) :
    r.detect w (some c) =
      { state := .active, count := r.count + 1, causes := if c ∈ r.causes then r.causes else r.causes ++ [c],
        action := some w.action } := by
  simp [FaultRecord.detect, h, hw]

theorem activates_iff (r : FaultRecord) (w : FaultSetting) : r.activates w = true ↔ r.state ≠ .active ∧ w.filter ≤ r.count + 1 := by
  simp [FaultRecord.activates]

/-- The action of a LINE or CLOCK record (R191): the lanes, the bell and station control alone change. -/
theorem stationAction_spec (s : State) (k : FaultKind) (a : FaultAction) :
    let t := s.stationAction k a
    t = { s with lanes := t.lanes, bell := t.bell, control := t.control } ∧
      (a = .actNote → t.control = s.control ∧ t.lanes = s.lanes ∧ t.bell = s.bell) ∧
      (a = .actAlarm → t.control = s.control ∧ t.lanes = s.lanes ∧ AlarmClaimed s t) ∧
      (a = .actHold ∨ a = .actOpen → t.bell = s.bell ∧ StationHeldBy s t (.fault k)) := by
  have hheld : let t := s.addStationReason (.fault k)
      t = { s with lanes := t.lanes, bell := t.bell, control := t.control } ∧ t.bell = s.bell ∧ StationHeldBy s t (.fault k) := by
    have honly := s.addStationReason_only (.fault k)
    have hbell : (s.addStationReason (.fault k)).bell = s.bell := by rw [honly]
    exact ⟨by rw [hbell]; exact honly, hbell, stationHeldBy_addStationReason s _⟩
  cases a with
  | actNote => exact ⟨rfl, fun _ => ⟨rfl, rfl, rfl⟩, nofun, nofun⟩
  | actAlarm =>
    obtain ⟨honly, hclaimed⟩ := claimAlarm_spec s
    have hcontrol : s.claimAlarm.control = s.control ∧ s.claimAlarm.lanes = s.lanes := by rw [honly]; exact ⟨rfl, rfl⟩
    refine ⟨?_, nofun, fun _ => ⟨hcontrol.1, hcontrol.2, hclaimed⟩, nofun⟩
    show s.claimAlarm = _
    rw [show (s.stationAction k .actAlarm) = s.claimAlarm from rfl, hcontrol.1, hcontrol.2]
    exact honly
  | actHold => exact ⟨hheld.1, nofun, nofun, fun _ => hheld.2⟩
  | actOpen => exact ⟨hheld.1, nofun, nofun, fun _ => hheld.2⟩

/-- A LINE or CLOCK detection, `put` saying where its record stands (R189, R191). -/
def State.detected (s : State) (put : FaultRecord → FaultMonitor) (r : FaultRecord) (w : FaultSetting) (kind : FaultKind)
    (incident : IncidentKind) (c : FaultCause) : State :=
  if s.station = .setup then s
  else
    let counted := s.modFaults fun _ => put (r.detect w (some c))
    if r.activates w then
      (counted.stationAction kind w.action).recordIncident incident (detail := some (causeDetail c w.action))
    else counted

theorem detectLine_eq (s : State) (c : FaultCause) : s.detectLine c =
    s.detected (fun r => { s.faults with line := r }) s.faults.line s.sw5.line .line .line c := by
  unfold State.detectLine State.detected State.faultsTaken
  by_cases h : s.station = .setup
  · exact (if_neg (by simp [h])).trans (if_pos h).symm
  · exact (if_pos (decide_eq_true h)).trans (if_neg h).symm

theorem detectClock_eq (s : State) (c : FaultCause) : s.detectClock c =
    s.detected (fun r => { s.faults with clock := r }) s.faults.clock s.sw5.clock .clock .clock c := by
  unfold State.detectClock State.detected State.faultsTaken
  by_cases h : s.station = .setup
  · exact (if_neg (by simp [h])).trans (if_pos h).symm
  · exact (if_pos (decide_eq_true h)).trans (if_neg h).symm

/-- What a LINE or CLOCK detection does (R189, R191). -/
theorem detected_spec {s : State} {put : FaultRecord → FaultMonitor} {r : FaultRecord} (hput : put r = s.faults)
    (w : FaultSetting) (kind : FaultKind) (incident : IncidentKind) (c : FaultCause) :
    let t := s.detected put r w kind incident c
    t = { s with lanes := t.lanes, bell := t.bell, watch := t.watch, faults := t.faults, control := t.control } ∧
      ∃ r', t.faults = put r' ∧ StationDetected s t r r' w kind incident c := by
  intro t
  have ht : t = s.detected put r w kind incident c := rfl
  clear_value t
  unfold State.detected at ht
  by_cases hs : s.station = .setup
  · rw [if_pos hs] at ht
    subst ht
    exact ⟨rfl, r, hput.symm, fun _ => ⟨rfl, rfl, rfl, rfl, rfl⟩, fun h => absurd hs h, fun h => absurd hs h, fun h => absurd hs h⟩
  · rw [if_neg hs] at ht
    dsimp only at ht
    by_cases hact : r.state ≠ .active ∧ w.filter ≤ r.count + 1
    · obtain ⟨honly, hnote, halarm, hheld⟩ :=
        stationAction_spec (s.modFaults fun _ => put (r.detect w (some c))) kind w.action
      rw [if_pos ((activates_iff r w).2 hact), State.recordIncident_eq] at ht
      generalize (s.modFaults fun _ => put (r.detect w (some c))).stationAction kind w.action = u at honly hnote halarm hheld ht
      have hblocks : u.watch = s.watch ∧ u.clock = s.clock ∧ u.faults = put (r.detect w (some c)) := by
        rw [honly]
        exact ⟨rfl, rfl, rfl⟩
      subst ht
      refine ⟨?_, r.detect w (some c), hblocks.2.2, fun h => absurd h hs, fun _ h => absurd h hact.1,
        fun _ _ h => absurd h (not_lt.2 hact.2), fun _ _ _ => ⟨detect_activates c hact.1 hact.2, ?_, hnote, halarm, hheld⟩⟩
      · rw [honly]
        rfl
      · rw [hblocks.1, hblocks.2.1]
        rfl
    · rw [if_neg (mt (activates_iff r w).1 hact)] at ht
      subst ht
      refine ⟨rfl, _, rfl, fun h => absurd h hs, fun _ h => ⟨detect_active w c h, rfl, rfl, rfl, rfl⟩,
        fun _ h hw => ⟨detect_counts c h hw, rfl, rfl, rfl, rfl⟩, fun _ h hw => absurd ⟨h, hw⟩ hact⟩

theorem detectLine_spec (s : State) (c : FaultCause) :
    let t := s.detectLine c
    t = { s with lanes := t.lanes, bell := t.bell, watch := t.watch, faults := t.faults, control := t.control } ∧
      t.faults = { s.faults with line := t.faults.line } ∧
      StationDetected s t s.faults.line t.faults.line s.sw5.line .line .line c := by
  intro t
  obtain ⟨honly, r, hfaults, hdetected⟩ := detected_spec (s := s) (put := fun r => { s.faults with line := r }) rfl s.sw5.line .line .line c
  rw [← detectLine_eq] at honly hfaults hdetected
  have hr : t.faults.line = r := by rw [hfaults]
  exact ⟨honly, by rw [hr]; exact hfaults, hr ▸ hdetected⟩

theorem detectClock_spec (s : State) (c : FaultCause) :
    let t := s.detectClock c
    t = { s with lanes := t.lanes, bell := t.bell, watch := t.watch, faults := t.faults, control := t.control } ∧
      t.faults = { s.faults with clock := t.faults.clock } ∧
      StationDetected s t s.faults.clock t.faults.clock s.sw5.clock .clock .clock c := by
  intro t
  obtain ⟨honly, r, hfaults, hdetected⟩ := detected_spec (s := s) (put := fun r => { s.faults with clock := r }) rfl s.sw5.clock .clock .clock c
  rw [← detectClock_eq] at honly hfaults hdetected
  have hr : t.faults.clock = r := by rw [hfaults]
  exact ⟨honly, by rw [hr]; exact hfaults, hr ▸ hdetected⟩

end Sys2Proof.Machine
end

section
/-! SUPPORT. The frames that a station sends (R119 to R124), and the frames that its receiver takes or counts as line errors and
clashes (R112 to R114). -/

namespace Sys2Proof.Machine

section
variable {s : State}

/-! ## Selection and deferral (R119, R120) -/

theorem exec_deferralStart (h : s.sends) (hd : s.line.deferral = none) (hs : s.line.sending = none) :
    exec .deferralStart s = .next (match s.selection with
      | none => s
      | some h =>
        let attempt := if s.line.inHand = some h then s.line.attempt else 0
        s.modLine fun p =>
          { p with inHand := some h, attempt := attempt, deferral := some (deferralSlots s.ownStation.val attempt) }) :=
  congrArg Host.Outcome.next ((s.event_taken _ h.1).trans ((if_pos ⟨h.2, hd, hs⟩).trans (by rfl)))

/-- The place selected first is the evac slot, then the oldest cue, the journal's head and the beacon (R119). -/
theorem selection_eq_some_iff (h : InHand) : s.selection = some h ↔
    (match s.line.evac, s.line.cues, s.journal.entries, s.line.beacon with
      | some e, _, _, _ => h = { kind := (match e.frame with | .clear _ => .clear | .allClear => .allClear), tag := e.tag }
      | none, c :: _, _, _ => h = { kind := .bellCue, tag := c.tag }
      | none, [], j :: _, _ => h = { kind := .punch, tag := j.tag }
      | none, [], [], some tag => h = { kind := .beacon, tag := tag }
      | none, [], [], none => False) := by
  unfold State.selection
  split <;> simp only [*, Option.some.injEq, reduceCtorEq, eq_comm (b := h)]
  next e hevac => cases e.frame <;> rfl

/-! ## The frame in hand (R118, R121) -/

theorem exec_deferralEnd (hr : s.inReset = false) {h : InHand} (hd : s.line.deferral.isSome = true) (hh : s.line.inHand = some h) :
    exec .deferralEnd s = .next { s with line := { s.line with
      deferral := none, sending := (s.frameInHand h).map fun f => { hand := h, frame := f } } } := by
  obtain ⟨n, hn⟩ := Option.isSome_iff_exists.1 hd
  refine congrArg Host.Outcome.next ((s.event_taken _ hr).trans ?_)
  rw [hn, hh] <;> rfl

theorem frameInHand_evac {h : InHand} (hk : h.kind = .clear ∨ h.kind = .allClear) : s.frameInHand h =
    (s.line.evac.filter fun e => decide (e.tag = h.tag)).map fun e => s.evacFrame e.frame := by
  unfold State.frameInHand
  rcases hk with hk | hk <;> rw [hk]

theorem frameInHand_cue {h : InHand} (hk : h.kind = .bellCue) :
    s.frameInHand h = (s.line.cues.find? fun c => decide (c.tag = h.tag)).map s.cueFrame := by
  unfold State.frameInHand
  rw [hk]

theorem frameInHand_punch {h : InHand} (hk : h.kind = .punch) : s.frameInHand h =
    (s.journal.entries.find? fun j => decide (j.tag = h.tag)).map fun j => .punch (s.punchFrame j) := by
  unfold State.frameInHand
  rw [hk]

theorem frameInHand_beacon {h : InHand} (hk : h.kind = .beacon) : s.frameInHand h =
    (s.line.beacon.filter fun t => decide (t = h.tag)).map fun _ => .beacon s.beaconFrame := by
  unfold State.frameInHand
  rw [hk]

/-- A frame that no longer stands in its place is not in hand (R117). -/
theorem frameInHand_none {h : InHand} (hevac : (h.kind = .clear ∨ h.kind = .allClear) → ∀ e, s.line.evac = some e → e.tag ≠ h.tag)
    (hcue : h.kind = .bellCue → ∀ c ∈ s.line.cues, c.tag ≠ h.tag)
    (hpunch : h.kind = .punch → ∀ j ∈ s.journal.entries, j.tag ≠ h.tag)
    (hbeacon : h.kind = .beacon → s.line.beacon ≠ some h.tag) : s.frameInHand h = none := by
  have hslot (hk : h.kind = .clear ∨ h.kind = .allClear) : s.frameInHand h = none := by
    rw [frameInHand_evac hk, Option.map_eq_none_iff, Option.filter_eq_none_iff]
    simpa using hevac hk
  cases hk : h.kind with
  | clear => exact hslot (.inl hk)
  | allClear => exact hslot (.inr hk)
  | bellCue =>
    rw [frameInHand_cue hk, Option.map_eq_none_iff, List.find?_eq_none]
    simpa using hcue hk
  | punch =>
    rw [frameInHand_punch hk, Option.map_eq_none_iff, List.find?_eq_none]
    simpa using hpunch hk
  | beacon =>
    rw [frameInHand_beacon hk, Option.map_eq_none_iff, Option.filter_eq_none_iff]
    intro t ht
    simpa using fun heq : t = h.tag => hbeacon hk (ht.trans (congrArg some heq))

/-- Settles O51. -/
theorem sendingStarts : Obligations.SendingStarts := by
  intro s h hand selected begun
  have hselected (x : InHand) : s.selection = some x ↔ selected x := selection_eq_some_iff x
  refine ⟨fun hd hs => ⟨fun x hx => ?_, fun hnone => ?_⟩, ?_, fun x hd hx => ⟨fun e hk he htag => ?_, fun c rest hk hc htag => ?_,
    fun j rest hk hj htag => ?_, fun hk hb => ?_, fun h1 h2 h3 h4 => ?_⟩⟩
  · rw [exec_deferralStart h hd hs, (hselected x).2 hx] <;> rfl
  · rw [exec_deferralStart h hd hs, Option.eq_none_iff_forall_not_mem.2 fun x hx => hnone x ((hselected x).1 hx)]
  · exact congrArg Host.Outcome.next (s.event_taken _ h.1)
  · have hframe : s.frameInHand x = some (s.evacFrame e.frame) := by rw [frameInHand_evac hk, he]; simp [htag]
    rw [exec_deferralEnd h.1 hd hx, hframe] <;> rfl
  · have hframe : s.frameInHand x = some (s.cueFrame c) := by rw [frameInHand_cue hk, hc]; simp [htag]
    rw [exec_deferralEnd h.1 hd hx, hframe] <;> rfl
  · have hframe : s.frameInHand x = some (.punch (s.punchFrame j)) := by rw [frameInHand_punch hk, hj]; simp [htag]
    rw [exec_deferralEnd h.1 hd hx, hframe] <;> rfl
  · have hframe : s.frameInHand x = some (.beacon s.beaconFrame) := by rw [frameInHand_beacon hk, hb]; simp
    rw [exec_deferralEnd h.1 hd hx, hframe] <;> rfl
  · rw [exec_deferralEnd h.1 hd hx, frameInHand_none h1 h2 h3 h4]

/-! ## A frame sent whole, collided or dropped (R122, R124) -/

theorem exec_sentWhole (hr : s.inReset = false) {x : Sending} (hx : s.line.sending = some x) :
    exec .sentWhole s = .next (s.sentWhole x) := by
  refine congrArg Host.Outcome.next ((s.event_taken _ hr).trans ?_)
  rw [hx]

theorem exec_collision (hr : s.inReset = false) {x : Sending} (hx : s.line.sending = some x) :
    exec .collision s = .next (s.collide x) := by
  refine congrArg Host.Outcome.next ((s.event_taken _ hr).trans ?_)
  rw [hx]

/-- The line port after a frame left its place (R122). -/
def leftLine (h : InHand) (p : LinePort) : LinePort :=
  match h.kind with
  | .clear | .allClear => { p with evac := p.evac.filter fun e => decide (e.tag ≠ h.tag) }
  | .bellCue => { p with cues := p.cues.filter fun c => decide (c.tag ≠ h.tag) }
  | .punch => p
  | .beacon => { p with beacon := p.beacon.filter fun b => decide (b ≠ h.tag) }

/-- The journal after a frame left its place: the head of a PUNCH sent leaves it (R122, R127). -/
def leftJournal (h : InHand) (j : Journal) : Journal :=
  let kept := j.entries.filter fun j => decide (j.tag ≠ h.tag)
  if h.kind = .punch then { j with entries := kept, full := j.full && decide (64 ≤ kept.length) } else j

theorem leavePlace_eq (s : State) (h : InHand) :
    s.leavePlace h = { s with line := leftLine h s.line, journal := leftJournal h s.journal } := by
  unfold State.leavePlace leftLine leftJournal
  cases h.kind <;> rfl

theorem leftLine_kept (h : InHand) (p : LinePort) : (leftLine h p).drops = p.drops ∧ (leftLine h p).fresh = p.fresh ∧
    (leftLine h p).collisions = p.collisions ∧ (leftLine h p).dropped = p.dropped := by
  unfold leftLine
  cases h.kind <;> exact ⟨rfl, rfl, rfl, rfl⟩

theorem not_setup_of_sending (h : s.station.sending = true) : s.station ≠ .setup := by
  intro hs
  rw [hs] at h
  cases h

theorem sentWhole_eq (h : s.station.sending = true) (x : Sending) : s.sentWhole x =
    { s with
      line := { leftLine x.hand s.line with
                inHand := none, sending := none, attempt := 0, drops := 0, fresh := s.line.fresh && !carriesFresh x.frame }
      journal := leftJournal x.hand s.journal
      peers := { s.peers with isolated := false }
      faults := { s.faults with line := causeCleared s.faults.line .isolated } } := by
  unfold State.sentWhole
  rw [leavePlace_eq, ← (leftLine_kept x.hand s.line).2.1]
  exact clearLine_eq (by exact not_setup_of_sending h) .isolated

/-- The state after a frame is dropped, but for its LINE detection (R122, R124). -/
def droppedFrame (s : State) (x : Sending) : State :=
  { s with
    line := { leftLine x.hand s.line with
              inHand := none
              sending := none
              attempt := 0
              collisions := min 65535 (s.line.collisions + 1)
              dropped := min 65535 (s.line.dropped + 1)
              drops := min 3 (s.line.drops + 1) }
    journal := leftJournal x.hand s.journal }

theorem leftLine_cut (h : InHand) (p : LinePort) (n : Nat) :
    leftLine h { p with sending := none, collisions := n } = { leftLine h p with sending := none, collisions := n } := by
  unfold leftLine
  cases h.kind <;> rfl

theorem collide_drops (x : Sending) (h : 15 ≤ s.line.attempt) :
    s.collide x =
      if min 3 (s.line.drops + 1) < 3 then droppedFrame s x
      else if s.peers.isolated then (droppedFrame s x).detectLine .isolated
      else (((droppedFrame s x).openDoubt .isolated none).modPeers fun t => { t with isolated := true }).detectLine .isolated := by
  obtain ⟨hdrops, hfresh, hcollisions, hdropped⟩ := leftLine_kept x.hand s.line
  have hcut : (State.leavePlace (s.modLine fun p => { p with sending := none, collisions := satAdd max16 p.collisions 1 })
      x.hand).modLine (fun p => { p with
        inHand := none, attempt := 0, dropped := satAdd max16 p.dropped 1, drops := dropsAfter p.drops }) = droppedFrame s x := by
    rw [leavePlace_eq, State.modLine_line, leftLine_cut]
    unfold droppedFrame
    rw [← hdrops, ← hdropped]
    rfl
  refine (if_neg (not_lt.2 h)).trans ?_
  unfold State.dropFrame
  dsimp only
  rw [hcut]
  rfl

/-- Settles O52. -/
theorem sendingEnds : Obligations.SendingEnds := by
  intro x s h hx tag left kept journal freshSent cleared collisions drops droppedLine
  have hfresh : carriesFresh x.frame = freshSent := by
    simp only [freshSent]
    cases x.frame <;> rfl
  refine ⟨?_, fun hlow => ?_, fun hhigh hfew => ?_, fun hhigh hthree => ?_⟩
  · rw [exec_sentWhole h.1 hx, sentWhole_eq h.2, hfresh] <;> rfl
  · rw [exec_collision h.1 hx]
    exact congrArg Host.Outcome.next (if_pos hlow)
  · rw [exec_collision h.1 hx, collide_drops x hhigh, if_pos hfew] <;> rfl
  · intro marked
    have hcollide : s.collide x = marked.detectLine .isolated := by
      rw [collide_drops x hhigh, if_neg (by have : drops = 3 := hthree; exact not_lt.2 this.ge)]
      split
      next hi => simp only [marked, hi, if_true] <;> rfl
      next hi =>
        rw [State.openDoubt_eq]
        simp only [marked, hi, Bool.false_eq_true, if_false] <;> rfl
    obtain ⟨honly, hfaults, hdetected⟩ := detectLine_spec marked .isolated
    exact ⟨_, (exec_collision h.1 hx).trans (congrArg Host.Outcome.next hcollide), honly, hfaults, hdetected⟩

end

end Sys2Proof.Machine
end

section
/-! SUPPORT. The frames of a peer as the receiver takes them (R113 to R115, R130), line errors and number clashes (R112, R114), and
BELL CUE (R101). -/

namespace Sys2Proof.Machine

section
variable {s : State}

/-! ## What the receiver does with a frame -/

/-- The receiver hears nothing outside the served states and while the own transmitter sends (R109, R114). -/
theorem listening_eq_false_iff : s.listening = false ↔ s.station.serving = false ∨ s.line.sending.isSome = true := by
  unfold State.listening
  cases s.station.serving <;> cases s.line.sending <;> simp

theorem listening_of (hs : s.station.serving = true) (hl : s.line.sending = none) : s.listening = true := by
  simp [State.listening, hs, hl]

theorem takeFrame_deaf (h : s.listening = false) (f : Frame) (kind : State → State) : s.takeFrame f kind = s := by
  rw [State.takeFrame, h]
  rfl

theorem takeFrame_invalid (h : s.listening = true) {f : Frame} (hf : frameValid f = false) (kind : State → State) :
    s.takeFrame f kind = s.countLineError := by
  rw [State.takeFrame, h, hf]
  rfl

theorem takeFrame_own (h : s.listening = true) {f : Frame} (hf : frameValid f = true) (hown : frameSource f = s.ownStation)
    (kind : State → State) : s.takeFrame f kind = s.clash := by
  rw [State.takeFrame, h, hf, if_pos rfl, if_pos rfl, if_pos hown]

theorem takeFrame_peer (h : s.listening = true) {f : Frame} (hf : frameValid f = true) (hpeer : frameSource f ≠ s.ownStation)
    (kind : State → State) : s.takeFrame f kind = kind (s.hear (frameSource f)) := by
  rw [State.takeFrame, h, hf, if_pos rfl, if_pos rfl, if_neg hpeer]

/-- A peer marked as heard (R130). -/
theorem heard_hear (hsized : s.peers.entries.length = 16) (p : Station) : Heard s (s.hear p) p := by
  have hpeer (q : Station) := s.peer_modPeer p q
    (fun e => { e with state := .heard, lastFrame := some s.clock.time, silence := some s.silenceLimit }) hsized
  refine ⟨(hpeer p).trans ((if_pos rfl).trans ?_), fun q hq => (hpeer q).trans (if_neg hq), rfl⟩
  rw [State.silenceLimit, sixteenths, Nat.mul_comm]

/-! ## Line errors and clashes -/

theorem validRun_eq_false_iff (chars : List LineChar) :
    validRun chars = false ↔ (∃ c ∈ chars, c.stop = false) ∨ readFrame (chars.map LineChar.data) = none := by
  rw [validRun, Bool.and_eq_false_iff, List.all_eq_false, Option.isSome_eq_false_iff, Option.isNone_iff_eq_none]
  simp

theorem exec_lineError (hr : s.inReset = false) (h : s.listening = true) {run : LineRun} (hrun : discardedRun run = true) :
    exec (.lineError run) s = .next s.countLineError := by
  refine congrArg Host.Outcome.next ((s.event_taken _ hr).trans (if_pos ?_))
  rw [h, hrun]
  rfl

theorem exec_numberClash (hr : s.inReset = false) (h : s.listening = true) {f : Frame} (hf : frameValid f = true)
    (hown : frameSource f = s.ownStation) : exec (.numberClash f) s = .next s.clash := by
  refine congrArg Host.Outcome.next ((s.event_taken _ hr).trans (if_pos ?_))
  rw [h, hf, decide_eq_true hown]
  rfl

theorem exec_numberClash_deaf (hr : s.inReset = false) (h : s.listening = false) (f : Frame) : exec (.numberClash f) s = .next s := by
  refine congrArg Host.Outcome.next ((s.event_taken _ hr).trans (if_neg ?_))
  rw [h]
  simp

theorem exec_lineError_deaf (hr : s.inReset = false) (h : s.listening = false) (run : LineRun) : exec (.lineError run) s = .next s := by
  refine congrArg Host.Outcome.next ((s.event_taken _ hr).trans (if_neg ?_))
  rw [h]
  simp

theorem exec_punch (hr : s.inReset = false) (f : PunchFrame) :
    exec (.punch f) s = .next (s.takeFrame (.punch f) fun y => y.takePunch f) := congrArg Host.Outcome.next (s.event_taken _ hr)
theorem exec_beacon (hr : s.inReset = false) (f : BeaconFrame) :
    exec (.beacon f) s = .next (s.takeFrame (.beacon f) fun y => y.takeBeacon f) := congrArg Host.Outcome.next (s.event_taken _ hr)
theorem exec_bellCue (hr : s.inReset = false) (f : CueFrame) :
    exec (.bellCue f) s = .next (s.takeFrame (.bellCue f) fun y => y.takeCue f) := congrArg Host.Outcome.next (s.event_taken _ hr)
theorem exec_clear (hr : s.inReset = false) (f : ClearFrame) :
    exec (.clear f) s = .next (s.takeFrame (.clear f) fun y => y.takeClear f) := congrArg Host.Outcome.next (s.event_taken _ hr)
theorem exec_allClearFrame (hr : s.inReset = false) (p : Station) :
    exec (.allClearFrame p) s = .next (s.takeFrame (.allClear p) fun y => y.takeAllClear p) :=
  congrArg Host.Outcome.next (s.event_taken _ hr)

/-- A clash (R114): counted, its timer started, and one LINE detection handed. -/
theorem clash_spec (s : State) :
    let t := s.clash
    t = { s with lanes := t.lanes, bell := t.bell, line := t.line, watch := t.watch, faults := t.faults, control := t.control } ∧
      t.line = { s.line with clashes := min 65535 (s.line.clashes + 1), clashTimer := some (16 * s.sw3.silenceLimit) } ∧
      t.faults = { s.faults with line := t.faults.line } ∧
      StationDetected s t s.faults.line t.faults.line s.sw5.line .line .line .clash := by
  obtain ⟨honly, hfaults, hdetected⟩ := detectLine_spec
    (s.modLine fun p => { p with clashes := satAdd max16 p.clashes 1, clashTimer := some s.silenceLimit }) .clash
  have hline : s.clash.line = { s.line with clashes := min 65535 (s.line.clashes + 1), clashTimer := some (16 * s.sw3.silenceLimit) } := by
    unfold State.clash
    rw [honly, Nat.mul_comm]
    rfl
  refine ⟨?_, hline, hfaults, hdetected⟩
  rw [hline]
  unfold State.clash
  rw [honly, State.silenceLimit, sixteenths, Nat.mul_comm]
  rfl

/-- Settles O50. -/
theorem lineErrors : Obligations.LineErrors := by
  intro s hr counted bytes
  refine ⟨fun hs hl => ?_, fun hdeaf => ?_⟩
  · have hlistens := listening_of hs hl
    refine ⟨fun chars hbad => ?_, fun chars hne => ?_, fun f hbadge => ?_, fun f hf hown => ?_⟩
    · exact exec_lineError hr hlistens (by rw [discardedRun, (validRun_eq_false_iff chars).2 hbad]; rfl)
    · exact exec_lineError hr hlistens (by simpa [discardedRun] using hne)
    · have hbad : frameValid (.punch f) = false := by
        rw [frameValid, ← Bool.not_eq_true, isBadge_iff]
        omega
      rw [exec_punch hr, takeFrame_invalid hlistens hbad]
      rfl
    · obtain ⟨honly, hline, hfaults, hdetected⟩ := clash_spec s
      refine ⟨_, exec_numberClash hr hlistens hf hown, fun p hp => ?_, fun p hp => ?_, fun p hp => ?_, fun p hp => ?_,
        fun p hp => ?_, honly, hline, hfaults, hdetected⟩ <;> subst hp
      · rw [exec_punch hr, takeFrame_own hlistens hf hown]
      · rw [exec_beacon hr, takeFrame_own hlistens hf hown]
      · rw [exec_bellCue hr, takeFrame_own hlistens hf hown]
      · rw [exec_clear hr, takeFrame_own hlistens hf hown]
      · rw [exec_allClearFrame hr, takeFrame_own hlistens hf hown]
  · have hdeaf := listening_eq_false_iff.2 hdeaf
    refine ⟨exec_lineError_deaf hr hdeaf, exec_numberClash_deaf hr hdeaf, fun f => ?_, fun f => ?_, fun f => ?_, fun f => ?_, fun p => ?_⟩
    · rw [exec_punch hr, takeFrame_deaf hdeaf]
    · rw [exec_beacon hr, takeFrame_deaf hdeaf]
    · rw [exec_bellCue hr, takeFrame_deaf hdeaf]
    · rw [exec_clear hr, takeFrame_deaf hdeaf]
    · rw [exec_allClearFrame hr, takeFrame_deaf hdeaf]

end

end Sys2Proof.Machine
end

section
/-! SUPPORT. The ringing and passing of a schedule entry (R97, R98, R107), RING_INSTANT (R97) and BELL CUE (R101). -/

namespace Sys2Proof.Machine

section
variable {s : State}

theorem modAt_eq_set {α : Type} (f : α → α) (d : α) (n : Nat) (xs : List α) : modAt f n xs = xs.set n (f (xs.getD n d)) := by
  induction xs generalizing n with
  | nil => simp [modAt]
  | cons x xs ih =>
    cases n with
    | zero => rfl
    | succ n => simpa [modAt] using ih n

/-! ## An entry rung or passed -/

/-- The schedule with the day mark of an entry set (R98). -/
def markedEntries (s : State) (e : Fin 48) (day : Nat) : List BellEntry :=
  s.bell.entries.set e.val { s.bellEntry e with mark := some day }

/-- The bell trace with a record made (R107). -/
def tracedBell (s : State) (e : Fin 48) (day : Nat) (origin : BellOrigin) (outcome : BellOutcome) : List BellRecord :=
  (if s.bell.trace.length < 8 then s.bell.trace else s.bell.trace.drop 1) ++
    [{ entry := e, role := (s.bellEntry e).role, day, time := s.clock.time, origin, outcome }]

theorem markEntry_eq (s : State) (e : Fin 48) (day : Nat) :
    s.markEntry e day = { s with bell := { s.bell with entries := markedEntries s e day } } := by
  have hset := modAt_eq_set (fun x : BellEntry => { x with mark := some day }) .reset e.val s.bell.entries
  exact congrArg (fun entries => { s with bell := { s.bell with entries } }) hset

theorem markEntry_role (s : State) (e : Fin 48) (day : Nat) : ((s.markEntry e day).bellEntry e).role = (s.bellEntry e).role := by
  unfold State.bellEntry
  rcases getD_modAt_or (fun x : BellEntry => { x with mark := some day }) .reset e.val e.val s.bell.entries with ⟨-, h⟩ | h
  · have hrole := congrArg BellEntry.role h
    exact hrole
  · have hrole := congrArg BellEntry.role h
    exact hrole

/-- A record made of a ring, outside HOLDOVER (R107): the marked schedule gives the role that the schedule before gives. -/
theorem traceBell_marked {t : State} {e : Fin 48} {day : Nat} (ht : t.station ≠ .holdover) (origin : BellOrigin)
    (outcome : BellOutcome) (hclock : t.clock = s.clock) (htrace : t.bell.trace = s.bell.trace)
    (hentries : t.bell.entries = (s.markEntry e day).bell.entries) :
    t.traceBell e day origin outcome = { t with bell := { t.bell with trace := tracedBell s e day origin outcome } } := by
  have hrole : (t.bellEntry e).role = (s.bellEntry e).role := by
    rw [← markEntry_role s e day, State.bellEntry, hentries]
    rfl
  refine (if_neg ht).trans ?_
  rw [tracedBell, ← hrole, ← hclock, ← htrace]
  rfl

theorem traceBell_holdover {t : State} {e : Fin 48} {day : Nat} (ht : t.station = .holdover) (origin : BellOrigin)
    (outcome : BellOutcome) : t.traceBell e day origin outcome = t := if_pos ht

theorem rung_free (hs : s.station ≠ .holdover) (h : s.bell.arbiter = none) (e : Fin 48) (day : Nat) (origin : BellOrigin) :
    s.rung e day origin = { s with bell := { s.bell with
      entries := markedEntries s e day, arbiter := some (claimOf s .scheduled (s.bellEntry e).pattern (some e))
      trace := tracedBell s e day origin .rung } } := by
  have hrung : s.rung e day origin =
      ((s.markEntry e day).sound .scheduled (s.bellEntry e).pattern (some e)).traceBell e day origin .rung := by
    rw [State.rung, h]
  refine hrung.trans ((traceBell_marked (s := s) (by exact hs) _ _ (by rfl) (by rfl) (by rfl)).trans ?_)
  rw [markEntry_eq]
  rfl

theorem rung_busy (hs : s.station ≠ .holdover) (h : s.bell.arbiter ≠ none) (e : Fin 48) (day : Nat) (origin : BellOrigin) :
    s.rung e day origin = { s with bell := { s.bell with
      entries := markedEntries s e day, suppressed := min 65535 (s.bell.suppressed + 1)
      trace := tracedBell s e day origin .suppressed } } := by
  obtain ⟨x, hx⟩ := Option.ne_none_iff_exists'.1 h
  have hrung : s.rung e day origin = (s.markEntry e day).countSuppressed.traceBell e day origin .suppressed := by
    rw [State.rung, hx]
  refine hrung.trans ((traceBell_marked (s := s) (by exact hs) _ _ (by rfl) (by rfl) (by rfl)).trans ?_)
  rw [markEntry_eq]
  rfl

theorem passSuppressed_eq (hs : s.station ≠ .holdover) (e : Fin 48) (day : Nat) (origin : BellOrigin) :
    s.passSuppressed e day origin = { s with bell := { s.bell with
      entries := markedEntries s e day, suppressed := min 65535 (s.bell.suppressed + 1)
      trace := tracedBell s e day origin .suppressed } } := by
  refine (traceBell_marked (s := s) (by exact hs) _ _ (by rfl) (by rfl) (by rfl)).trans ?_
  rw [markEntry_eq]
  rfl

theorem passMissed_eq (hs : s.station ≠ .holdover) (e : Fin 48) (day : Nat) (origin : BellOrigin) :
    s.passMissed e day origin = { s with bell := { s.bell with
      entries := markedEntries s e day, missed := min 65535 (s.bell.missed + 1)
      trace := tracedBell s e day origin .missed } } := by
  refine (traceBell_marked (s := s) (by exact hs) _ _ (by rfl) (by rfl) (by rfl)).trans ?_
  rw [markEntry_eq]
  rfl

theorem passMissed_holdover (hs : s.station = .holdover) (e : Fin 48) (day : Nat) (origin : BellOrigin) :
    s.passMissed e day origin = { s with bell := { s.bell with
      entries := markedEntries s e day, missed := min 65535 (s.bell.missed + 1) } } := by
  rw [State.passMissed, traceBell_holdover (by exact hs), markEntry_eq]
  rfl

/-- The day mark alone of the one entry changes. -/
theorem marked_bellEntry {t : State} (hsized : s.bell.entries.length = 48) {e : Fin 48} {day : Nat}
    (ht : t.bell.entries = markedEntries s e day) :
    t.bellEntry e = { s.bellEntry e with mark := some day } ∧ ∀ k, k ≠ e → t.bellEntry k = s.bellEntry k := by
  have hentry (k : Fin 48) : t.bellEntry k = (s.markEntry e day).bellEntry k := by
    rw [markEntry_eq, State.bellEntry, ht]
    rfl
  refine ⟨(hentry e).trans ?_, fun k hk => (hentry k).trans ?_⟩
  · rw [State.markEntry, State.bellEntry_modBellEntry _ _ _ _ hsized, if_pos rfl]
  · rw [State.markEntry, State.bellEntry_modBellEntry _ _ _ _ hsized, if_neg hk]

theorem due_iff (x : BellEntry) (w day : Nat) :
    x.due w day = true ↔ x.mask.getLsbD ((day + w) % 7) = true ∧ ∀ m, x.mark = some m → m < day := by
  rw [BellEntry.due, Bool.and_eq_true, weekdayOf]
  cases x.mark <;> simp

/-- An entry rung (R97, R104, R107): it is marked, and it sounds on a free output, or is counted SUPPRESSED on a busy one. -/
theorem rung_spec (hsized : s.bell.entries.length = 48) (hs : s.station ≠ .holdover) (e : Fin 48) (day : Nat) (origin : BellOrigin) :
    let t := s.rung e day origin
    t = { s with bell := t.bell } ∧ (t.bell.missed = s.bell.missed ∧ t.bell.cut = s.bell.cut ∧ t.bell.earlyCue = s.bell.earlyCue ∧
      t.bell.patterns = s.bell.patterns) ∧
      (t.bellEntry e = { s.bellEntry e with mark := some day } ∧ ∀ k, k ≠ e → t.bellEntry k = s.bellEntry k) ∧
      (s.bell.arbiter = none → t.bell.arbiter = some (claimOf s .scheduled (s.bellEntry e).pattern (some e)) ∧
        t.bell.suppressed = s.bell.suppressed ∧ t.bell.trace = tracedBell s e day origin .rung) ∧
      (s.bell.arbiter ≠ none → t.bell.arbiter = s.bell.arbiter ∧ t.bell.suppressed = min 65535 (s.bell.suppressed + 1) ∧
        t.bell.trace = tracedBell s e day origin .suppressed) := by
  by_cases h : s.bell.arbiter = none
  · rw [rung_free hs h]
    exact ⟨rfl, ⟨rfl, rfl, rfl, rfl⟩, marked_bellEntry hsized rfl, fun _ => ⟨rfl, rfl, rfl⟩, fun hn => absurd h hn⟩
  · rw [rung_busy hs h]
    exact ⟨rfl, ⟨rfl, rfl, rfl, rfl⟩, marked_bellEntry hsized rfl, fun hn => absurd hn h, fun _ => ⟨rfl, rfl, rfl⟩⟩

/-! ## RING_INSTANT -/

theorem instantReached_eq {e : Fin 48} {d : Nat} (hbefore : s.clock.countedFrom + s.sw4.bellAdvance < ringBellTime (s.bellEntry e) d)
    (hnow : ringBellTime (s.bellEntry e) d ≤ s.clock.time + s.sw4.bellAdvance)
    (hspan : s.clock.time + s.sw4.bellAdvance < s.clock.countedFrom + s.sw4.bellAdvance + ticksPerDay) :
    s.instantReached e = some d := by
  have hday : (s.clock.time + s.sw4.bellAdvance - ringOffset (s.bellEntry e)) / ticksPerDay = d := by
    unfold ringBellTime ticksPerDay at *
    omega
  have hreached : ringOffset (s.bellEntry e) ≤ s.clock.time + s.sw4.bellAdvance := le_trans (Nat.le_add_left ..) hnow
  refine (if_pos hreached).trans ?_
  unfold bellTime
  rw [hday]
  exact if_pos hbefore

theorem exec_ringInstant (hr : s.inReset = false) {e : Fin 48} {d : Nat} (h : s.instantReached e = some d) :
    exec (.ringInstant e) s = .next (if (s.bellEntry e).due s.sw0.weekday d then s.takeInstant e d .clock else s) := by
  refine congrArg Host.Outcome.next ((s.event_taken _ hr).trans ?_)
  rw [h]

theorem takeInstant_join (h : s.station = .join) (e : Fin 48) (d : Nat) (o : BellOrigin) : s.takeInstant e d o = s.rung e d o := by
  rw [State.takeInstant, h]

theorem takeInstant_sends (h : s.station = .live ∨ s.station = .held) (e : Fin 48) (d : Nat) (o : BellOrigin) :
    s.takeInstant e d o = (s.rung e d o).placeCue e d := by
  rcases h with h | h <;> rw [State.takeInstant, h]

theorem takeInstant_evacuate (h : s.station = .evacuate) (e : Fin 48) (d : Nat) (o : BellOrigin) :
    s.takeInstant e d o = s.passSuppressed e d o := by
  rw [State.takeInstant, h]

theorem takeInstant_holdover (h : s.station = .holdover) (e : Fin 48) (d : Nat) (o : BellOrigin) :
    s.takeInstant e d o = s.passMissed e d o := by
  rw [State.takeInstant, h]

theorem takeInstant_setup (h : s.station = .setup) (e : Fin 48) (d : Nat) (o : BellOrigin) : s.takeInstant e d o = s := by
  rw [State.takeInstant, h]

/-- Settles O38. -/
theorem ringInstant : Obligations.RingInstant := by
  intro e d s hr hsized x instant before now hbefore hnow hspan isDue record traced
  rw [exec_ringInstant hr (instantReached_eq hbefore hnow hspan)]
  have hdue : x.due s.sw0.weekday d = true ↔ isDue := due_iff x _ d
  refine ⟨fun hd => by rw [if_neg (mt hdue.1 hd)], fun hd => ⟨_, by rw [if_pos (hdue.2 hd)], ?_⟩⟩
  have hentries : s.bell.entries.length = 48 := hsized.2.1
  cases hs : s.station with
  | setup =>
    rw [takeInstant_setup hs]
    simp
  | join =>
    obtain ⟨honly, ⟨hmissed, hcut, hearly, hpatterns⟩, hmarked, hfree, hbusy⟩ := rung_spec hentries (by rw [hs]; nofun) e d .clock
    rw [takeInstant_join hs]
    have hline : (s.rung e d .clock).line = s.line := by rw [honly]
    exact ⟨by rw [hline]; exact honly, hcut, hearly, hpatterns, nofun, fun _ => hmarked, fun _ => ⟨hmissed, hfree, hbusy⟩, by simp,
      fun _ _ => hline, nofun, nofun⟩
  | live | held =>
    obtain ⟨honly, ⟨hmissed, hcut, hearly, hpatterns⟩, hmarked, hfree, hbusy⟩ := rung_spec hentries (by rw [hs]; nofun) e d .clock
    rw [takeInstant_sends (by simp [hs])]
    have hline : (s.rung e d .clock).line = s.line := by rw [honly]
    refine ⟨?_, hcut, hearly, hpatterns, nofun, fun _ => hmarked, fun _ => ⟨hmissed, hfree, hbusy⟩, fun _ => ?_, by simp, nofun, nofun⟩
    · unfold State.placeCue
      rw [honly]
      rfl
    · unfold State.placeCue
      rw [honly]
      rfl
  | evacuate =>
    rw [takeInstant_evacuate hs, passSuppressed_eq (by rw [hs]; nofun)]
    exact ⟨rfl, rfl, rfl, rfl, nofun, fun _ => marked_bellEntry hentries rfl, by simp, by simp, fun _ _ => rfl,
      fun _ => ⟨rfl, rfl, rfl, rfl⟩, nofun⟩
  | holdover =>
    rw [takeInstant_holdover hs, passMissed_holdover hs]
    exact ⟨rfl, rfl, rfl, rfl, nofun, fun _ => marked_bellEntry hentries rfl, by simp, by simp, fun _ _ => rfl, nofun,
      fun _ => ⟨rfl, rfl, rfl, rfl⟩⟩

/-! ## BELL CUE -/

theorem deaf_of_station (h : s.station = .setup ∨ s.station = .holdover) : s.listening = false :=
  listening_eq_false_iff.2 (.inl (State.not_serving h))

/-- A cue judged (R101), by the first test that applies. -/
theorem judgeCue_eq (s : State) (e : Fin 48) (day : Nat) (source : Station) :
    let now := s.clock.time + s.sw4.bellAdvance
    let x := s.bellEntry e
    s.judgeCue e day source =
      if day = now / 1382400 ∧ x.due s.sw0.weekday day = true then
        if now + 16 * s.sw4.cueWindow < ringBellTime x day then
          { s with bell := { s.bell with earlyCue := min 65535 (s.bell.earlyCue + 1) } }
        else if s.station = .evacuate then s.passSuppressed e day (.cue source)
        else s.rung e day (.cue source)
      else s := by
  intro now x
  unfold State.judgeCue bellDay bellTime
  rw [Nat.mul_comm]
  rfl

theorem judgeCue_only (hsized : s.bell.entries.length = 48) (hs : s.station ≠ .holdover) (e : Fin 48) (day : Nat) (source : Station) :
    s.judgeCue e day source = { s with bell := (s.judgeCue e day source).bell } := by
  rw [judgeCue_eq]
  split
  · split
    · rfl
    · split
      · rw [passSuppressed_eq hs]
      · exact (rung_spec hsized hs e day _).1
  · rfl

theorem takeCue_only (hsized : s.bell.entries.length = 48) (hs : s.station ≠ .holdover) (f : CueFrame) :
    s.takeCue f = { s with bell := (s.takeCue f).bell } := by
  unfold State.takeCue
  split
  · exact judgeCue_only hsized hs ..
  · rfl

theorem takeCue_judges {f : CueFrame} {e : Fin 48} (h : f.entry.toNat = e.val) : s.takeCue f = s.judgeCue e f.day.toNat f.source := by
  have he : (⟨f.entry.toNat, h ▸ e.isLt⟩ : Fin 48) = e := Fin.ext h
  rw [State.takeCue, dif_pos (h ▸ e.isLt), he]

theorem takeCue_ignores {f : CueFrame} (h : 48 ≤ f.entry.toNat) : s.takeCue f = s := dif_neg (not_lt.2 h)

theorem exec_bellCue_taken (h : s.served) (hl : s.line.sending = none) {f : CueFrame} (hpeer : f.source ≠ s.ownStation) :
    exec (.bellCue f) s = .next ((s.hear f.source).takeCue f) := by
  rw [exec_bellCue h.1, takeFrame_peer (f := .bellCue f) (listening_of h.2 hl) (by rfl) hpeer]
  rfl

theorem served_not_holdover (h : s.served) : s.station ≠ .holdover := by
  intro hs
  have hserving := h.2
  rw [hs] at hserving
  cases hserving

/-- Settles O49. -/
theorem cueFrameTaken : Obligations.CueFrameTaken := by
  refine ⟨fun f s hs => ?_, fun f s h hsized hl hpeer => ?_⟩
  · cases hr : s.inReset with
    | true => exact congrArg Host.Outcome.next (s.event_inReset _ hr)
    | false => rw [exec_bellCue hr, takeFrame_deaf (deaf_of_station hs)]
  · intro now d
    have hs := served_not_holdover h
    obtain ⟨hpeerEntry, hothers, htable⟩ := heard_hear hsized.2.2.2.1 f.source
    have honly := takeCue_only (s := s.hear f.source) hsized.2.1 hs f
    have hpeers : ((s.hear f.source).takeCue f).peers = (s.hear f.source).peers := by rw [honly]
    refine ⟨_, exec_bellCue_taken h hl hpeer, ?_, ?_, fun hlarge => by rw [takeCue_ignores hlarge]; rfl, fun e he => ?_⟩
    · rw [honly]
      exact ⟨hpeerEntry, hothers, htable⟩
    · rw [hpeers]
      exact honly
    · generalize ht : (s.hear f.source).takeCue f = t
      rw [takeCue_judges he, judgeCue_eq] at ht
      intro x instant isDue early record traced
      have hdue : (d = now / 1382400 ∧ x.due s.sw0.weekday d = true) ↔ isDue := and_congr_right fun _ => due_iff x _ d
      refine ⟨fun hd => ?_, fun hd hearly => ?_, fun hd hlate => ?_⟩
      · rw [if_neg (by exact mt hdue.1 hd)] at ht
        subst ht
        rfl
      · rw [if_pos (by exact hdue.2 hd), if_pos (by exact hearly)] at ht
        subst ht
        rfl
      · rw [if_pos (by exact hdue.2 hd), if_neg (by exact hlate)] at ht
        by_cases hevac : s.station = .evacuate
        · rw [if_pos (by exact hevac), passSuppressed_eq (by exact hs)] at ht
          subst ht
          exact ⟨rfl, rfl, rfl, rfl, (marked_bellEntry (s := s) hsized.2.1 rfl).1, (marked_bellEntry (s := s) hsized.2.1 rfl).2,
            fun hn => absurd hevac hn, fun _ => ⟨rfl, rfl, rfl⟩⟩
        · obtain ⟨-, ⟨hmissed, hcut, hearlyCue, hpatterns⟩, ⟨hmark, hothers⟩, hfree, hbusy⟩ :=
            rung_spec (s := s.hear f.source) hsized.2.1 hs e d (.cue f.source)
          rw [if_neg (by exact hevac)] at ht
          subst ht
          exact ⟨hmissed, hcut, hearlyCue, hpatterns, hmark, hothers, fun _ => hfree, fun hb => hbusy (hb.resolve_left hevac)⟩

end

end Sys2Proof.Machine
end

section
/-! SUPPORT. The reader frame (R21, R205) and the line frames as they are sent and read back (R110 to R113, R204). -/

namespace Sys2Proof.Machine

/-! ## The reader frame -/

/-- A run of exclusive ors keeps the parity of the number of ones taken. -/
theorem foldl_bne_eq (f : Nat → Bool) (p : Bool) (xs : List Nat) : xs.foldl (fun p i => p != f i) p =
    decide (((if p then 1 else 0) + xs.countP f) % 2 = 1) := by
  induction xs generalizing p with
  | nil => cases p <;> rfl
  | cons x xs ih =>
    rw [List.foldl_cons, ih, List.countP_cons]
    refine decide_eq_decide.2 ?_
    cases p <;> cases f x <;> simp only [bne_self_eq_false, Bool.false_bne, Bool.bne_false, if_true, Bool.false_eq_true, if_false] <;>
      omega

/-- The number of ones among the data bits gives their parity. -/
theorem oddOnes_eq (x : Byte) : oddOnes x = decide ((List.range 8).countP (fun i => x.getLsbD i) % 2 = 1) := by
  have hfold := foldl_bne_eq (fun i => x.getLsbD i) false (List.range 8)
  simp only [Bool.false_eq_true, if_false, Nat.zero_add] at hfold
  exact hfold

theorem parity_iff (x : Byte) (p : Bool) : oddOnes x = p ↔
    ((List.range 8).countP (fun i => x.getLsbD i) + (if p then 1 else 0)) % 2 = 0 := by
  rw [oddOnes_eq]
  cases p
  · simp
  · simp
    omega

theorem checked_iff (chars : List ReaderChar) :
    (chars.all (fun c => decide (oddOnes c.data = c.parity)) && chars.all (·.stop)) = true ↔
      ∀ c ∈ chars, c.stop = true ∧
        ((List.range 8).countP (fun i => c.data.getLsbD i) + (if c.parity then 1 else 0)) % 2 = 0 := by
  simp only [Bool.and_eq_true, List.all_eq_true, decide_eq_true_eq, parity_iff]
  exact ⟨fun h c hc => ⟨h.2 c hc, h.1 c hc⟩, fun h => ⟨fun c hc => (h c hc).2, fun c hc => (h c hc).1⟩⟩

/-- Settles O27. -/
theorem readerFrameChecks : Obligations.ReaderFrameChecks := by
  intro chars n
  have hnumber (b0 b1 b2 : Byte) : leNat [b0, b1, b2] = b0.toNat + 256 * b1.toNat + 65536 * b2.toNat := by
    simp only [leNat]
    omega
  unfold readReader
  constructor
  · intro hread
    split at hread
    case isFalse => cases hread
    case isTrue hchecked =>
      split at hread
      case h_2 => cases hread
      case h_1 start b0 b1 b2 check stop hdata =>
        split at hread
        case isFalse => cases hread
        case isTrue hgood =>
          obtain ⟨rfl, rfl, hsum, hbadge⟩ := hgood
          cases hread
          exact ⟨b0, b1, b2, check, hdata, hsum, hnumber .., ((isBadge_iff _).1 hbadge).1, ((isBadge_iff _).1 hbadge).2,
            (checked_iff chars).1 hchecked⟩
  · rintro ⟨b0, b1, b2, check, hdata, hsum, rfl, hlow, hhigh, hchecked⟩
    rw [if_pos ((checked_iff chars).2 hchecked), hdata]
    refine (if_pos ⟨rfl, rfl, hsum, (isBadge_iff _).2 ?_⟩).trans (congrArg some (hnumber b0 b1 b2))
    rw [hnumber]
    exact ⟨hlow, hhigh⟩

/-! ## Line frames -/

theorem sourceOf_byteOf (p : Station) : sourceOf (byteOf p.val) = some p := by
  have hbyte : (byteOf p.val).toNat = p.val := byteOf_toNat (by omega)
  unfold sourceOf
  rw [dif_pos (by omega)]
  exact congrArg some (Fin.ext hbyte)

theorem directionOf_code (d : Direction) : directionOf (directionCode d) = some d := by cases d <;> rfl
theorem outcomeOf_code (o : PunchOutcome) : outcomeOf (outcomeCode o) = some o := by cases o <;> rfl
theorem beaconStateOf_code (b : BeaconState) : beaconStateOf (beaconStateCode b) = some b := by cases b <;> rfl
theorem clearReasonOf_code (r : ClearReason) : clearReasonOf (clearReasonCode r) = some r := by cases r <;> rfl

/-- The fields of the lane byte of a PUNCH frame (R204). -/
theorem laneByte_fields (l : Lane) (d : Direction) (o : PunchOutcome) :
    let n := (byteOf (l.number + 16 * directionCode d + 64 * outcomeCode o)).toNat
    n % 16 = l.number ∧ n / 16 % 4 = directionCode d ∧ n / 64 = outcomeCode o := by
  have hl : l.number ≤ 4 := by cases l <;> decide
  have hd : directionCode d < 3 := by cases d <;> decide
  have ho : outcomeCode o < 3 := by cases o <;> decide
  intro n
  have hn : n = l.number + 16 * directionCode d + 64 * outcomeCode o := byteOf_toNat (by omega)
  omega

/-- The fields of the state byte of a BEACON frame (R204). -/
theorem stateByte_fields (b : BeaconState) (fresh isolated : Bool) :
    let x := byteOf (beaconStateCode b + 64 * bit fresh + 128 * bit isolated)
    x.toNat % 4 = beaconStateCode b ∧ x.getLsbD 6 = fresh ∧ x.getLsbD 7 = isolated := by
  cases b <;> cases fresh <;> cases isolated <;> decide

theorem ofNat_leNat_leBytes {w : Nat} (k : Nat) (x : BitVec w) (h : 2 ^ w = 256 ^ k) :
    BitVec.ofNat w (leNat (leBytes k x.toNat)) = x := by
  rw [leNat_leBytes_of_lt (h ▸ x.isLt), BitVec.ofNat_toNat, BitVec.setWidth_eq]

theorem bodyFrame_punch {f : PunchFrame} (h : isBadge f.badge.toNat = true) :
    bodyFrame (frameBody (.punch f)) = some (.punch f) := by
  obtain ⟨hlane, hdirection, houtcome⟩ := laneByte_fields f.lane f.direction f.outcome
  have hbadge : leNat (leBytes 3 f.badge.toNat) = f.badge.toNat := leNat_leBytes_of_lt f.badge.isLt
  show (do
    let source ← sourceOf (byteOf f.source.val)
    let l ← Lane.ofNumber ((byteOf (f.lane.number + 16 * directionCode f.direction + 64 * outcomeCode f.outcome)).toNat % 16)
    let direction ← directionOf
      ((byteOf (f.lane.number + 16 * directionCode f.direction + 64 * outcomeCode f.outcome)).toNat / 16 % 4)
    let outcome ← outcomeOf
      ((byteOf (f.lane.number + 16 * directionCode f.direction + 64 * outcomeCode f.outcome)).toNat / 64)
    let badge := leNat (leBytes 3 f.badge.toNat)
    if isBadge badge then
      some (.punch { source, seq := f.seq, badge := BitVec.ofNat 24 badge, lane := l, direction, outcome,
                     time := BitVec.ofNat 32 (leNat (leBytes 4 f.time.toNat)), era := f.era })
    else none) = some (Frame.punch f)
  rw [hlane, hdirection, houtcome, sourceOf_byteOf, Lane.ofNumber_number, directionOf_code, outcomeOf_code,
    ofNat_leNat_leBytes 4 f.time (by decide)]
  simp [hbadge, h]

theorem bodyFrame_beacon (f : BeaconFrame) : bodyFrame (frameBody (.beacon f)) = some (.beacon f) := by
  obtain ⟨hstate, hfresh, hisolated⟩ := stateByte_fields f.state f.fresh f.isolated
  have hbody : bodyFrame (frameBody (.beacon f)) = (do
      let x := byteOf (beaconStateCode f.state + 64 * bit f.fresh + 128 * bit f.isolated)
      let source ← sourceOf (byteOf f.source.val)
      let state ← beaconStateOf (x.toNat % 4)
      some (.beacon { source, state, fresh := x.getLsbD 6, isolated := x.getLsbD 7, era := f.era,
                      time := BitVec.ofNat 32 (leNat (leBytes 4 f.time.toNat)), next := f.next })) := rfl
  rw [hbody]
  dsimp only
  rw [sourceOf_byteOf, hstate, hfresh, hisolated, beaconStateOf_code, ofNat_leNat_leBytes 4 f.time (by decide)]
  rfl

theorem bodyFrame_bellCue (f : CueFrame) : bodyFrame (frameBody (.bellCue f)) = some (.bellCue f) := by
  have hbody : bodyFrame (frameBody (.bellCue f)) = (do
      let source ← sourceOf (byteOf f.source.val)
      some (.bellCue { source, entry := f.entry, day := BitVec.ofNat 16 (leNat (leBytes 2 f.day.toNat)) })) := rfl
  rw [hbody, sourceOf_byteOf, ofNat_leNat_leBytes 2 f.day (by decide)]
  rfl

theorem bodyFrame_clear (f : ClearFrame) : bodyFrame (frameBody (.clear f)) = some (.clear f) := by
  have hbody : bodyFrame (frameBody (.clear f)) = (do
      let source ← sourceOf (byteOf f.source.val)
      let reason ← clearReasonOf (byteOf (clearReasonCode f.reason)).toNat
      some (.clear { source, reason })) := rfl
  have hcode : clearReasonCode f.reason < 256 := by cases f.reason <;> decide
  rw [hbody, sourceOf_byteOf, byteOf_toNat hcode, clearReasonOf_code]
  rfl

theorem bodyFrame_allClear (p : Station) : bodyFrame (frameBody (.allClear p)) = some (.allClear p) := by
  have hbody : bodyFrame (frameBody (.allClear p)) = (do
      let source ← sourceOf (byteOf p.val)
      some (.allClear source)) := rfl
  rw [hbody, sourceOf_byteOf]
  rfl

/-- The body of a frame that R113 does not refuse is read back as the frame. -/
theorem bodyFrame_frameBody {f : Frame} (h : frameValid f = true) : bodyFrame (frameBody f) = some f := by
  cases f with
  | punch f => exact bodyFrame_punch h
  | beacon f => exact bodyFrame_beacon f
  | bellCue f => exact bodyFrame_bellCue f
  | clear f => exact bodyFrame_clear f
  | allClear p => exact bodyFrame_allClear p

/-- The kind of a frame gives its length (R110). -/
theorem frameBody_length (f : Frame) : ∃ kind rest, frameBody f = kind :: rest ∧ frameLength kind = some (rest.length + 4) := by
  cases f <;> exact ⟨_, _, rfl, rfl⟩

/-- A preamble, a body of its kind's length and the CRC of the body are read back as the body says. -/
theorem readFrame_sent {kind : Byte} {rest : List Byte} (h : frameLength kind = some (rest.length + 4)) :
    readFrame (preamble :: (kind :: rest ++ crcBytes (kind :: rest))) = bodyFrame (kind :: rest) := by
  have hcrc : (crcBytes (kind :: rest)).length = 2 := rfl
  have hlength : preamble = preamble ∧ (rest ++ crcBytes (kind :: rest)).length + 2 = rest.length + 4 := by
    rw [List.length_append, hcrc]
    exact ⟨rfl, rfl⟩
  rw [List.cons_append, readFrame, h]
  refine (if_pos hlength).trans ?_
  rw [Nat.add_sub_cancel, List.take_left, List.drop_left]
  exact if_pos rfl

/-- Settles O53. -/
theorem frameRoundTrip : Obligations.FrameRoundTrip := by
  intro f hf
  obtain ⟨kind, rest, hbody, hlength⟩ := frameBody_length f
  have hread := readFrame_sent hlength
  rw [← hbody] at hread
  exact hread.trans (bodyFrame_frameBody hf)

end Sys2Proof.Machine
end

section
/-! SUPPORT. The gate trace (R157), and the events that a watch unit with no rule armed takes (R141). -/

namespace Sys2Proof.Machine

/-! ## The UNUSED mark (R157) -/

theorem isAdmitOf_iff (l : Lane) (badge readTime : Option Nat) (x : Option TraceEntry) :
    TraceEntry.isAdmitOf l badge readTime x = true ↔ ∃ y, x = some y ∧ (y.outcome = .admitted ∨ y.outcome = .flagged) ∧ y.lane = l ∧
      y.badge = badge ∧ readTime = some y.time := by
  cases x with
  | none => simp [TraceEntry.isAdmitOf]
  | some y => simp [TraceEntry.isAdmitOf, and_assoc, @eq_comm _ readTime]

/-- The age of a position, counted backwards from another. -/
def ageFrom (pos k : Nat) : Nat := (pos + 32 - k) % 32

/-- The walk backwards from a position marks the first admission it meets, and nothing else. -/
theorem markAdmit_getD (l : Lane) (badge readTime : Option Nat) {n : Nat} (hn : n ≤ 32) {pos : Nat} (hpos : pos < 32)
    {t : List (Option TraceEntry)} (ht : t.length = 32) {k : Nat} (hk : k < 32) :
    let admits (j : Nat) : Prop := TraceEntry.isAdmitOf l badge readTime (t.getD j none) = true
    let newest : Prop := ageFrom pos k < n ∧ admits k ∧ ∀ j, j < 32 → ageFrom pos j < ageFrom pos k → ¬ admits j
    (newest → (markAdmit l badge readTime n pos t).getD k none = (t.getD k none).map fun y => { y with unused := true }) ∧
      (¬ newest → (markAdmit l badge readTime n pos t).getD k none = t.getD k none) := by
  induction n generalizing pos with
  | zero => exact ⟨fun h => absurd h.1 (by omega), fun _ => rfl⟩
  | succ n ih =>
    intro admits newest
    have hself : ageFrom pos pos = 0 := by unfold ageFrom; omega
    unfold markAdmit
    by_cases hadmit : TraceEntry.isAdmitOf l badge readTime (t.getD pos none) = true
    · rw [if_pos hadmit, getD_modAt _ _ _ _ _ (by omega)]
      by_cases hkp : k = pos
      · subst hkp
        refine ⟨fun _ => if_pos rfl, fun h => absurd ⟨by omega, hadmit, fun j _ hj => ?_⟩ h⟩
        omega
      · have hage : 0 < ageFrom pos k := by unfold ageFrom; omega
        exact ⟨fun h => absurd hadmit (h.2.2 pos hpos (hself ▸ hage)), fun _ => if_neg hkp⟩
    · rw [if_neg hadmit]
      have hback : ∀ j, j < 32 → j ≠ pos → ageFrom ((pos + traceLength - 1) % traceLength) j + 1 = ageFrom pos j := by
        intro j hj hne
        unfold ageFrom traceLength
        omega
      have hlast : ageFrom ((pos + traceLength - 1) % traceLength) pos = 31 := by unfold ageFrom traceLength; omega
      obtain ⟨hmarked, hkept⟩ := ih (by omega) (pos := (pos + traceLength - 1) % traceLength) (by unfold traceLength; omega)
      have hsame : newest ↔ ageFrom ((pos + traceLength - 1) % traceLength) k < n ∧ admits k ∧
          ∀ j, j < 32 → ageFrom ((pos + traceLength - 1) % traceLength) j < ageFrom ((pos + traceLength - 1) % traceLength) k →
            ¬ admits j := by
        constructor
        · rintro ⟨hage, hak, hfirst⟩
          have hkp : k ≠ pos := by rintro rfl; exact hadmit hak
          have hkb := hback k hk hkp
          refine ⟨by omega, hak, fun j hj hlt => ?_⟩
          by_cases hjp : j = pos
          · exact hjp ▸ hadmit
          · have hjb := hback j hj hjp
            exact hfirst j hj (by omega)
        · rintro ⟨hage, hak, hfirst⟩
          have hkp : k ≠ pos := by rintro rfl; exact hadmit hak
          have hkb := hback k hk hkp
          refine ⟨by omega, hak, fun j hj hlt => ?_⟩
          by_cases hjp : j = pos
          · exact hjp ▸ hadmit
          · have hjb := hback j hj hjp
            exact hfirst j hj (by omega)
      exact ⟨fun h => hmarked (hsame.1 h), fun h => hkept (mt hsame.2 h)⟩

/-- The entry of an event (R157). -/
def entryOf (w : WatchUnit) (l : Lane) (e : LaneEvent) : TraceEntry :=
  { number := w.nextEvent, time := e.time, lane := l, badge := e.badge, outcome := e.kind, reason := e.reason,
    unused := decide (e.kind = .unused) }

/-- An own-lane event written into the ring is entered as R157 says. -/
theorem eventTraced_write {w : WatchUnit} (hlength : w.trace.length = 32) (hpos : w.writePos < 32) (l : Lane) (e : LaneEvent) :
    EventTraced w (w.write l e) l e := by
  have hwritten (k : Nat) : (modAt (fun _ => some (entryOf w l e)) w.writePos w.trace).getD k none =
      if k = w.writePos then some (entryOf w l e) else w.trace.getD k none := getD_modAt _ _ _ _ _ (by omega)
  have hlen : (modAt (fun _ => some (entryOf w l e)) w.writePos w.trace).length = 32 := by simpa using hlength
  unfold EventTraced
  intro age
  by_cases hu : e.kind = .unused
  · have htrace : (w.write l e).trace = markAdmit l e.badge e.readTime traceLength w.writePos
        (modAt (fun _ => some (entryOf w l e)) w.writePos w.trace) := if_pos hu
    have hown : ¬ TraceEntry.isAdmitOf l e.badge e.readTime (some (entryOf w l e)) = true := by
      rw [isAdmitOf_iff]
      rintro ⟨y, hy, hout, -⟩
      cases hy
      rcases hout with hout | hout <;> rw [show (entryOf w l e).outcome = e.kind from rfl, hu] at hout <;> cases hout
    have hadmits (j : Nat) (hj : j ≠ w.writePos) : TraceEntry.isAdmitOf l e.badge e.readTime
        ((modAt (fun _ => some (entryOf w l e)) w.writePos w.trace).getD j none) = true ↔ isAdmission w l e j := by
      rw [hwritten j, if_neg hj, isAdmitOf_iff]
      rfl
    refine ⟨rfl, ?_, ?_, fun k hk hne => ?_⟩
    · rw [htrace, markAdmit_length, hlen]
    · obtain ⟨-, hkept⟩ := markAdmit_getD l e.badge e.readTime (le_refl 32) hpos hlen hpos
      have howned := (hwritten w.writePos).trans (if_pos rfl)
      rw [htrace]
      exact (hkept fun h => hown (howned ▸ h.2.1)).trans howned
    · intro newest
      obtain ⟨hmarked, hkept⟩ := markAdmit_getD l e.badge e.readTime (le_refl 32) hpos hlen hk
      have hsame : newest ↔ ageFrom w.writePos k < 32 ∧ TraceEntry.isAdmitOf l e.badge e.readTime
            ((modAt (fun _ => some (entryOf w l e)) w.writePos w.trace).getD k none) = true ∧
          ∀ j, j < 32 → ageFrom w.writePos j < ageFrom w.writePos k → ¬ TraceEntry.isAdmitOf l e.badge e.readTime
            ((modAt (fun _ => some (entryOf w l e)) w.writePos w.trace).getD j none) = true := by
        rw [hadmits k hne]
        constructor
        · rintro ⟨-, hak, hfirst⟩
          refine ⟨Nat.mod_lt _ (by decide), hak, fun j hj hlt => ?_⟩
          by_cases hjp : j = w.writePos
          · rw [hjp, hwritten, if_pos rfl]
            exact hown
          · rw [hadmits j hjp]
            exact hfirst j hj hjp hlt
        · rintro ⟨-, hak, hfirst⟩
          exact ⟨hu, hak, fun j hj hjp hlt => (hadmits j hjp).not.1 (hfirst j hj hlt)⟩
      rw [htrace]
      refine ⟨fun h => (hmarked (hsame.1 h)).trans ?_, fun h => (hkept (mt hsame.2 h)).trans ?_⟩
      · rw [hwritten, if_neg hne]
      · rw [hwritten, if_neg hne]
  · have htrace : (w.write l e).trace = modAt (fun _ => some (entryOf w l e)) w.writePos w.trace := if_neg hu
    refine ⟨rfl, by rw [htrace, hlen], by rw [htrace, hwritten, if_pos rfl]; rfl, fun k hk hne => ?_⟩
    exact ⟨fun h => absurd h.1 hu, fun _ => by rw [htrace, hwritten, if_neg hne]⟩

/-! ## Events taken with no rule armed (R141) -/

/-- An event entered in the gate trace; a PEER_PUNCH is not traced. -/
def WatchUnit.enter (w : WatchUnit) (e : LaneEvent) : WatchUnit :=
  match e.lane with
  | .own l => w.write l e
  | .peer => w

/-- Events entered in the gate trace one after another. -/
def WatchUnit.enterAll (w : WatchUnit) (es : List LaneEvent) : WatchUnit := es.foldl WatchUnit.enter w

theorem WatchUnit.enter_kept (w : WatchUnit) (e : LaneEvent) : (w.enter e).rules = w.rules ∧ (w.enter e).handed = w.handed ∧
    (w.enter e).readPtr = w.readPtr ∧ (w.enter e).incidents = w.incidents ∧ (w.enter e).lost = w.lost := by
  unfold WatchUnit.enter
  split <;> exact ⟨rfl, rfl, rfl, rfl, rfl⟩

theorem WatchUnit.enterAll_kept (w : WatchUnit) (es : List LaneEvent) :
    (w.enterAll es).rules = w.rules ∧ (w.enterAll es).handed = w.handed ∧ (w.enterAll es).readPtr = w.readPtr ∧
      (w.enterAll es).incidents = w.incidents ∧ (w.enterAll es).lost = w.lost := by
  induction es generalizing w with
  | nil => exact ⟨rfl, rfl, rfl, rfl, rfl⟩
  | cons e es ih =>
    obtain ⟨hrules, hhanded, hread, hincidents, hlost⟩ := ih (w.enter e)
    obtain ⟨hrules', hhanded', hread', hincidents', hlost'⟩ := w.enter_kept e
    exact ⟨hrules.trans hrules', hhanded.trans hhanded', hread.trans hread', hincidents.trans hincidents', hlost.trans hlost'⟩

section
variable {s : State}

/-- No rule is armed. -/
def WatchUnit.Unarmed (w : WatchUnit) : Prop := ∀ r, (w.rules.get r).armed = false

theorem matchRules_unarmed (h : s.watch.Unarmed) (e : LaneEvent) (rs : List RuleNo) :
    rs.foldl (fun s r => s.matchRule r e) s = s := by
  induction rs with
  | nil => rfl
  | cons r rs ih => rw [List.foldl_cons, State.matchRule_disarmed (h r), ih]

/-- With no rule armed an event is entered in the gate trace alone. -/
theorem takeEvent_unarmed (h : s.watch.Unarmed) (e : LaneEvent) : s.takeEvent e = { s with watch := s.watch.enter e } := by
  have htraced : (match e.lane with
      | .own l => s.modWatch fun w => w.write l e
      | .peer => s) = { s with watch := s.watch.enter e } := by
    unfold WatchUnit.enter
    cases e.lane <;> rfl
  have hmatched : (RuleNo.all.foldl (fun s r => s.matchRule r e) { s with watch := s.watch.enter e } : State) =
      { s with watch := s.watch.enter e } :=
    matchRules_unarmed (s := { s with watch := s.watch.enter e })
      (fun r => (congrArg (fun p => (PerRule.get p r).armed) (s.watch.enter_kept e).1).trans (h r)) e RuleNo.all
  refine (congrArg (fun x : State => if x.station.serving then RuleNo.all.foldl (fun s r => s.matchRule r e) x else x)
    htraced).trans ?_
  split
  · exact hmatched
  · rfl

theorem takeEvents_unarmed {n : Nat} (h : s.watch.Unarmed) (hn : s.watch.handed.length ≤ n) :
    s.takeEvents n = { s with watch := ({ s.watch with handed := [] } : WatchUnit).enterAll s.watch.handed } := by
  induction n generalizing s with
  | zero =>
    have hnil : s.watch.handed = [] := List.length_eq_zero_iff.1 (Nat.le_zero.1 hn)
    have hself : ({ s.watch with handed := [] } : WatchUnit) = s.watch := by rw [← hnil]
    rw [hself, hnil]
    rfl
  | succ n ih =>
    cases hes : s.watch.handed with
    | nil =>
      have hself : ({ s.watch with handed := [] } : WatchUnit) = s.watch := by rw [← hes]
      rw [hself, State.takeEvents, hes] <;> rfl
    | cons e rest =>
      have hstep : s.takeEvents (n + 1) = ((s.modWatch fun w => { w with handed := rest }).takeEvent e).takeEvents n := by
        rw [State.takeEvents, hes]
      have hentered := takeEvent_unarmed (s := s.modWatch fun w => { w with handed := rest }) h e
      obtain ⟨hrules, hhanded, -⟩ := ({ s.watch with handed := rest } : WatchUnit).enter_kept e
      rw [hstep, hentered]
      refine (ih (fun r => (congrArg (fun p => (PerRule.get p r).armed) hrules).trans (h r)) ?_).trans ?_
      · rw [hes] at hn
        exact (congrArg List.length hhanded).trans_le (Nat.le_of_succ_le_succ hn)
      · have hcommute (w : WatchUnit) (es : List LaneEvent) :
            ({ w.enter e with handed := es } : WatchUnit) = ({ w with handed := es } : WatchUnit).enter e := by
          unfold WatchUnit.enter
          cases e.lane <;> rfl
        have htaken : (({ ({ s.watch with handed := rest } : WatchUnit).enter e with handed := [] } : WatchUnit)).enterAll
            (({ s.watch with handed := rest } : WatchUnit).enter e).handed =
            (({ s.watch with handed := [] } : WatchUnit).enter e).enterAll rest :=
          congrArg₂ WatchUnit.enterAll (hcommute { s.watch with handed := rest } []) hhanded
        exact congrArg (fun w => { s with watch := w }) htaken

/-- With no rule armed, the events handed are entered in the gate trace and nothing else is done. -/
theorem settleEvents_unarmed (h : s.watch.Unarmed) (hn : s.watch.handed.length ≤ 32) :
    s.settleEvents = { s with watch := ({ s.watch with handed := [] } : WatchUnit).enterAll s.watch.handed } :=
  takeEvents_unarmed h hn

/-! ## What the statements say of the gate trace -/

/-- Two watch units with the same gate trace. -/
def WatchUnit.SameTrace (w v : WatchUnit) : Prop := w.trace = v.trace ∧ w.writePos = v.writePos ∧ w.nextEvent = v.nextEvent

theorem WatchUnit.SameTrace.enter {w v : WatchUnit} (h : w.SameTrace v) (e : LaneEvent) : (w.enter e).SameTrace (v.enter e) := by
  obtain ⟨htrace, hpos, hnext⟩ := h
  unfold WatchUnit.enter
  split
  · refine ⟨?_, ?_, ?_⟩
    · simp only [WatchUnit.write, htrace, hpos, hnext]
    · simp only [WatchUnit.write, hpos]
    · simp only [WatchUnit.write, hnext]
  · exact ⟨htrace, hpos, hnext⟩

theorem WatchUnit.SameTrace.enterAll {w v : WatchUnit} (h : w.SameTrace v) (es : List LaneEvent) :
    (w.enterAll es).SameTrace (v.enterAll es) := by
  induction es generalizing w v with
  | nil => exact h
  | cons e es ih => exact ih (h.enter e)

theorem eventsTraced_enterAll {w : WatchUnit} (hlength : w.trace.length = 32) (hpos : w.writePos < 32) (es : List LaneEvent) :
    EventsTraced w es (w.enterAll es) := by
  induction es generalizing w with
  | nil => rfl
  | cons e es ih =>
    unfold EventsTraced
    cases hlane : e.lane with
    | own l =>
      have hentered : w.enter e = w.write l e := by rw [WatchUnit.enter, hlane]
      have htraced := eventTraced_write hlength hpos l e
      refine ⟨w.write l e, htraced, ?_⟩
      rw [← hentered]
      refine ih ?_ ?_
      · rw [hentered]
        exact htraced.2.1
      · rw [hentered]
        exact Nat.mod_lt _ (by decide)
    | peer =>
      have hentered : w.enter e = w := by rw [WatchUnit.enter, hlane]
      have hall : w.enterAll (e :: es) = w.enterAll es := congrArg (WatchUnit.enterAll · es) hentered
      rw [hall]
      exact ih hlength hpos

theorem enterAll_nextEvent (w : WatchUnit) {es : List LaneEvent} (h : ∀ e ∈ es, ∃ l, e.lane = .own l) :
    (w.enterAll es).nextEvent = w.nextEvent + BitVec.ofNat 16 es.length := by
  induction es generalizing w with
  | nil => simp [WatchUnit.enterAll]
  | cons e es ih =>
    obtain ⟨l, hl⟩ := h e (List.mem_cons_self ..)
    have hentered : w.enter e = w.write l e := by rw [WatchUnit.enter, hl]
    have hrest := ih (w.enter e) fun x hx => h x (List.mem_cons_of_mem _ hx)
    refine hrest.trans ?_
    rw [hentered, List.length_cons]
    show w.nextEvent + 1 + _ = _
    rw [BitVec.ofNat_add, add_assoc, add_comm (1 : BitVec 16)]
    rfl

/-- The events that a watch unit took, whose incidents are those of `q`, are entered as the statements say. -/
theorem traced_enterAll {s t : State} {q : WatchUnit} {es : List LaneEvent} (hown : ∀ e ∈ es, ∃ l, e.lane = .own l)
    (hq : q = { s.watch with incidents := q.incidents, lost := q.lost, handed := q.handed })
    (ht : t.watch = ({ q with handed := [] } : WatchUnit).enterAll es) : Traced s t es q := by
  obtain ⟨hrules, hhanded, hread, hincidents, hlost⟩ := WatchUnit.enterAll_kept { q with handed := [] } es
  have hkept : q.rules = s.watch.rules ∧ q.readPtr = s.watch.readPtr ∧ q.SameTrace s.watch := by
    rw [hq]
    exact ⟨rfl, rfl, rfl, rfl, rfl⟩
  have hsame : t.watch.SameTrace (s.watch.enterAll es) := by
    rw [ht]
    exact WatchUnit.SameTrace.enterAll (w := { q with handed := [] }) hkept.2.2 es
  obtain ⟨htrace, hpos, hnext⟩ := hsame
  refine ⟨by rw [ht, hrules, ← hkept.1], by rw [ht, hhanded], by rw [ht, hread, ← hkept.2.1], by rw [ht, hincidents],
    by rw [ht, hlost], hnext.trans (enterAll_nextEvent _ hown), fun hnil => ?_, fun hlen hlt => ?_⟩
  · subst hnil
    exact ⟨htrace, hpos⟩
  · exact ⟨_, eventsTraced_enterAll hlen hlt es, htrace, hpos⟩

end

end Sys2Proof.Machine
end

section
/-! SUPPORT. A lane that leaves FAULT (R40, R193), the levels of the inputs and the door closings (R18, R19, R37, R41,
R188). -/

namespace Sys2Proof.Machine

section
variable {s : State} {l : Lane}

theorem watched_of (h : s.watches l) : s.watched l = true := by
  obtain ⟨⟨-, hserving⟩, hkind⟩ := h
  simp [State.watched, hserving, hkind]

theorem not_watched_of (hr : s.inReset = false) (h : ¬ s.watches l) : ¬ s.watched l = true := fun hw => by
  simp only [State.watched, Bool.and_eq_true, decide_eq_true_eq] at hw
  exact h ⟨⟨hr, hw.1⟩, hw.2⟩

theorem faultsTaken_of (h : s.served) : s.faultsTaken = true := by
  refine decide_eq_true fun hs => ?_
  have hserving := h.2
  rw [hs] at hserving
  cases hserving

/-! ## Records cleared -/

theorem leaveFault_spec (h : s.watches l) : FaultLeft s (s.leaveFault l) l := by
  have hs := served_not_holdover h.1
  constructor
  · intro hstays
    refine if_neg fun ⟨hfault, hclear⟩ => hstays.elim (fun hn => hn hfault) fun hopen => ?_
    rw [(s.laneFaulted_iff l).2 hopen] at hclear
    cases hclear
  · intro hfault hclosed doorOpen rest
    have hsettled : s.leaveFault l = s.modLane l (s.settledLane l) :=
      (if_pos ⟨hfault, Bool.eq_false_iff.2 (mt (s.laneFaulted_iff l).1 hclosed)⟩).trans (s.settleLane_eq l)
    refine ⟨fun hd => ?_, fun hd => ⟨fun hheld => ?_, fun hheld => ?_⟩⟩
    · exact hsettled.trans (congrArg (fun u => { s with lanes := s.lanes.set l u }) (State.settledLane_door hs hd))
    · rw [hsettled]
      refine congrArg (fun u => { s with lanes := s.lanes.set l u }) ((State.settledLane_rest hs h.2 hd).trans ?_)
      rw [State.restState_held hheld]
    · rw [hsettled]
      refine congrArg (fun u => { s with lanes := s.lanes.set l u }) ((State.settledLane_rest hs h.2 hd).trans ?_)
      rw [State.restState_idle hheld]

/-- A record cleared on a fitted lane (R190, R193). -/
theorem clearLane_spec (h : s.watches l) (k : LaneFaultKind) :
    FaultLeft { s with faults := { s.faults with lanes := s.faults.lanes.set l ((s.faults.lanes.get l).set k .reset) } }
      (s.clearLane l k) l := by
  have hcleared : s.clearLane l k = ({ s with faults := { s.faults with
      lanes := s.faults.lanes.set l ((s.faults.lanes.get l).set k .reset) } } : State).leaveFault l :=
    if_pos ⟨faultsTaken_of h.1, h.2⟩
  rw [hcleared]
  exact leaveFault_spec h

/-- A lane that a cleared record leaves: its state alone is the lane's. -/
theorem FaultLeft.only {t : State} (h : FaultLeft s t l) : t = { s with lanes := t.lanes } := by
  obtain ⟨hstays, hleaves⟩ := h
  by_cases hc : (s.lane l).state ≠ .fault ∨ openFault s l
  · rw [hstays hc]
  · obtain ⟨hfault, hclosed⟩ := not_or.1 hc
    obtain ⟨hdoor, hrest⟩ := hleaves (not_not.1 hfault) hclosed
    by_cases hd : (s.lane l).kind = .door ∧ (s.lane l).aux.level = some true
    · rw [hdoor hd]
    · obtain ⟨hheld, hidle⟩ := hrest hd
      by_cases hh : heldLane s l
      · rw [hheld hh]
      · rw [hidle hh]

theorem clearLane_stays (h : s.watches l) (k : LaneFaultKind) (hf : (s.lane l).state ≠ .fault) : s.clearLane l k =
    { s with faults := { s.faults with lanes := s.faults.lanes.set l ((s.faults.lanes.get l).set k .reset) } } :=
  (clearLane_spec h k).1 (.inl hf)

/-! ## Edges -/

theorem EdgeReady.ready {d : Debounced} {raw : Bool} (h : EdgeReady d raw) : d.ready raw = true := by
  obtain ⟨htimer, hlevel⟩ := h
  simp [Debounced.ready, htimer, hlevel]

/-- A lane with its auxiliary edge taken. -/
def LaneUnit.auxEdged (u : LaneUnit) (raw : Bool) : LaneUnit := { u with aux := { level := some raw, timer := none } }

theorem exec_auxEdge (h : s.watches l) (he : EdgeReady (s.lane l).aux (s.inputs.aux.get l)) :
    exec (.debounceExpiry (.aux l)) s = .next
      (((s.modLane l fun u => u.auxEdged (s.inputs.aux.get l)).auxEdge l (s.inputs.aux.get l)).settleEvents) :=
  congrArg Host.Outcome.next ((s.event_taken _ h.1.1).trans (if_pos ⟨watched_of h, he.ready⟩))

theorem exec_senseEdge (h : s.watches l) (he : EdgeReady (s.lane l).sense (s.inputs.sense.get l)) :
    exec (.debounceExpiry (.sense l)) s = .next
      (((s.modLane l fun u => { u with sense := { level := some (s.inputs.sense.get l), timer := none } }).senseEdge
        l).settleEvents) :=
  congrArg Host.Outcome.next ((s.event_taken _ h.1.1).trans (if_pos ⟨watched_of h, he.ready⟩))

/-- A change of a lane that leaves its kind leaves it watched. -/
theorem watches_set {u : LaneUnit} (h : s.watches l) (hk : u.kind = (s.lane l).kind) :
    ({ s with lanes := s.lanes.set l u } : State).watches l := by
  refine ⟨h.1, ?_⟩
  show ((s.lanes.set l u).get l).kind ≠ .off
  rw [PerLane.get_set_same, hk]
  exact h.2

end

/-! ## Door closings -/

section
variable {s : State} {l : Lane}

theorem driveFor_released {u : LaneUnit} (h : s.station.serving = true) (hu : liveDrive u = true) :
    s.driveFor l u = decide (s.station ≠ .join) := by
  unfold State.driveFor
  cases hs : s.station <;> first | rfl | exact hu | (rw [hs] at h; cases h)

/-- A lane in OPEN that its door closing lets go (R37, R41). -/
theorem closeDoor_spec (h : s.watches l) :
    let closed (x : LaneState) : LaneUnit := { s.lane l with state := x, heldOpen := none }
    (s.station = .evacuate → s.closeDoor l = { s with lanes := s.lanes.set l (closed .idle) }) ∧
    (s.station ≠ .evacuate → (s.lane l).release.isSome = true →
      s.closeDoor l = { s with lanes := s.lanes.set l (drivenLane
        { closed .released with releaseTimer := some (16 * (s.sw2.limits.get l).release) } (decide (s.station ≠ .join))) }) ∧
    (s.station ≠ .evacuate → (s.lane l).release = none →
      s.closeDoor l = { s with lanes := s.lanes.set l (drivenLane (closed (s.restState l)) false) }) := by
  intro closed
  have hs := served_not_holdover h.1
  refine ⟨fun he => if_pos he, fun he hr => ?_, fun he hr => ?_⟩
  · obtain ⟨p, hp⟩ := Option.isSome_iff_exists.1 hr
    refine (if_neg he).trans ?_
    rw [hp]
    refine (s.modLane_refreshDrive l _).trans (congrArg (fun u => { s with lanes := s.lanes.set l u }) ?_)
    have htime : s.releaseTime l = 16 * (s.sw2.limits.get l).release := Nat.mul_comm ..
    rw [htime]
    exact State.redriven_fitted h.2 hs (driveFor_released h.1.2 rfl)
  · refine (if_neg he).trans ?_
    rw [hr]
    refine (s.modLane_refreshDrive l _).trans (congrArg (fun u => { s with lanes := s.lanes.set l u }) ?_)
    refine State.redriven_fitted h.2 hs ((State.driveFor_locked hs ?_).trans (decide_eq_false he))
    unfold State.restState
    split <;> rfl

theorem closeDoor_only (h : s.watches l) : ∃ u, s.closeDoor l = { s with lanes := s.lanes.set l u } ∧
    u.kind = (s.lane l).kind ∧ u.state ≠ .fault := by
  obtain ⟨hevac, hwaits, hrests⟩ := closeDoor_spec h
  by_cases he : s.station = .evacuate
  · exact ⟨_, hevac he, rfl, nofun⟩
  · rcases Option.eq_none_or_eq_some (s.lane l).release with hr | ⟨p, hr⟩
    · refine ⟨_, hrests he hr, rfl, ?_⟩
      show s.restState l ≠ .fault
      unfold State.restState
      split <;> nofun
    · exact ⟨_, hwaits he (by rw [hr]; rfl), rfl, nofun⟩

end

section
variable {s : State} {l : Lane}

/-- The fault monitor with a lane's record cleared. -/
def State.recordCleared (s : State) (l : Lane) (k : LaneFaultKind) : FaultMonitor :=
  { s.faults with lanes := s.faults.lanes.set l ((s.faults.lanes.get l).set k .reset) }

theorem doorClosing_opened (h : s.watches l) (ho : (s.lane l).state = .opened) :
    s.doorClosing l = { s.closeDoor l with faults := s.recordCleared l .doorHeld } := by
  obtain ⟨u, hclosed, hkind, hstate⟩ := closeDoor_only h
  refine (congrArg (State.clearLane · l .doorHeld) (if_pos ho)).trans ?_
  rw [hclosed]
  refine clearLane_stays (watches_set h hkind) .doorHeld ?_
  show ((s.lanes.set l u).get l).state ≠ .fault
  rw [PerLane.get_set_same]
  exact hstate

theorem doorClosing_other (h : s.watches l) (ho : (s.lane l).state ≠ .opened) :
    FaultLeft { s with faults := s.recordCleared l .doorHeld } (s.doorClosing l) l := by
  have hclosing : s.doorClosing l = s.clearLane l .doorHeld := congrArg (State.clearLane · l .doorHeld) (if_neg ho)
  rw [hclosing]
  exact clearLane_spec h .doorHeld

theorem doorClosing_only (h : s.watches l) :
    s.doorClosing l = { s with lanes := (s.doorClosing l).lanes, faults := s.recordCleared l .doorHeld } := by
  by_cases ho : (s.lane l).state = .opened
  · obtain ⟨u, hclosed, -⟩ := closeDoor_only h
    rw [doorClosing_opened h ho, hclosed]
  · exact (doorClosing_other h ho).only

end

/-- Settles O33. -/
theorem doorClosing : Obligations.DoorClosing := by
  unfold Obligations.DoorClosing
  refine ⟨fun l s h hcalm hraw he hk => ?_, fun l s h hcalm hraw he hk => ?_⟩
  · intro records cleared
    have hedged : (s.modLane l fun u => u.auxEdged false).watches l := watches_set h rfl
    have hlane : (s.modLane l fun u => u.auxEdged false).lane l = (s.lane l).auxEdged false := State.modLane_lane_same ..
    have hset (u : LaneUnit) : (s.modLane l fun u => u.auxEdged false).lanes.set l u = s.lanes.set l u := PerLane.set_set ..
    have honly := doorClosing_only hedged
    have hexec : exec (.debounceExpiry (.aux l)) s = .next ((s.modLane l fun u => u.auxEdged false).doorClosing l) := by
      have hedge := exec_auxEdge h (hraw.symm ▸ he)
      have hkind : ((s.modLane l fun u => u.auxEdged false).lane l).kind = .door := by rw [hlane]; exact hk
      rw [hraw] at hedge
      refine hedge.trans (congrArg Host.Outcome.next ((congrArg State.settleEvents ((if_neg nofun).trans (if_pos hkind))).trans ?_))
      refine State.settleEvents_nil ?_
      rw [honly]
      exact hcalm
    refine ⟨_, hexec, honly, fun ho => doorClosing_other hedged (by rw [hlane]; exact ho), ?_⟩
    intro ho closed
    have hopened : ((s.modLane l fun u => u.auxEdged false).lane l).state = .opened := by rw [hlane]; exact ho
    have hlanes : ((s.modLane l fun u => u.auxEdged false).doorClosing l).lanes =
        ((s.modLane l fun u => u.auxEdged false).closeDoor l).lanes := by rw [doorClosing_opened hedged hopened]
    obtain ⟨hevac, hwaits, hrests⟩ := closeDoor_spec hedged
    have hcleared : cleared.lane l = (s.modLane l fun u => u.auxEdged false).lane l := rfl
    rw [hlanes]
    refine ⟨fun hs => ?_, fun hs hr => ?_, fun hs hr => ⟨fun hh => ?_, fun hh => ?_⟩⟩
    · rw [hevac hs]
      exact hset _
    · rw [hwaits hs (by rw [hlane]; exact hr)]
      exact hset _
    · rw [hrests hs (by rw [hlane]; exact hr), State.restState_held (by exact hh)]
      exact hset _
    · rw [hrests hs (by rw [hlane]; exact hr), State.restState_idle (by exact hh)]
      exact hset _
  · have hedge := exec_auxEdge h (hraw.symm ▸ he)
    have hkind : ((s.modLane l fun u => u.auxEdged false).lane l).kind ≠ .door := by
      rw [State.modLane_lane_same]
      show (s.lane l).kind ≠ .door
      rw [hk]
      nofun
    rw [hraw] at hedge
    refine hedge.trans (congrArg Host.Outcome.next ?_)
    refine (congrArg State.settleEvents ((if_neg nofun).trans (if_neg hkind))).trans ?_
    exact State.settleEvents_nil (by exact hcalm)

end Sys2Proof.Machine
end

section
/-! SUPPORT. The raw levels and the first levels found (R18, R19, R161, R180). -/

namespace Sys2Proof.Machine

section
variable {s : State} {l : Lane} {level : Bool}

theorem Inputs.level_setLevel_same (x : Inputs) (i : Input) : (x.setLevel level i).level i = level := by
  cases i <;> simp [Inputs.setLevel, Inputs.level]

theorem Inputs.level_setLevel_ne (x : Inputs) {i k : Input} (h : k ≠ i) : (x.setLevel level i).level k = x.level k := by
  cases i <;> cases k <;> first | rfl | exact absurd rfl h | exact PerLane.get_set_ne _ (fun hl => h (congrArg _ hl)) _

/-- The debounce timer after a change of the raw level, started for a level that differs from the one found (R18). -/
theorem Debounced.rawChange_eq (d : Debounced) (n : Nat) :
    d.rawChange n level = { d with timer := if d.level = some level then none else some n } := by
  unfold Debounced.rawChange
  cases d.level <;> simp [eq_comm]

theorem exec_inputLevelChange (i : Input) (h : s.inReset = false) (hl : s.inputs.level i ≠ level) :
    exec (.inputLevelChange i level) s = .next ((s.modInputs fun x => x.setLevel level i).followLevel level i) :=
  congrArg Host.Outcome.next ((if_neg hl).trans (State.event_taken (s.modInputs fun x => x.setLevel level i) _ h))

/-- The gate supply level as the supply monitor takes it (R180, R182). -/
theorem gateChange_spec (m : SupplyMonitor) (x : StationState) (b : Bool) :
    (m.gateChange x b false = { m with failing := none }) ∧
    (x ≠ .holdover → m.gateChange x b true = { m with failing := some 1, returning := none }) ∧
    (x = .holdover → m.gateChange x b true = { m with failing := none, returning := none, loss := m.loss || b }) := by
  refine ⟨rfl, fun hx => ?_, fun hx => ?_⟩
  · simp [SupplyMonitor.gateChange, hx, failureDelay]
  · simp [SupplyMonitor.gateChange, hx]

theorem not_serving_iff (x : StationState) : x.serving = false ↔ x = .setup ∨ x = .holdover := by
  cases x <;> decide

/-- A door found open goes to OPEN, outside FAULT (R19). -/
theorem exec_auxFound (h : s.watches l) (hnone : (s.lane l).aux.level = none) (htimer : (s.lane l).aux.timer.isSome = true) :
    exec (.firstLevelFound (.aux l)) s = .next ((s.modLane l fun u => u.auxEdged (s.inputs.aux.get l)).foundOpen l) :=
  congrArg Host.Outcome.next ((s.event_taken _ h.1.1).trans
    (if_pos ⟨watched_of h, by simp [Debounced.sought, hnone, htimer]⟩))

/-- Settles O30. -/
theorem inputLevels : Obligations.InputLevels := by
  unfold Obligations.InputLevels
  refine ⟨fun i level s hr hl => ?_, fun l s h => ⟨fun hw hnone htimer => ?_, fun hw hnone htimer => ?_, fun hfound htimer => ?_⟩⟩
  · intro timerOf
    have hpin := s.inputs.level_setLevel_same (level := level) i
    have hpins : ∀ k, k ≠ i → (s.inputs.setLevel level i).level k = s.inputs.level k := fun k => Inputs.level_setLevel_ne _
    have hline := s.inputs.setLevel_resetLine level i
    refine ⟨_, exec_inputLevelChange i hr hl, ?_⟩
    cases i with
    | aux l =>
      by_cases hw : s.watches l
      · have hfollowed : (s.modInputs fun x => x.setLevel level (.aux l)).followLevel level (.aux l) =
            { s with inputs := s.inputs.setLevel level (.aux l), lanes := s.lanes.set l { s.lane l with aux := timerOf (s.lane l).aux } } :=
          (if_pos (watched_of hw)).trans (congrArg (fun d => ({ s with inputs := s.inputs.setLevel level (.aux l), lanes := s.lanes.set l { s.lane l with aux := d } } : State))
            (Debounced.rawChange_eq ..))
        rw [hfollowed]
        exact ⟨rfl, hpin, hpins, hline, rfl, rfl, fun hn => absurd hw hn, fun _ => rfl⟩
      · have hfollowed : (s.modInputs fun x => x.setLevel level (.aux l)).followLevel level (.aux l) =
            s.modInputs fun x => x.setLevel level (.aux l) := if_neg (not_watched_of hr hw)
        rw [hfollowed]
        exact ⟨rfl, hpin, hpins, hline, rfl, rfl, fun _ => rfl, fun hy => absurd hy hw⟩
    | sense l =>
      by_cases hw : s.watches l
      · have hfollowed : (s.modInputs fun x => x.setLevel level (.sense l)).followLevel level (.sense l) =
            { s with inputs := s.inputs.setLevel level (.sense l), lanes := s.lanes.set l { s.lane l with sense := timerOf (s.lane l).sense } } :=
          (if_pos (watched_of hw)).trans (congrArg (fun d => ({ s with inputs := s.inputs.setLevel level (.sense l), lanes := s.lanes.set l { s.lane l with sense := d } } : State))
            (Debounced.rawChange_eq ..))
        rw [hfollowed]
        exact ⟨rfl, hpin, hpins, hline, rfl, rfl, fun hn => absurd hw hn, fun _ => rfl⟩
      · have hfollowed : (s.modInputs fun x => x.setLevel level (.sense l)).followLevel level (.sense l) =
            s.modInputs fun x => x.setLevel level (.sense l) := if_neg (not_watched_of hr hw)
        rw [hfollowed]
        exact ⟨rfl, hpin, hpins, hline, rfl, rfl, fun _ => rfl, fun hy => absurd hy hw⟩
    | strap l => exact ⟨rfl, hpin, hpins, hline, rfl, rfl, rfl⟩
    | contact =>
      by_cases hs : s.station.serving = true
      · have hfollowed : (s.modInputs fun x => x.setLevel level .contact).followLevel level .contact =
            { s with inputs := s.inputs.setLevel level .contact, control := { s.control with
              contactTimer := if s.control.contactFound = true ∧ s.control.contact = level then none
                else some s.sw2.debounce } } := by
          refine (if_pos hs).trans (congrArg (fun d => ({ s with inputs := s.inputs.setLevel level .contact, control := { s.control with contactTimer := d } } : State)) ?_)
          exact if_congr (and_congr_right fun _ => eq_comm) rfl rfl
        rw [hfollowed]
        exact ⟨rfl, hpin, hpins, hline, rfl, rfl, fun hn => absurd (hs.symm.trans hn) nofun, fun _ => rfl⟩
      · have hfollowed : (s.modInputs fun x => x.setLevel level .contact).followLevel level .contact =
            s.modInputs fun x => x.setLevel level .contact := if_neg hs
        rw [hfollowed]
        exact ⟨rfl, hpin, hpins, hline, rfl, rfl, fun _ => rfl, fun hy => absurd hy hs⟩
    | gateSupply =>
      obtain ⟨hhigh, hlow, hheld⟩ := gateChange_spec s.supply s.station s.inputs.backupLow
      refine ⟨rfl, hpin, hpins, hline, rfl, rfl, fun hx => ?_, fun hx hs => ?_, fun hx hs => ?_⟩
      · subst hx; exact hhigh
      · subst hx; exact hlow hs
      · subst hx; exact hheld hs
    | gateReturn =>
      refine ⟨rfl, hpin, hpins, hline, rfl, rfl, ?_⟩
      show s.supply.returnChange s.station level = _
      simp only [SupplyMonitor.returnChange, not_serving_iff, returnDelay]
    | backupSupply => exact ⟨rfl, hpin, hpins, hline, rfl, rfl, rfl⟩
  · intro found
    have hset (u : LaneUnit) : (s.modLane l fun u => u.auxEdged (s.inputs.aux.get l)).lanes.set l u = s.lanes.set l u := PerLane.set_set ..
    have hlane : (s.modLane l fun u => u.auxEdged (s.inputs.aux.get l)).lane l = found := State.modLane_lane_same ..
    have hopen : ((s.modLane l fun u => u.auxEdged (s.inputs.aux.get l)).lane l).doorOpen = true ↔
        (s.lane l).kind = .door ∧ s.inputs.aux.get l = true := by
      rw [hlane, LaneUnit.doorOpen_iff]
      exact and_congr_right fun _ => Option.some_inj
    have hstate : ((s.modLane l fun u => u.auxEdged (s.inputs.aux.get l)).lane l).state = (s.lane l).state := by rw [hlane]
    rw [exec_auxFound hw hnone htimer]
    refine ⟨fun hstays => congrArg Host.Outcome.next (if_neg ?_), fun hk hraw hf => congrArg Host.Outcome.next ?_⟩
    · rintro ⟨ho, hf⟩
      exact hstays.elim (fun hn => hn (hopen.1 ho)) fun hfault => hf (hstate.trans hfault)
    · refine (if_pos ⟨hopen.2 ⟨hk, hraw⟩, by rw [hstate]; exact hf⟩).trans ((State.openDoor_eq _ _ _).trans ?_)
      refine (congrArg (fun p => { s with lanes := p }) (hset _)).trans (congrArg (fun u => { s with lanes := s.lanes.set l u }) ?_)
      refine (congrArg (State.openedLane _ l false) hlane).trans ?_
      exact State.openedLane_false hw.2 (served_not_holdover h)
  · exact congrArg Host.Outcome.next ((s.event_taken _ h.1).trans
      (if_pos ⟨watched_of hw, by simp [Debounced.sought, hnone, htimer]⟩))
  · exact congrArg Host.Outcome.next ((s.event_taken _ h.1).trans (if_pos ⟨h.2, hfound, htimer⟩))

end

end Sys2Proof.Machine
end

section
/-! SUPPORT. Releases closed UNUSED (R32), lanes put in FAULT (R40) and the detections of a lane's faults (R189, R191). -/

namespace Sys2Proof.Machine

section
variable {s : State} {l : Lane}

/-! ## A release closed -/

/-- A lane with its pending release dropped (R32). -/
def LaneUnit.dropped (u : LaneUnit) : LaneUnit :=
  { u with release := none, releaseTimer := if u.release.isSome then none else u.releaseTimer }

theorem unusedOf_none (h : (s.lane l).release = none) : unusedOf s l = [] := by
  rw [unusedOf, h]

theorem unusedOf_some {p : PendingRelease} (h : (s.lane l).release = some p) :
    unusedOf s l = [eventOf s .unused l (some p.badge) none (some p.readTime)] := by
  rw [unusedOf, h]

theorem unusedOf_length (s : State) (l : Lane) : (unusedOf s l).length ≤ 1 := by
  unfold unusedOf
  split <;> simp

theorem unusedOf_own (s : State) (l : Lane) : ∀ e ∈ unusedOf s l, ∃ k, e.lane = .own k := by
  rcases Option.eq_none_or_eq_some (s.lane l).release with h | ⟨p, h⟩
  · rw [unusedOf_none h]
    exact fun _ he => absurd he List.not_mem_nil
  · rw [unusedOf_some h]
    intro e he
    rw [List.mem_singleton.1 he]
    exact ⟨l, rfl⟩

theorem State.dropRelease_eq (s : State) (l : Lane) : s.dropRelease l =
    { s with
      lanes := s.lanes.set l (s.lane l).dropped
      watch := { s.watch with handed := s.watch.handed ++ unusedOf s l } } := by
  rcases Option.eq_none_or_eq_some (s.lane l).release with h | ⟨p, h⟩
  · have hdropped : (s.lane l).dropped = s.lane l := by
      have hkept (u : LaneUnit) (hu : u.release = none) : u.dropped = u := by
        obtain ⟨⟩ := u
        cases hu
        rfl
      exact hkept _ h
    have hlanes : s.lanes.set l (s.lane l) = s.lanes := PerLane.set_get ..
    rw [State.dropRelease_none h, unusedOf_none h, hdropped, hlanes, List.append_nil]
  · have hdropped : (s.lane l).dropped = { s.lane l with release := none, releaseTimer := none } := by
      simp only [LaneUnit.dropped, h]; rfl
    rw [unusedOf_some h, hdropped]
    unfold State.dropRelease
    rw [h] <;> rfl

/-- A lane put in FAULT in JOIN, LIVE and HELD (R40). -/
theorem State.enterFault_eq (h : s.watches l) : s.enterFault l =
    { s with
      lanes := s.lanes.set l (faultLane s (s.lane l))
      watch := { s.watch with
        handed := s.watch.handed ++ if (s.lane l).state = .fault then [] else unusedOf s l } } := by
  by_cases hf : (s.lane l).state = .fault
  · have hlane : faultLane s (s.lane l) = s.lane l := if_pos hf
    have hlanes : s.lanes.set l (s.lane l) = s.lanes := PerLane.set_get ..
    rw [if_pos hf, hlane, hlanes, List.append_nil]
    exact if_pos hf
  · have hset (u v : LaneUnit) : (s.lanes.set l u).set l v = s.lanes.set l v := PerLane.set_set ..
    have hget (u : LaneUnit) : (s.lanes.set l u).get l = u := PerLane.get_set_same ..
    rw [if_neg hf]
    refine (if_neg hf).trans ((State.modLane_refreshDrive _ l _).trans ?_)
    rw [State.dropRelease_eq]
    refine (congrArg (fun p => ({ s with lanes := p, watch := { s.watch with handed := s.watch.handed ++ unusedOf s l } } : State))
      (hset ..)).trans ?_
    refine congrArg (fun u => ({ s with lanes := s.lanes.set l u, watch := { s.watch with handed := s.watch.handed ++ unusedOf s l } } : State)) ?_
    refine Eq.trans ?_ (if_neg hf).symm
    dsimp only [State.lane]
    rw [hget]
    exact State.redriven_fitted h.2 (served_not_holdover h.1) (driveFor_released h.1.2 rfl)

/-! ## Events handed and taken with no rule armed -/

/-- The state with its events entered in the gate trace. -/
def State.entered (s : State) (events : List LaneEvent) : State :=
  { s with watch := ({ s.watch with handed := [] } : WatchUnit).enterAll (s.watch.handed ++ events) }

theorem State.settleEvents_entered {events : List LaneEvent} (h : s.watch.Unarmed) (hn : s.watch.handed.length + events.length ≤ 32) :
    ({ s with watch := { s.watch with handed := s.watch.handed ++ events } } : State).settleEvents = s.entered events :=
  settleEvents_unarmed (s := { s with watch := { s.watch with handed := s.watch.handed ++ events } }) h
    ((List.length_append ..).trans_le hn)

theorem queue_kept (w : WatchUnit) (i : Incident) :
    w.queue i = { w with incidents := (w.queue i).incidents, lost := (w.queue i).lost, handed := (w.queue i).handed } := by
  unfold WatchUnit.queue
  split <;> rfl

theorem queue_with_handed (w : WatchUnit) (i : Incident) (es : List LaneEvent) :
    ({ w with handed := es } : WatchUnit).queue i = { w.queue i with handed := es } := by
  unfold WatchUnit.queue
  split <;> rfl

/-! ## Detections of a lane's faults -/

theorem LaneFaults.set_get (f : LaneFaults) (k : LaneFaultKind) : f.set k (f.get k) = f := by cases k <;> rfl

theorem detect_none_active {r : FaultRecord} (w : FaultSetting) (h : r.state = .active) : r.detect w none = r :=
  if_pos h

theorem detect_none_counts {r : FaultRecord} {w : FaultSetting} (h : r.state ≠ .active) (hw : r.count + 1 < w.filter) :
    r.detect w none = { r with state := .counting, count := r.count + 1 } := by
  simp [FaultRecord.detect, h, hw]

theorem detect_none_activates {r : FaultRecord} {w : FaultSetting} (h : r.state ≠ .active) (hw : w.filter ≤ r.count + 1) :
    r.detect w none = { r with state := .active, count := r.count + 1, action := some w.action } := by
  simp [FaultRecord.detect, h, hw]

/-- The fault monitor with a lane's record replaced. -/
def State.recorded (s : State) (l : Lane) (k : LaneFaultKind) (r : FaultRecord) : FaultMonitor :=
  { s.faults with lanes := s.faults.lanes.set l ((s.faults.lanes.get l).set k r) }

theorem State.recorded_same (s : State) (l : Lane) (k : LaneFaultKind) : s.recorded l k ((s.faults.lanes.get l).get k) = s.faults := by
  unfold State.recorded
  rw [LaneFaults.set_get, PerLane.set_get]

/-- The incident of a lane's fault (R189). -/
def State.faultIncident (s : State) (l : Lane) (k : LaneFaultKind) : Incident :=
  { kind := k.incident, time := s.clock.time, lane := some l, badge := none, rule := none, peer := none,
    detail := some (actionCode (s.sw5.laneSetting k).action) }

theorem State.detectLane_counted (h : s.watches l) (k : LaneFaultKind)
    (ha : ¬ (((s.faults.lanes.get l).get k).state ≠ .active ∧ (s.sw5.laneSetting k).filter ≤ ((s.faults.lanes.get l).get k).count + 1)) :
    s.detectLane l k =
      { s with faults := s.recorded l k (((s.faults.lanes.get l).get k).detect (s.sw5.laneSetting k) none) } :=
  (if_pos ⟨faultsTaken_of h.1, h.2⟩).trans (if_neg (mt (activates_iff _ _).1 ha))

theorem State.detectLane_active (h : s.watches l) (k : LaneFaultKind)
    (ha : ((s.faults.lanes.get l).get k).state ≠ .active) (hw : (s.sw5.laneSetting k).filter ≤ ((s.faults.lanes.get l).get k).count + 1) :
    s.detectLane l k =
      ((({ s with faults := s.recorded l k (((s.faults.lanes.get l).get k).detect (s.sw5.laneSetting k) none) } : State).laneAction
        l k (s.sw5.laneSetting k).action).recordIncident k.incident (lane := some l)
        (detail := some (actionCode (s.sw5.laneSetting k).action))) :=
  (if_pos ⟨faultsTaken_of h.1, h.2⟩).trans (if_pos ((activates_iff _ _).2 ⟨ha, hw⟩))

/-- The events that the action of a lane's fault hands: the UNUSED event of a release that FAULT closes (R40). -/
def State.actionEvents (s : State) (l : Lane) (a : FaultAction) : List LaneEvent :=
  if a = .actOpen ∧ s.station ≠ .evacuate ∧ (s.lane l).state ≠ .fault then unusedOf s l else []

/-- The action of a lane's fault (R191). -/
theorem laneAction_spec (h : s.watches l) (k : LaneFaultKind) (a : FaultAction) :
    let t := s.laneAction l k a
    t = { s with lanes := t.lanes, bell := t.bell, control := t.control,
                 watch := { s.watch with handed := s.watch.handed ++ s.actionEvents l a } } ∧
      (a = .actNote → t.lanes = s.lanes ∧ t.control = s.control ∧ t.bell = s.bell) ∧
      (a = .actAlarm → t.lanes = s.lanes ∧ t.control = s.control ∧ AlarmClaimed s t) ∧
      (a = .actHold → t.bell = s.bell ∧ LaneHeldBy s t l (.fault k.kind)) ∧
      (a = .actOpen → t.bell = s.bell ∧ t.control = s.control ∧ (s.station = .evacuate → t.lanes = s.lanes) ∧
        (s.station ≠ .evacuate → t.lanes = s.lanes.set l (faultLane s (s.lane l)))) := by
  have hnone : ({ s.watch with handed := s.watch.handed ++ [] } : WatchUnit) = s.watch := by rw [List.append_nil]
  intro t
  cases a with
  | actNote =>
    refine ⟨?_, fun _ => ⟨rfl, rfl, rfl⟩, nofun, nofun, nofun⟩
    rw [State.actionEvents, if_neg (by simp), hnone]
    rfl
  | actAlarm =>
    obtain ⟨honly, hclaimed⟩ := claimAlarm_spec s
    have ht : t = s.claimAlarm := rfl
    have hblocks : t.lanes = s.lanes ∧ t.control = s.control := by rw [ht, honly]; exact ⟨rfl, rfl⟩
    refine ⟨?_, nofun, fun _ => ⟨hblocks.1, hblocks.2, hclaimed⟩, nofun, nofun⟩
    rw [State.actionEvents, if_neg (by simp), hnone, hblocks.1, hblocks.2]
    exact honly
  | actHold =>
    have honly := s.addLaneReason_only l (.fault k.kind)
    have ht : t = s.addLaneReason l (.fault k.kind) := rfl
    have hbell : t.bell = s.bell := by rw [ht, honly]
    refine ⟨?_, nofun, nofun, fun _ => ⟨hbell, laneHeldBy_addLaneReason s l _⟩, nofun⟩
    rw [State.actionEvents, if_neg (by simp), hnone, hbell]
    exact honly
  | actOpen =>
    by_cases he : s.station = .evacuate
    · have ht : t = s := by
        show (match s.station with | .join | .live | .held => s.enterFault l | _ => s) = s
        rw [he]
      rw [ht]
      refine ⟨?_, nofun, nofun, nofun, fun _ => ⟨rfl, rfl, fun _ => rfl, fun hn => absurd he hn⟩⟩
      rw [State.actionEvents, if_neg (by simp [he]), hnone]
    · have ht : t = s.enterFault l := by
        show (match s.station with | .join | .live | .held => s.enterFault l | _ => s) = s.enterFault l
        have hserving := h.1.2
        cases hs : s.station <;> first | rfl | exact absurd hs he | (rw [hs] at hserving; cases hserving)
      rw [ht, State.enterFault_eq h]
      refine ⟨?_, nofun, nofun, nofun, fun _ => ⟨rfl, rfl, fun hs => absurd hs he, fun _ => rfl⟩⟩
      have hevents : s.actionEvents l .actOpen = if (s.lane l).state = .fault then [] else unusedOf s l := by
        unfold State.actionEvents
        by_cases hf : (s.lane l).state = .fault <;> simp [he, hf]
      rw [hevents]

theorem actionEvents_own (s : State) (l : Lane) (a : FaultAction) : ∀ e ∈ s.actionEvents l a, ∃ k, e.lane = .own k := by
  unfold State.actionEvents
  split
  · exact unusedOf_own s l
  · exact fun _ he => absurd he List.not_mem_nil

theorem actionEvents_length (s : State) (l : Lane) (a : FaultAction) : (s.actionEvents l a).length ≤ 1 := by
  unfold State.actionEvents
  split
  · exact unusedOf_length s l
  · exact Nat.zero_le 1

/-- The fault monitor that a detection leaves. -/
def State.afterDetection (s : State) (l : Lane) (k : LaneFaultKind) : State :=
  { s with faults := s.recorded l k (((s.faults.lanes.get l).get k).detect (s.sw5.laneSetting k) none) }

theorem State.detectLane_acted (h : s.watches l) (hcalm : s.watch.handed = []) (k : LaneFaultKind)
    (ha : ((s.faults.lanes.get l).get k).state ≠ .active) (hw : (s.sw5.laneSetting k).filter ≤ ((s.faults.lanes.get l).get k).count + 1) :
    s.detectLane l k =
      { (s.afterDetection l k).laneAction l k (s.sw5.laneSetting k).action with
        watch := { s.watch.queue (s.faultIncident l k) with handed := s.actionEvents l (s.sw5.laneSetting k).action } } := by
  obtain ⟨honly, -⟩ := laneAction_spec (s := s.afterDetection l k) h k (s.sw5.laneSetting k).action
  refine ((State.detectLane_active h k ha hw).trans (State.recordIncident_eq ..)).trans ?_
  refine congrArg (fun w => { (s.afterDetection l k).laneAction l k (s.sw5.laneSetting k).action with watch := w }) ?_
  show ((s.afterDetection l k).laneAction l k (s.sw5.laneSetting k).action).watch.queue { s.faultIncident l k with
    time := ((s.afterDetection l k).laneAction l k (s.sw5.laneSetting k).action).clock.time } = _
  rw [honly]
  refine (queue_with_handed ..).trans ?_
  refine congrArg (fun es => { s.watch.queue (s.faultIncident l k) with handed := es }) ?_
  show s.watch.handed ++ s.actionEvents l (s.sw5.laneSetting k).action = _
  rw [hcalm, List.nil_append]

theorem queue_unarmed {w : WatchUnit} (h : w.Unarmed) (i : Incident) : (w.queue i).Unarmed := by
  rw [queue_kept]
  exact h

/-- A detection of a lane's fault arms no rule and hands one event at the most. -/
theorem detectLane_unarmed (h : s.watches l) (hcalm : s.calm) (k : LaneFaultKind) :
    (s.detectLane l k).watch.Unarmed ∧ (s.detectLane l k).watch.handed.length ≤ 1 := by
  obtain ⟨hnone, hunarmed⟩ := hcalm
  by_cases ha : ((s.faults.lanes.get l).get k).state ≠ .active ∧ (s.sw5.laneSetting k).filter ≤ ((s.faults.lanes.get l).get k).count + 1
  · rw [State.detectLane_acted h hnone k ha.1 ha.2]
    exact ⟨queue_unarmed hunarmed _, actionEvents_length s l _⟩
  · rw [State.detectLane_counted h k ha]
    refine ⟨hunarmed, ?_⟩
    rw [hnone]
    exact Nat.zero_le 1

/-- A detection of a lane's fault and the events handed after it, taken with no rule armed. -/
theorem laneDetected_entered (h : s.watches l) (hcalm : s.watch.handed = []) (k : LaneFaultKind) {events : List LaneEvent}
    (hown : ∀ e ∈ events, ∃ j, e.lane = .own j) :
    LaneDetected s ((s.detectLane l k).entered events) l k events := by
  by_cases ha : ((s.faults.lanes.get l).get k).state ≠ .active ∧ (s.sw5.laneSetting k).filter ≤ ((s.faults.lanes.get l).get k).count + 1
  · obtain ⟨ha, hw⟩ := ha
    obtain ⟨honly, hnote, halarm, hhold, hopen⟩ := laneAction_spec (s := s.afterDetection l k) h k (s.sw5.laneSetting k).action
    rw [State.detectLane_acted h hcalm k ha hw]
    generalize (s.afterDetection l k).laneAction l k (s.sw5.laneSetting k).action = u at honly hnote halarm hhold hopen ⊢
    have hfaults : u.faults = s.recorded l k { (s.faults.lanes.get l).get k with
        state := .active
        count := ((s.faults.lanes.get l).get k).count + 1
        action := some (s.sw5.laneSetting k).action } := by
      rw [honly, ← detect_none_activates ha hw]
      rfl
    have htraced : Traced s (({ u with watch := { s.watch.queue (s.faultIncident l k) with
        handed := s.actionEvents l (s.sw5.laneSetting k).action } } : State).entered events)
        (s.actionEvents l (s.sw5.laneSetting k).action ++ events) (s.watch.queue (s.faultIncident l k)) :=
      traced_enterAll (fun e he => (List.mem_append.1 he).elim (actionEvents_own _ _ _ e) (hown e)) (queue_kept _ _) rfl
    have hquiet (hother : (s.sw5.laneSetting k).action ≠ .actOpen ∨ s.station = .evacuate) :
        Traced s (({ u with watch := { s.watch.queue (s.faultIncident l k) with
          handed := s.actionEvents l (s.sw5.laneSetting k).action } } : State).entered events) events
          (s.watch.queue (s.faultIncident l k)) := by
      have hnone : s.actionEvents l (s.sw5.laneSetting k).action ++ events = events := by
        rw [State.actionEvents, if_neg fun ⟨ha, hs, _⟩ => hother.elim (· ha) hs, List.nil_append]
      have hall := htraced
      rwa [hnone] at hall
    refine ⟨?_, fun hn => absurd hn ha, fun _ hn => absurd hn (not_lt.2 hw),
      fun _ _ => ⟨hfaults, fun hact => ?_, fun hact => ?_, fun hact => ?_, fun hact => ?_⟩⟩
    · rw [honly]
      rfl
    · obtain ⟨hlanes, hcontrol, hbell⟩ := hnote hact
      refine ⟨hlanes, hcontrol, hbell, hquiet (.inl (by rw [hact]; nofun))⟩
    · obtain ⟨hlanes, hcontrol, hclaimed⟩ := halarm hact
      refine ⟨hlanes, hcontrol, hclaimed, hquiet (.inl (by rw [hact]; nofun))⟩
    · obtain ⟨hbell, hheld⟩ := hhold hact
      refine ⟨hbell, hheld, hquiet (.inl (by rw [hact]; nofun))⟩
    · obtain ⟨hbell, hcontrol, hevac, hlanes⟩ := hopen hact
      refine ⟨hbell, hcontrol, fun hs => ⟨hevac hs, hquiet (.inr hs)⟩, fun hs => ⟨hlanes hs, ?_⟩⟩
      have hevents : s.actionEvents l (s.sw5.laneSetting k).action = if (s.lane l).state = .fault then [] else unusedOf s l := by
        unfold State.actionEvents
        by_cases hf : (s.lane l).state = .fault <;> simp [hact, hs, hf]
      rw [← hevents]
      exact htraced
  · have hquiet (f : FaultMonitor) : Traced s (({ s with faults := f } : State).entered events) events s.watch := by
      refine traced_enterAll hown rfl ?_
      show WatchUnit.enterAll _ (s.watch.handed ++ events) = _
      rw [hcalm, List.nil_append]
    rw [State.detectLane_counted h k ha]
    refine ⟨rfl, fun hactive => ⟨?_, hquiet _⟩, fun hn hw => ⟨?_, hquiet _⟩, fun hn hw => absurd ⟨hn, hw⟩ ha⟩
    · rw [detect_none_active _ hactive, State.recorded_same]
      rfl
    · rw [detect_none_counts hn hw]
      rfl

end

end Sys2Proof.Machine
end

section
/-! SUPPORT. Reader errors, sense checks and the timers of a lane (R20, R21, R32, R38, R42). -/

namespace Sys2Proof.Machine

section
variable {s : State} {l : Lane}

/-- Events handed after a detection of a lane's fault, taken with no rule armed. -/
theorem detectLane_settled (h : s.watches l) (hcalm : s.calm) (k : LaneFaultKind) {events : List LaneEvent} (hlength : events.length ≤ 8) :
    ({ s.detectLane l k with watch := { (s.detectLane l k).watch with
      handed := (s.detectLane l k).watch.handed ++ events } } : State).settleEvents = (s.detectLane l k).entered events := by
  obtain ⟨hunarmed, hlen⟩ := detectLane_unarmed h hcalm k
  exact State.settleEvents_entered hunarmed ((Nat.add_le_add hlen hlength).trans (by decide))

/-- A detection of a lane's fault alone, taken with no rule armed. -/
theorem laneDetected_settled (h : s.watches l) (hcalm : s.calm) (k : LaneFaultKind) :
    LaneDetected s (s.detectLane l k).settleEvents l k := by
  have hsettled := detectLane_settled h hcalm k (events := []) (by decide)
  rw [List.append_nil] at hsettled
  rw [show (s.detectLane l k).settleEvents = _ from hsettled]
  exact laneDetected_entered h hcalm.1 k fun _ he => absurd he List.not_mem_nil

/-! ## Reader errors -/

/-- Settles O28. -/
theorem badReaderFrame : Obligations.BadReaderFrame := by
  unfold Obligations.BadReaderFrame
  intro l chars s h hcalm hbad
  have hframe : s.takeReaderFrame l chars = s.badFrame l := by
    unfold State.takeReaderFrame
    rw [hbad]
  refine ⟨(s.badFrame l).settleEvents, congrArg Host.Outcome.next ((s.event_taken _ h.1.1).trans ?_),
    congrArg Host.Outcome.next ((s.event_taken _ h.1.1).trans (if_pos (watched_of h))), ?_⟩
  · rw [← hframe]
    exact if_pos (watched_of h)
  · exact laneDetected_settled (s := s.modLane l fun u => { u with readerErrors := satAdd max16 u.readerErrors 1 })
      (watches_set h rfl) hcalm .reader

/-! ## Sense checks -/

/-- A lane with its sense edge taken. -/
def LaneUnit.senseEdged (u : LaneUnit) (raw : Bool) : LaneUnit := { u with sense := { level := some raw, timer := none } }

/-- A record cleared with no event waiting: nothing waits after it. -/
theorem clearLane_settled (h : s.watches l) (hcalm : s.watch.handed = []) (k : LaneFaultKind) :
    (s.clearLane l k).settleEvents = s.clearLane l k := by
  refine State.settleEvents_nil ?_
  rw [(clearLane_spec h k).only]
  exact hcalm

theorem senseAgrees_iff (u : LaneUnit) : u.senseAgrees = true ↔ u.sense.level = some u.drive := by
  simp [LaneUnit.senseAgrees]

theorem exec_senseCheckExpiry (h : s.watches l) (hc : (s.lane l).senseCheck.isSome = true) :
    exec (.senseCheckExpiry l) s = .next (s.senseCheckEnd l).settleEvents :=
  congrArg Host.Outcome.next ((s.event_taken _ h.1.1).trans (if_pos ⟨watched_of h, hc⟩))

/-- Settles O34. -/
theorem senseCheck : Obligations.SenseCheck := by
  unfold Obligations.SenseCheck
  intro l s h hcalm raw strikeCleared
  have hedge (he : EdgeReady (s.lane l).sense raw) : exec (.debounceExpiry (.sense l)) s =
      .next (((s.modLane l fun u => u.senseEdged raw).senseEdge l).settleEvents) := exec_senseEdge h he
  have hlane : (s.modLane l fun u => u.senseEdged raw).lane l = (s.lane l).senseEdged raw := State.modLane_lane_same ..
  have hagrees : ((s.modLane l fun u => u.senseEdged raw).lane l).senseAgrees = true ↔ raw = (s.lane l).drive := by
    rw [senseAgrees_iff, hlane]
    exact Option.some_inj
  refine ⟨fun he hagree => ?_, fun he hagree => ?_, fun hc hagree => ?_, fun hc hagree => ?_⟩
  · have hchecked : (s.modLane l fun u => { u.senseEdged raw with senseCheck := none }).watches l := watches_set h rfl
    have hpassed : (s.modLane l fun u => u.senseEdged raw).senseEdge l =
        (s.modLane l fun u => { u.senseEdged raw with senseCheck := none }).clearLane l .strike :=
      (if_pos (hagrees.2 hagree)).trans (congrArg (State.clearLane · l .strike) (State.modLane_modLane ..))
    refine ⟨_, (hedge he).trans (congrArg (fun x => Host.Outcome.next x.settleEvents) hpassed), ?_⟩
    rw [clearLane_settled hchecked hcalm.1]
    exact clearLane_spec hchecked .strike
  · refine (hedge he).trans (congrArg Host.Outcome.next ((congrArg State.settleEvents (if_neg (mt hagrees.1 hagree))).trans ?_))
    exact State.settleEvents_nil (by exact hcalm.1)
  · have hchecked : (s.modLane l fun u => { u with senseCheck := none }).watches l := watches_set h rfl
    have hcleared : s.senseCheckEnd l = (s.modLane l fun u => { u with senseCheck := none }).clearLane l .strike :=
      if_pos ((senseAgrees_iff _).2 hagree)
    refine ⟨_, (exec_senseCheckExpiry h hc).trans (congrArg (fun x => Host.Outcome.next x.settleEvents) hcleared), ?_⟩
    rw [clearLane_settled hchecked hcalm.1]
    exact clearLane_spec hchecked .strike
  · have hchecked : (s.modLane l fun u => { u with senseCheck := none }).watches l := watches_set h rfl
    have hcounted : s.senseCheckEnd l = (s.modLane l fun u => { u with senseCheck := none }).detectLane l .strike :=
      if_neg (mt (senseAgrees_iff _).1 hagree)
    exact ⟨_, (exec_senseCheckExpiry h hc).trans (congrArg (fun x => Host.Outcome.next x.settleEvents) hcounted),
      laneDetected_settled hchecked hcalm .strike⟩

/-! ## The timers of a lane -/

theorem liveDrive_rest (s : State) (l : Lane) {u : LaneUnit} (hu : u.state = s.restState l) : liveDrive u = false := by
  by_cases h : heldLane s l
  · rw [liveDrive, hu, State.restState_held h]
  · rw [liveDrive, hu, State.restState_idle h]

/-- A release closed UNUSED, its lane at rest (R32). -/
theorem expireRelease_eq {p : PendingRelease} (h : s.watches l) (he : s.station ≠ .evacuate) (hp : (s.lane l).release = some p) :
    s.expireRelease l =
      { s with
        lanes := s.lanes.set l
          (drivenLane { s.lane l with state := s.restState l, release := none, releaseTimer := none } false)
        watch := { s.watch with handed := s.watch.handed ++ unusedOf s l } } := by
  have hset (u v : LaneUnit) : (s.lanes.set l u).set l v = s.lanes.set l v := PerLane.set_set ..
  have hget (u : LaneUnit) : (s.lanes.set l u).get l = u := PerLane.get_set_same ..
  have hdropped : (s.lane l).dropped = { s.lane l with release := none, releaseTimer := none } := by
    rw [LaneUnit.dropped, hp]
    rfl
  refine (State.modLane_refreshDrive _ l _).trans ?_
  rw [State.dropRelease_eq, hdropped]
  refine (congrArg (fun p => ({ s with lanes := p, watch := { s.watch with handed := s.watch.handed ++ unusedOf s l } } : State))
    (hset ..)).trans ?_
  refine congrArg (fun u => ({ s with
    lanes := s.lanes.set l u, watch := { s.watch with handed := s.watch.handed ++ unusedOf s l } } : State)) ?_
  rw [hget]
  refine State.redriven_fitted h.2 (served_not_holdover h.1) ((State.driveFor_locked (served_not_holdover h.1) ?_).trans (decide_eq_false he))
  exact liveDrive_rest s l rfl

theorem exec_releaseTimerExpiry (h : s.watches l) (hstate : (s.lane l).state = .released)
    (htimer : (s.lane l).releaseTimer.isSome = true) :
    exec (.releaseTimerExpiry l) s = .next (s.expireRelease l).settleEvents :=
  congrArg Host.Outcome.next ((s.event_taken _ h.1.1).trans (if_pos ⟨watched_of h, hstate, htimer⟩))

theorem exec_heldOpenExpiry (h : s.watches l) (hstate : (s.lane l).state = .opened) (htimer : (s.lane l).heldOpen.isSome = true) :
    exec (.heldOpenExpiry l) s = .next (s.heldTooLong l).settleEvents :=
  congrArg Host.Outcome.next ((s.event_taken _ h.1.1).trans (if_pos ⟨watched_of h, hstate, htimer⟩))

/-- Settles O35. -/
theorem laneTimers : Obligations.LaneTimers := by
  unfold Obligations.LaneTimers
  refine ⟨fun l p s h hcalm hstate htimer hp he => ?_, fun l s h hcalm hstate htimer => ?_,
    fun l s h => congrArg Host.Outcome.next (s.event_taken _ h)⟩
  · have hsettled : (s.expireRelease l).settleEvents = ({ s with
        lanes := s.lanes.set l
          (drivenLane { s.lane l with state := s.restState l, release := none, releaseTimer := none } false) } : State).entered
            (unusedOf s l) := by
      rw [expireRelease_eq h he hp]
      refine State.settleEvents_entered (s := { s with lanes := s.lanes.set l (drivenLane
        { s.lane l with state := s.restState l, release := none, releaseTimer := none } false) }) hcalm.2 ?_
      rw [hcalm.1]
      exact (Nat.zero_add _).trans_le ((unusedOf_length s l).trans (by decide))
    rw [exec_releaseTimerExpiry h hstate htimer, hsettled]
    refine ⟨_, rfl, rfl, ?_⟩
    intro closed
    refine ⟨fun hheld => ?_, fun hheld => ?_, traced_enterAll (by rw [← unusedOf_some hp]; exact unusedOf_own s l) rfl ?_⟩
    · rw [State.restState_held hheld]
      rfl
    · rw [State.restState_idle hheld]
      rfl
    · show WatchUnit.enterAll _ (s.watch.handed ++ _) = _
      rw [hcalm.1, unusedOf_some hp, List.nil_append]
  · have hsettled : (s.heldTooLong l).settleEvents =
        ((s.detectLane l .doorHeld).modLane l fun u =>
          { u with heldOpen := if u.state = .opened then some (s.heldOpenLimit l) else u.heldOpen }).entered
          [eventOf s .doorHeld l none none] := by
      obtain ⟨hunarmed, hlen⟩ := detectLane_unarmed h hcalm .doorHeld
      exact State.settleEvents_entered (s := (s.detectLane l .doorHeld).modLane l fun u =>
          { u with heldOpen := if u.state = .opened then some (s.heldOpenLimit l) else u.heldOpen })
        (events := [eventOf s .doorHeld l none none]) hunarmed
        ((Nat.add_le_add_right hlen 1).trans (by decide : 2 ≤ 32))
    have hlimit : s.heldOpenLimit l = 16 * (s.sw2.limits.get l).heldOpen := Nat.mul_comm ..
    refine ⟨_, (s.detectLane l .doorHeld).entered [eventOf s .doorHeld l none none],
      (exec_heldOpenExpiry h hstate htimer).trans (congrArg _ hsettled), laneDetected_entered h hcalm.1 .doorHeld ?_, ?_⟩
    · intro e he
      rw [List.mem_singleton.1 he]
      exact ⟨l, rfl⟩
    · rw [hlimit]
      rfl

end

end Sys2Proof.Machine
end

section
/-! SUPPORT. The verdict on a read (R25 to R27) and what a good frame does (R21, R22, R28 to R30, R36, R42). -/

namespace Sys2Proof.Machine

section
variable {s : State} {l : Lane}

/-! ## The rows of the verdict -/

theorem offShift_iff (s : State) (l : Lane) (e : BadgeEntry) : s.offShift l e = true ↔ (s.sw1 l).direction = .dirIn ∧
    (match (s.pay.shiftClass e.cls).hours with
      | some (start, stop) =>
        let m := payTicks s.dayRollMinute (payDay s.dayRollMinute s.clock.time) s.clock.time
        let low := 960 * (shiftStart s.dayRollMinute start - (s.pay.shiftClass e.cls).lead)
        let high := 960 * shiftEnd s.dayRollMinute start stop
        decide (¬ (low ≤ m ∧ m ≤ high) ∧ ¬ (low ≤ m - 1382400 ∧ m - 1382400 ≤ high) ∧
          ¬ (low ≤ m + 1382400 ∧ m + 1382400 ≤ high))
      | none => false) = true := by
  have hticks (m : Int) : minuteTicks m = 960 * m := Int.mul_comm ..
  unfold State.offShift
  dsimp only
  cases (s.pay.shiftClass e.cls).hours with
  | none => simp
  | some h => simp [insideWindow, hticks]

/-- The first of the rows of R25 that refuses a badge of the table, on a lane that is not held. -/
def State.entryRow (s : State) (l : Lane) (e : BadgeEntry) : Option Reason :=
  if e.status = .blocked then some .blocked
  else if s.expired e then some .expired
  else if s.offShift l e then some .offShift
  else if s.passbackFound l e = true ∧ s.passbackRefuses e = true then some .passback
  else none

theorem judgeEntry_eq (s : State) (l : Lane) (e : BadgeEntry) : s.judgeEntry l e =
    match s.entryRow l e with
    | some r => .refuse r
    | none => if s.passbackFound l e then .flagged else .admitted := by
  unfold State.judgeEntry State.entryRow
  by_cases h1 : e.status = .blocked
  · rw [if_pos h1, if_pos h1]
  · by_cases h2 : s.expired e = true
    · rw [if_neg h1, if_neg h1, if_pos h2, if_pos h2]
    · by_cases h3 : s.offShift l e = true
      · rw [if_neg h1, if_neg h1, if_neg h2, if_neg h2, if_pos h3, if_pos h3]
      · rw [if_neg h1, if_neg h1, if_neg h2, if_neg h2, if_neg h3, if_neg h3]
        by_cases h4 : s.passbackFound l e = true <;> by_cases h5 : s.passbackRefuses e = true <;> simp [h4, h5]

theorem refuses_iff (s : State) (l : Lane) (e : BadgeEntry) : s.passbackFound l e = true ∧ s.passbackRefuses e = true ↔
    e.mode = .strict ∧ e.presence.state = presenceOf (s.sw1 l).direction ∧ s.doubtActive = false ∧
      s.control.override = .follow := by
  simp only [State.passbackFound, State.passbackRefuses, Bool.and_eq_true, decide_eq_true_eq, Bool.not_eq_true']
  constructor
  · rintro ⟨⟨-, hpresence⟩, ⟨hstrict, hdoubt⟩, hfollow⟩
    exact ⟨hstrict, hpresence, hdoubt, hfollow⟩
  · rintro ⟨hstrict, hpresence, hdoubt, hfollow⟩
    exact ⟨⟨by rw [hstrict]; nofun, hpresence⟩, ⟨hstrict, hdoubt⟩, hfollow⟩

theorem refusalRow_live (hs : s.station = .live ∨ s.station = .held) (b : Nat) : refusalRow s l b =
    if s.laneHeld l then some .held
    else
      match s.lookup b with
      | none => some .unknown
      | some e => s.entryRow l e := by
  have hlive : ¬ (s.station = .setup ∨ s.station = .join ∨ s.station = .holdover) ∧ s.station ≠ .evacuate := by
    rcases hs with hs | hs <;> rw [hs] <;> simp
  unfold refusalRow
  rw [if_neg hlive.1, if_neg hlive.2]
  refine if_congr laneHeld_iff.symm rfl ?_
  cases s.lookup b with
  | none => rfl
  | some e =>
    refine if_congr Iff.rfl rfl (if_congr ?_ rfl (if_congr (offShift_iff s l e).symm rfl (if_congr (refuses_iff s l e).symm rfl rfl)))
    unfold State.expired
    cases e.expiry <;> exact Iff.rfl

theorem flaggedRead_iff {b : Nat} {e : BadgeEntry} (he : s.lookup b = some e) : flaggedRead s l b ↔ s.passbackFound l e = true := by
  simp [flaggedRead, State.passbackFound, he]

theorem verdict_held_live (hs : s.station = .live ∨ s.station = .held) (b : Nat) : s.verdict l b =
    if s.laneHeld l then .refuse .held
    else
      match s.lookup b with
      | none => .refuse .unknown
      | some e => s.judgeEntry l e := by
  unfold State.verdict
  rcases hs with hs | hs <;> rw [hs] <;> rfl

theorem serving_cases {x : StationState} (h : x.serving = true) : x = .join ∨ x = .live ∨ x = .held ∨ x = .evacuate := by
  cases x <;> simp [StationState.serving] at h ⊢

/-- The verdict on a read, by the rows of R25. -/
theorem verdict_spec (h : s.station.serving = true) (b : Nat) :
    (∀ r, refusalRow s l b = some r → s.verdict l b = .refuse r) ∧
    (refusalRow s l b = none → s.station = .evacuate → s.verdict l b = .evacAdmit) ∧
    (refusalRow s l b = none → s.station ≠ .evacuate →
      (flaggedRead s l b → s.verdict l b = .flagged) ∧ (¬ flaggedRead s l b → s.verdict l b = .admitted)) := by
  by_cases hlive : s.station = .live ∨ s.station = .held
  · rw [refusalRow_live hlive, verdict_held_live hlive]
    have hevac : s.station ≠ .evacuate := by rcases hlive with hs | hs <;> rw [hs] <;> nofun
    by_cases hheld : s.laneHeld l = true
    · rw [if_pos hheld, if_pos hheld]
      exact ⟨fun r hr => by cases hr; rfl, nofun, nofun⟩
    · rw [if_neg hheld, if_neg hheld]
      rcases Option.eq_none_or_eq_some (s.lookup b) with hb | ⟨e, hb⟩
      · rw [hb]
        exact ⟨fun r hr => by cases hr; rfl, nofun, nofun⟩
      · rw [flaggedRead_iff hb, hb]
        dsimp only
        rw [judgeEntry_eq]
        refine ⟨fun r hr => by rw [hr], fun _ hs => absurd hs hevac, fun hr _ => ⟨fun hf => ?_, fun hf => ?_⟩⟩
        · rw [hr]
          exact if_pos hf
        · rw [hr]
          exact if_neg hf
  · by_cases hevac : s.station = .evacuate
    · have hrow : refusalRow s l b = if (s.sw1 l).direction = .dirIn then some .evac else none := by
        simp [refusalRow, hevac]
      have hverdict : s.verdict l b = match (s.sw1 l).direction with
          | .dirIn => .refuse .evac
          | .dirOut => .evacAdmit := by
        rw [State.verdict, hevac] <;> rfl
      rw [hrow, hverdict]
      cases (s.sw1 l).direction with
      | dirIn => exact ⟨fun r hr => by cases hr; rfl, nofun, nofun⟩
      | dirOut => exact ⟨nofun, fun _ _ => rfl, fun _ hs => absurd hevac hs⟩
    · have hjoin : s.station = .join := by
        rcases serving_cases h with hs | hs | hs | hs
        · exact hs
        · exact absurd (.inl hs) hlive
        · exact absurd (.inr hs) hlive
        · exact absurd hs hevac
      have hrow : refusalRow s l b = some .notLive := by simp [refusalRow, hjoin]
      have hverdict : s.verdict l b = .refuse .notLive := by rw [State.verdict, hjoin]
      rw [hrow, hverdict]
      exact ⟨fun r hr => by cases hr; rfl, nofun, nofun⟩

/-! ## What an admission does -/

/-- The lane event of a read taken on its verdict (R46). -/
def State.readEvent (s : State) (l : Lane) (b : Nat) (kind : EventKind) (reason : Option Reason) : LaneEvent :=
  eventOf s kind l (some b) reason

/-- The lane that an admission releases (R29). -/
def State.releasedLane (s : State) (l : Lane) (b : Nat) (flagged : Bool) : LaneUnit :=
  drivenLane
    { s.lane l with
      state := .released
      release := some (s.newRelease b flagged)
      releaseTimer := some (s.releaseTime l) } true

theorem grant_releases (h : s.watches l) (hlive : s.station = .live ∨ s.station = .held) (b : Nat) (flagged : Bool)
    (hstate : (s.lane l).state = .idle ∨ (s.lane l).state = .released) :
    s.grant l b flagged =
      { s with
        lanes := s.lanes.set l (s.releasedLane l b flagged)
        watch := { s.watch with handed := s.watch.handed ++ unusedOf s l } } := by
  have hgrant : s.grant l b flagged = ((s.dropRelease l).modLane l fun u =>
      { u with
        state := .released
        release := some (s.newRelease b flagged)
        releaseTimer := some (s.releaseTime l) }).refreshDrive l := by
    unfold State.grant
    rcases hstate with hx | hx <;> rw [hx]
  have hset (u v : LaneUnit) : (s.lanes.set l u).set l v = s.lanes.set l v := PerLane.set_set ..
  have hget (u : LaneUnit) : (s.lanes.set l u).get l = u := PerLane.get_set_same ..
  rw [hgrant]
  refine (State.modLane_refreshDrive _ l _).trans ?_
  rw [State.dropRelease_eq]
  refine (congrArg (fun p => ({ s with lanes := p, watch := { s.watch with handed := s.watch.handed ++ unusedOf s l } } : State))
    (hset ..)).trans ?_
  refine congrArg (fun u => ({ s with
    lanes := s.lanes.set l u, watch := { s.watch with handed := s.watch.handed ++ unusedOf s l } } : State)) ?_
  rw [hget]
  refine State.redriven_fitted h.2 (served_not_holdover h.1) ?_
  unfold State.driveFor
  show (match s.station with | .setup | .join => false | .evacuate => true | .holdover => _ | .live | .held => true) = true
  rcases hlive with hx | hx <;> rw [hx]

theorem grant_waits (b : Nat) (flagged : Bool) (hstate : (s.lane l).state = .opened) :
    s.grant l b flagged =
      { s with
        lanes := s.lanes.set l { s.lane l with release := some (s.newRelease b flagged), releaseTimer := none }
        watch := { s.watch with handed := s.watch.handed ++ unusedOf s l } } := by
  have hgrant : s.grant l b flagged = (s.dropRelease l).modLane l fun u =>
      { u with release := some (s.newRelease b flagged), releaseTimer := none } := by
    unfold State.grant
    rw [hstate]
  have hset (u v : LaneUnit) : (s.lanes.set l u).set l v = s.lanes.set l v := PerLane.set_set ..
  have hget (u : LaneUnit) : (s.lanes.set l u).get l = u := PerLane.get_set_same ..
  rw [hgrant, State.dropRelease_eq]
  refine (congrArg (fun p => ({ s with lanes := p, watch := { s.watch with handed := s.watch.handed ++ unusedOf s l } } : State))
    (hset ..)).trans ?_
  rw [hget]
  rfl

theorem grant_other (b : Nat) (flagged : Bool) (h1 : (s.lane l).state ≠ .idle) (h2 : (s.lane l).state ≠ .released)
    (h3 : (s.lane l).state ≠ .opened) : s.grant l b flagged = s := by
  unfold State.grant
  split
  next hx => exact absurd hx h1
  next hx => exact absurd hx h2
  next hx => exact absurd hx h3
  all_goals rfl

/-! ## A good read dispatched -/

/-- A read is a repeat (R22, R30). -/
theorem isRepeat_iff (s : State) (l : Lane) (b : Nat) : s.isRepeat l b = true ↔
    ∃ p, (s.lane l).release = some p ∧ p.badge = b ∧ s.clock.realTime < p.rereadUntil := by
  unfold State.isRepeat
  cases (s.lane l).release <;> simp

/-- A state that differs in its lanes and in the events handed alone. -/
def State.read (s : State) (p : PerLane LaneUnit) (es : List LaneEvent) : State :=
  { s with lanes := p, watch := { s.watch with handed := s.watch.handed ++ es } }

/-- The event of an admission (R28). -/
def State.admittedEvent (s : State) (l : Lane) (b : Nat) (flagged : Bool) : LaneEvent :=
  if flagged then s.readEvent l b .flagged (some .passback) else s.readEvent l b .admitted none

/-- The lanes after a good read of a badge, and the events it hands, case by case (R22, R25, R28 to R30, R36, R42). -/
def State.Dispatched (s : State) (l : Lane) (b : Nat) (p : PerLane LaneUnit) (es : List LaneEvent) : Prop :=
  ((s.lane l).state = .fault → s.station ≠ .evacuate → p = s.lanes ∧ es = [s.readEvent l b .refuse (some .fault)]) ∧
  ((s.lane l).state ≠ .fault → s.isRepeat l b = true →
    p = s.lanes.set l { s.lane l with repeats := min 65535 ((s.lane l).repeats + 1) } ∧ es = []) ∧
  (∀ r, ¬ s.isRepeat l b = true → (s.lane l).state ≠ .fault → refusalRow s l b = some r →
    p = s.lanes ∧ es = [s.readEvent l b .refuse (some r)]) ∧
  (¬ s.isRepeat l b = true → (s.lane l).state ≠ .fault → s.station = .evacuate → refusalRow s l b = none →
    p = s.lanes.set l { s.lane l with evacRead := some { badge := b, readTime := s.clock.time, left := s.releaseTime l } } ∧
    es = [s.readEvent l b .admitted (some .evac)]) ∧
  (∀ flagged : Bool, ¬ s.isRepeat l b = true → s.station ≠ .evacuate → refusalRow s l b = none →
    (flagged = true ↔ flaggedRead s l b) →
    ((s.lane l).state = .idle ∨ (s.lane l).state = .released →
      p = s.lanes.set l (s.releasedLane l b flagged) ∧ es = unusedOf s l ++ [s.admittedEvent l b flagged]) ∧
    ((s.lane l).state = .opened →
      p = s.lanes.set l { s.lane l with release := some (s.newRelease b flagged), releaseTimer := none } ∧
      es = unusedOf s l ++ [s.admittedEvent l b flagged]))

theorem read_hand (s : State) (p : PerLane LaneUnit) (es : List LaneEvent) (e : LaneEvent) :
    (s.read p es).hand e = s.read p (es ++ [e]) := by
  show ({ s with lanes := p, watch := { s.watch with handed := s.watch.handed ++ es ++ [e] } } : State) = _
  rw [List.append_assoc]
  rfl

/-- An admission outside EVACUATE acted on (R28 to R30, R36). -/
theorem admitted_spec (h : s.watches l) (b : Nat) (flagged : Bool) (hlive : s.station = .live ∨ s.station = .held) :
    ∃ p es, (s.grant l b flagged).hand (s.admittedEvent l b flagged) = s.read p es ∧ es.length ≤ 2 ∧
      (∀ e ∈ es, ∃ k, e.lane = .own k) ∧
      ((s.lane l).state = .idle ∨ (s.lane l).state = .released →
        p = s.lanes.set l (s.releasedLane l b flagged) ∧ es = unusedOf s l ++ [s.admittedEvent l b flagged]) ∧
      ((s.lane l).state = .opened →
        p = s.lanes.set l { s.lane l with release := some (s.newRelease b flagged), releaseTimer := none } ∧
        es = unusedOf s l ++ [s.admittedEvent l b flagged]) := by
  have hevent : ∃ k, (s.admittedEvent l b flagged).lane = .own k := by
    cases flagged <;> exact ⟨l, rfl⟩
  have hlen : (unusedOf s l ++ [s.admittedEvent l b flagged]).length ≤ 2 := by
    rw [List.length_append]
    exact Nat.add_le_add_right (unusedOf_length s l) 1
  have hown : ∀ e ∈ unusedOf s l ++ [s.admittedEvent l b flagged], ∃ k, e.lane = .own k := fun e he =>
    (List.mem_append.1 he).elim (unusedOf_own s l e) fun h => (List.mem_singleton.1 h) ▸ hevent
  by_cases hrun : (s.lane l).state = .idle ∨ (s.lane l).state = .released
  · rw [grant_releases h hlive b flagged hrun]
    refine ⟨_, _, read_hand s _ (unusedOf s l) _, hlen, hown, fun _ => ⟨rfl, rfl⟩, fun ho => ?_⟩
    rw [ho] at hrun
    exact hrun.elim nofun nofun
  · by_cases ho : (s.lane l).state = .opened
    · rw [grant_waits b flagged ho]
      exact ⟨_, _, read_hand s _ (unusedOf s l) _, hlen, hown, fun hr => absurd hr hrun, fun _ => ⟨rfl, rfl⟩⟩
    · rw [grant_other b flagged (fun hx => hrun (.inl hx)) (fun hx => hrun (.inr hx)) ho]
      refine ⟨s.lanes, [s.admittedEvent l b flagged], rfl, Nat.le_succ 1, ?_, fun hr => absurd hr hrun, fun hx => absurd hx ho⟩
      exact fun e he => (List.mem_singleton.1 he) ▸ hevent

/-- A good read dispatched on a fitted lane. -/
theorem dispatchRead_spec (h : s.watches l) (b : Nat) : ∃ p es, s.dispatchRead l b = s.read p es ∧ es.length ≤ 2 ∧
    (∀ e ∈ es, ∃ k, e.lane = .own k) ∧ s.Dispatched l b p es := by
  have hone (kind : EventKind) (r : Option Reason) : ∀ e ∈ [s.readEvent l b kind r], ∃ k, e.lane = .own k := fun e he =>
    ⟨l, by rw [List.mem_singleton.1 he]; rfl⟩
  by_cases hfault : (s.lane l).state = .fault ∧ s.station ≠ .evacuate
  · obtain ⟨hf, hs⟩ := hfault
    refine ⟨s.lanes, [s.readEvent l b .refuse (some .fault)], if_pos ⟨hf, hs⟩, Nat.le_succ 1, hone _ _, fun _ _ => ⟨rfl, rfl⟩,
      fun hn => absurd hf hn, fun _ _ hn => absurd hf hn, fun _ hn => absurd hf hn, fun flagged _ _ _ _ => ⟨fun hx => ?_, fun hx => ?_⟩⟩
    · rw [hf] at hx
      exact hx.elim nofun nofun
    · rw [hf] at hx
      cases hx
  · have hclear : (s.lane l).state = .fault → s.station ≠ .evacuate → False := fun hf hs => hfault ⟨hf, hs⟩
    by_cases hrepeat : s.isRepeat l b = true
    · refine ⟨_, [], ?_, by decide, fun _ he => absurd he List.not_mem_nil, fun hf hs => (hclear hf hs).elim,
        fun _ _ => ⟨rfl, rfl⟩, fun _ hn => absurd hrepeat hn, fun hn => absurd hrepeat hn, fun _ hn => absurd hrepeat hn⟩
      refine (if_neg hfault).trans ((if_pos hrepeat).trans ?_)
      unfold State.read
      rw [List.append_nil]
      rfl
    · have hacted : s.dispatchRead l b = s.actOn l b (s.verdict l b) := (if_neg hfault).trans (if_neg hrepeat)
      obtain ⟨hrefused, hevac, hadmits⟩ := verdict_spec (l := l) h.1.2 b
      rcases Option.eq_none_or_eq_some (refusalRow s l b) with hrow | ⟨r, hrow⟩
      · by_cases hs : s.station = .evacuate
        · rw [hacted, hevac hrow hs]
          refine ⟨_, [s.readEvent l b .admitted (some .evac)], rfl, Nat.le_succ 1, hone _ _, fun hf hn => (hclear hf hn).elim,
            fun _ hr => absurd hr hrepeat, fun r _ _ hr => ?_, fun _ _ _ _ => ⟨rfl, rfl⟩, fun _ _ hn => absurd hs hn⟩
          rw [hrow] at hr
          cases hr
        · obtain ⟨hflagged, hadmitted⟩ := hadmits hrow hs
          have hgranted (flagged : Bool) (hf : flagged = true ↔ flaggedRead s l b) :
              s.dispatchRead l b = (s.grant l b flagged).hand (s.admittedEvent l b flagged) := by
            rw [hacted]
            cases flagged with
            | true => rw [hflagged (hf.1 rfl)]; rfl
            | false => rw [hadmitted (fun hr => nomatch hf.2 hr)]; rfl
          have hlive : s.station = .live ∨ s.station = .held := by
            refine s.verdict_live l b ?_
            by_cases hf : flaggedRead s l b
            · exact .inr (hflagged hf)
            · exact .inl (hadmitted hf)
          obtain ⟨f, hf⟩ : ∃ f : Bool, f = true ↔ flaggedRead s l b := by
            by_cases hx : flaggedRead s l b
            · exact ⟨true, iff_of_true rfl hx⟩
            · exact ⟨false, iff_of_false nofun hx⟩
          obtain ⟨p, es, hread, hlen, hown, hruns, hwaits⟩ := admitted_spec h b f hlive
          refine ⟨p, es, (hgranted f hf).trans hread, hlen, hown, fun hx hn => (hclear hx hn).elim,
            fun _ hr => absurd hr hrepeat, fun r _ _ hr => ?_, fun _ _ hn => absurd hn hs, fun flagged _ _ _ hiff => ?_⟩
          · rw [hrow] at hr
            cases hr
          · have hsame : flagged = f := Bool.eq_iff_iff.2 (hiff.trans hf.symm)
            rw [hsame]
            exact ⟨hruns, hwaits⟩
      · rw [hacted, hrefused r hrow]
        refine ⟨s.lanes, [s.readEvent l b .refuse (some r)], rfl, Nat.le_succ 1, hone _ _, fun hf hn => (hclear hf hn).elim,
          fun _ hr => absurd hr hrepeat, fun r' _ _ hr => ?_, fun _ _ _ hr => ?_, fun _ _ _ hr => ?_⟩
        · rw [hrow] at hr
          cases hr
          exact ⟨rfl, rfl⟩
        · rw [hrow] at hr
          cases hr
        · rw [hrow] at hr
          cases hr

theorem read_settled (hcalm : s.calm) (p : PerLane LaneUnit) {es : List LaneEvent} (hlen : es.length ≤ 2) :
    (s.read p es).settleEvents = ({ s with lanes := p } : State).entered es := by
  refine State.settleEvents_entered (s := { s with lanes := p }) hcalm.2 ?_
  rw [hcalm.1]
  exact (Nat.zero_add _).trans_le (hlen.trans (by decide))

theorem settledLane_repeats (s : State) (l : Lane) (u : LaneUnit) : (s.settledLane l u).repeats = u.repeats := by
  have hredriven (u : LaneUnit) : (s.redriven l u).repeats = u.repeats := by
    unfold State.redriven
    split <;> rfl
  unfold State.settledLane State.openedLane
  split <;> exact hredriven _

theorem clearLane_repeats (s : State) (l : Lane) (k : LaneFaultKind) :
    ((s.clearLane l k).lane l).repeats = (s.lane l).repeats := by
  unfold State.clearLane State.leaveFault
  split
  · split
    · rw [State.settleLane_eq, State.modLane_lane_same]
      exact settledLane_repeats ..
    · rfl
  · rfl

/-- Settles O29. -/
theorem goodRead : Obligations.GoodRead := by
  unfold Obligations.GoodRead
  intro l chars n s h hcalm _ hread cleared
  have hleft : FaultLeft { s with faults := { s.faults with lanes := s.faults.lanes.set l cleared } } (s.clearLane l .reader) l :=
    clearLane_spec h .reader
  have honly := hleft.only
  have hexec : exec (.readerFrame l chars) s = .next ((s.clearLane l .reader).dispatchRead l n).settleEvents := by
    refine congrArg Host.Outcome.next ((s.event_taken _ h.1.1).trans ((if_pos (watched_of h)).trans (congrArg State.settleEvents ?_)))
    unfold State.takeReaderFrame
    rw [hread] <;> rfl
  have hkind := s.clearLane_kind l .reader
  have hrepeats := clearLane_repeats s l .reader
  generalize s.clearLane l .reader = u at hleft honly hexec hkind hrepeats
  generalize u.lanes = lanes at honly
  subst honly
  have hw : ({ s with faults := { s.faults with lanes := s.faults.lanes.set l cleared }, lanes := lanes } : State).watches l :=
    ⟨h.1, by rw [hkind]; exact h.2⟩
  obtain ⟨p, es, hdispatched, hlen, hown, hfault, hrepeat, hrefused, hevac, hadmitted⟩ := dispatchRead_spec hw n
  have hsettled := read_settled (s := { s with faults := { s.faults with lanes := s.faults.lanes.set l cleared }, lanes := lanes })
    hcalm p hlen
  have htraced : Traced s (({ s with faults := { s.faults with lanes := s.faults.lanes.set l cleared }, lanes := p } : State).entered es)
      es s.watch := by
    refine traced_enterAll hown rfl ?_
    show WatchUnit.enterAll _ (s.watch.handed ++ es) = _
    rw [hcalm.1, List.nil_append]
  have htime : s.releaseTime l = 16 * (s.sw2.limits.get l).release := Nat.mul_comm ..
  have hreread : sixteenths s.sw2.reread = 16 * s.sw2.reread := Nat.mul_comm ..
  refine ⟨_, _, hleft, hexec.trans (congrArg Host.Outcome.next ((congrArg State.settleEvents hdispatched).trans hsettled)), rfl, ?_⟩
  intro event release evacRead isRepeat
  have hiff := isRepeat_iff ({ s with faults := { s.faults with lanes := s.faults.lanes.set l cleared }, lanes := lanes } : State) l n
  refine ⟨fun hf hs => ?_, fun hf hr => ?_, fun r hr hf hrow => ?_, fun hr hf hs hrow => ?_, fun flagged hr hs hrow hflag => ?_⟩
  · obtain ⟨rfl, rfl⟩ := hfault hf hs
    exact ⟨rfl, htraced⟩
  · obtain ⟨rfl, rfl⟩ := hrepeat hf (hiff.2 hr)
    refine ⟨?_, ?_⟩
    · show ({ s.watch with handed := [] } : WatchUnit).enterAll (s.watch.handed ++ []) = s.watch
      rw [hcalm.1]
      show ({ s.watch with handed := [] } : WatchUnit) = s.watch
      rw [← hcalm.1]
    · show lanes.set l _ = _
      rw [← hrepeats]
  · obtain ⟨rfl, rfl⟩ := hrefused r (mt hiff.1 hr) hf hrow
    exact ⟨rfl, htraced⟩
  · obtain ⟨rfl, rfl⟩ := hevac (mt hiff.1 hr) hf hs hrow
    refine ⟨?_, htraced⟩
    show lanes.set l { lanes.get l with evacRead := some { badge := n, readTime := s.clock.time, left := s.releaseTime l } } = _
    rw [htime]
  · obtain ⟨hruns, hwaits⟩ := hadmitted flagged (mt hiff.1 hr) hs hrow hflag
    intro events
    refine ⟨fun hstate => ?_, fun hstate => ?_⟩
    · obtain ⟨rfl, rfl⟩ := hruns hstate
      refine ⟨htraced, ?_⟩
      show lanes.set l (drivenLane { lanes.get l with
        state := .released
        release := some { badge := n, readTime := s.clock.time, flagged, rereadUntil := s.clock.realTime + sixteenths s.sw2.reread }
        releaseTimer := some (s.releaseTime l) } true) = _
      rw [htime, hreread]
    · obtain ⟨rfl, rfl⟩ := hwaits hstate
      refine ⟨htraced, ?_⟩
      show lanes.set l { lanes.get l with
        release := some { badge := n, readTime := s.clock.time, flagged, rereadUntil := s.clock.realTime + sixteenths s.sw2.reread }
        releaseTimer := none } = _
      rw [hreread]

end

end Sys2Proof.Machine
end

section
/-! SUPPORT. A punch in the pay unit (R55 to R59, R70, R71). -/

namespace Sys2Proof.Machine

/-! ## The records of the pay unit -/

theorem PayUnit.record_modRecord (p : PayUnit) (slot : Nat) (f : PayRecord → PayRecord) (k : Nat) :
    (p.modRecord slot f).record k = if k = slot then (p.record k).map f else p.record k := by
  unfold PayUnit.record PayUnit.modRecord
  induction p.records with
  | nil => exact (ite_self _).symm
  | cons x xs ih =>
    obtain ⟨j, r⟩ := x
    dsimp only at ih ⊢
    rw [List.map_cons]
    by_cases hj : j = slot
    · subst hj
      rw [if_pos rfl, lookup_cons_ite, lookup_cons_ite, ih]
      by_cases hk : k = j <;> simp [hk]
    · rw [if_neg hj, lookup_cons_ite, lookup_cons_ite, ih]
      by_cases hk : k = j
      · simp [hk, hj]
      · simp [hk]

theorem PayUnit.record_map (p : PayUnit) (f : PayRecord → PayRecord) (k : Nat) :
    ({ p with records := p.records.map fun x => (x.1, f x.2) } : PayUnit).record k = (p.record k).map f := by
  unfold PayUnit.record
  induction p.records with
  | nil => rfl
  | cons x xs ih =>
    obtain ⟨j, r⟩ := x
    dsimp only at ih ⊢
    rw [List.map_cons, lookup_cons_ite, lookup_cons_ite, ih]
    by_cases hk : k = j <;> simp [hk]

/-! ## Pairing -/

section
variable {s : State} {k : Nat} {r : PayRecord} {cls : Fin 8} {p : PayPunch}

theorem PayPunch.flags_eq (p : PayPunch) : p.flags = (if p.flagged then 0x020 else 0) ||| (if p.evac then 0x040 else 0) := rfl

/-- What the pairing of a punch says of the record it leaves (R56 to R59). -/
theorem punchPairs_pair {c : Nat} {after : PayRecord → Prop}
    (h : after (r.pair s.pay.shiftClass s.dayRollMinute c cls p)) : PunchPairs s c r cls p after := by
  unfold PunchPairs
  intro roll day arrival withSlot flagged opened orphaned credited
  have hopenIn (x : PayRecord) (o : Option OpenIn) (d : Nat) (f : DaySlot → DaySlot) :
      ({ x with openIn := o } : PayRecord).modSlot c d f = { x.modSlot c d f with openIn := o } := by
    unfold PayRecord.modSlot
    split <;> rfl
  have horphan (x : PayRecord) (o : Option Orphan) (d : Nat) (f : DaySlot → DaySlot) :
      ({ x with orphan := o } : PayRecord).modSlot c d f = { x.modSlot c d f with orphan := o } := by
    unfold PayRecord.modSlot
    split <;> rfl
  have hcredited (i : OpenIn) (out : Nat) (era : BitVec 8) :
      r.creditInterval s.pay.shiftClass s.dayRollMinute c i out era p.flags = credited i out era := by
    have hclock : PayFlag.clock.when (decide (i.era ≠ era)) = if i.era ≠ era then 0x080 else 0 :=
      if_congr decide_eq_true_iff rfl rfl
    unfold PayRecord.creditInterval
    rw [hclock]
    rfl
  refine ⟨fun hd => ⟨fun hi ho => ?_, fun i hi => ?_, fun o hi ho hlt => ?_, fun o hi ho hle => ?_⟩,
    fun hd => ⟨fun i hi hle => ?_, fun i hi hlt => ?_, fun hi ho => ?_, fun o hi ho => ?_⟩⟩ <;>
    rw [PayRecord.pair, hd] at h
  · rw [PayRecord.takeIn, hi, ho] at h
    exact h
  · have hclosed : r.closeMissingOut c = { flagged r i.day (0x010 ||| (if i.flagged then 0x020 else 0)) with openIn := none } := by
      rw [PayRecord.closeMissingOut, hi] <;> rfl
    rw [PayRecord.takeIn, hi] at h
    dsimp only at h
    rw [hclosed, hopenIn] at h
    exact h
  · have hdiscarded : r.discardOrphan roll c = { flagged r (payDay roll o.time) 0x008 with orphan := none } := by
      rw [PayRecord.discardOrphan, ho] <;> rfl
    rw [PayRecord.takeIn, hi, ho] at h
    dsimp only at h
    rw [if_neg (not_le.2 hlt), hdiscarded, horphan] at h
    exact h
  · rw [PayRecord.takeIn, hi, ho] at h
    dsimp only at h
    rw [if_pos hle, hcredited] at h
    exact h
  · rw [PayRecord.takeOut, hi] at h
    dsimp only at h
    rw [if_pos hle, hcredited] at h
    exact h
  · rw [PayRecord.takeOut, hi] at h
    dsimp only at h
    rw [if_neg (not_le.2 hlt)] at h
    exact h
  · have hdiscarded : r.discardOrphan roll c = r := by
      rw [PayRecord.discardOrphan, ho]
    rw [PayRecord.takeOut, hi] at h
    dsimp only at h
    rw [hdiscarded] at h
    exact h
  · have hdiscarded : r.discardOrphan roll c = { flagged r (payDay roll o.time) 0x008 with orphan := none } := by
      rw [PayRecord.discardOrphan, ho] <;> rfl
    rw [PayRecord.takeOut, hi] at h
    dsimp only at h
    rw [hdiscarded, horphan] at h
    exact h

/-! ## A punch taken by its pay record -/

/-- A pay unit with a record of its own changed. -/
def State.recordChanged (s : State) (k : Nat) (f : PayRecord → PayRecord) : State := s.modPay fun u => u.modRecord k f

theorem record_changed_same (f : PayRecord → PayRecord) (hr : s.pay.record k = some r) :
    (s.recordChanged k f).pay.record k = some (f r) := by
  refine (PayUnit.record_modRecord s.pay k f k).trans ((if_pos rfl).trans ?_)
  rw [hr]
  rfl

theorem record_changed_ne (f : PayRecord → PayRecord) {j : Nat} (hj : j ≠ k) :
    (s.recordChanged k f).pay.record j = s.pay.record j :=
  (PayUnit.record_modRecord s.pay k f j).trans (if_neg hj)

/-- The state after an early roll of every record (R71). -/
theorem earlyRoll_eq (s : State) : s.earlyRoll =
    { rolledOnce s with pay := { (rolledOnce s).pay with earlyRolls := min 255 (s.pay.earlyRolls + 1) } } := by
  unfold State.earlyRoll
  rw [rollOnce_eq]
  rfl

theorem record_earlyRoll (s : State) (j : Nat) : s.earlyRoll.pay.record j = (s.pay.record j).map (rolledRecord s) := by
  rw [earlyRoll_eq]
  exact PayUnit.record_map s.pay (rolledRecord s) j

theorem payPunch_spec (cls : Fin 8) (p : PayPunch) (hr : s.pay.record k = some r) : PunchPaid s (s.payPunch k cls p) k r cls p := by
  unfold PunchPaid
  intro c day after
  by_cases hold : day + 2 ≤ c
  · have hpaid : s.payPunch k cls p = s.recordChanged k fun r => { r with previous := r.previous.flag PayFlag.stale.bit } := if_pos hold
    have hsame := record_changed_same (fun r => { r with previous := r.previous.flag PayFlag.stale.bit }) hr
    refine ⟨by rw [hpaid]; rfl, fun _ => ⟨by rw [hpaid]; rfl, by rw [hpaid]; rfl, fun j hj => by rw [hpaid]; exact record_changed_ne _ hj⟩,
      fun _ => ?_, fun h => absurd h (by omega), fun h => absurd h (by omega), fun _ h => absurd h (by omega)⟩
    show (s.payPunch k cls p).pay.record k = _
    rw [hpaid]
    exact hsame
  · by_cases hpair : day ≤ c
    · have hpaid : s.payPunch k cls p = s.recordChanged k fun r => r.pair s.pay.shiftClass s.dayRollMinute c cls p :=
        (if_neg hold).trans (if_pos hpair)
      have hsame := record_changed_same (fun r => r.pair s.pay.shiftClass s.dayRollMinute c cls p) hr
      refine ⟨by rw [hpaid]; rfl, fun _ => ⟨by rw [hpaid]; rfl, by rw [hpaid]; rfl, fun j hj => by rw [hpaid]; exact record_changed_ne _ hj⟩,
        fun h => absurd h hold, fun h => absurd h (by omega), fun h => absurd h (by omega), fun _ _ => punchPairs_pair ?_⟩
      show (s.payPunch k cls p).pay.record k = _
      rw [hpaid]
      exact hsame
    · by_cases hnext : day = c + 1
      · have hpaid : s.payPunch k cls p = s.earlyRoll.recordChanged k fun r => r.pair s.pay.shiftClass s.dayRollMinute (c + 1) cls p := by
          refine (if_neg hold).trans ((if_neg hpair).trans ((if_pos hnext).trans ?_))
          rw [earlyRoll_eq]
          rfl
        have hrolled : s.earlyRoll.pay.record k = some (rolledRecord s r) := by rw [record_earlyRoll, hr]; rfl
        have hsame := record_changed_same (fun r => r.pair s.pay.shiftClass s.dayRollMinute (c + 1) cls p) hrolled
        have hpay : s.earlyRoll.pay.classes = s.pay.classes ∧ s.earlyRoll.pay.today = c + 1 ∧
            s.earlyRoll.pay.earlyRolls = min 255 (s.pay.earlyRolls + 1) ∧ s.earlyRoll.port = { s.port with payFlag := rolledPayFlag s } := by
          rw [earlyRoll_eq]
          exact ⟨rfl, rfl, rfl, rfl⟩
        obtain ⟨hclasses, htoday, hearly, hport⟩ := hpay
        refine ⟨by rw [hpaid]; exact hclasses, fun h => absurd hnext h, fun h => absurd h hold, fun h => absurd h (by omega),
          fun _ => ⟨by rw [hpaid]; exact htoday, by rw [hpaid]; exact hearly, by rw [hpaid]; exact hport, fun j hj => ?_,
            punchPairs_pair ?_⟩, fun h => absurd h hpair⟩
        · rw [hpaid, record_changed_ne _ hj, record_earlyRoll]
        · show (s.payPunch k cls p).pay.record k = _
          rw [hpaid]
          exact hsame
      · have hpaid : s.payPunch k cls p = s.recordChanged k fun r => { r with current := r.current.flag PayFlag.future.bit } :=
          (if_neg hold).trans ((if_neg hpair).trans (if_neg hnext))
        have hsame := record_changed_same (fun r => { r with current := r.current.flag PayFlag.future.bit }) hr
        refine ⟨by rw [hpaid]; rfl, fun _ => ⟨by rw [hpaid]; rfl, by rw [hpaid]; rfl, fun j hj => by rw [hpaid]; exact record_changed_ne _ hj⟩,
          fun h => absurd h hold, fun _ => ?_, fun h => absurd h hnext, fun h => absurd h hpair⟩
        show (s.payPunch k cls p).pay.record k = _
        rw [hpaid]
        exact hsame

/-- A punch taken by the pay unit changes the pay unit and the PAY_FLAG mark alone. -/
theorem payPunch_only (s : State) (k : Nat) (cls : Fin 8) (p : PayPunch) :
    s.payPunch k cls p = { s with pay := (s.payPunch k cls p).pay, port := (s.payPunch k cls p).port } := by
  unfold State.payPunch
  dsimp only
  split
  · rfl
  · split
    · rfl
    · split
      · rw [earlyRoll_eq]
        rfl
      · rfl

/-! ## A punch handed on (R55) -/

theorem handPay_none {b : Nat} (h : ∀ e, s.lookup b = some e → e.paySlot = none) (p : PayPunch) : s.handPay b p = s := by
  unfold State.handPay
  split
  next h' => exact absurd (h _ h') nofun
  next => rfl

theorem handPay_some {b : Nat} {e : BadgeEntry} (he : s.lookup b = some e) (hk : e.paySlot = some k) (p : PayPunch) :
    s.handPay b p = s.payPunch k e.cls p := by
  obtain ⟨⟩ := e
  cases hk
  unfold State.handPay
  rw [he]

theorem handPay_only (s : State) (b : Nat) (p : PayPunch) :
    s.handPay b p = { s with pay := (s.handPay b p).pay, port := (s.handPay b p).port } := by
  unfold State.handPay
  split
  · exact payPunch_only ..
  · rfl

end

end Sys2Proof.Machine
end

section
/-! SUPPORT. The presence and the journal of a punch (R10 to R14, R126, R127), an own punch (R45), and the passages of a lane
(R31, R34, R40, R42). -/

namespace Sys2Proof.Machine

section
variable {s : State} {b : Nat}

/-! ## Presence -/

theorem lookup_congr {t : State} (h : t.badges.entries = s.badges.entries) (n : Nat) : t.lookup n = s.lookup n := by
  unfold State.lookup
  rw [h]

/-- An entry whose presence changes (R10). -/
theorem applyPresence_found {e : BadgeEntry} (he : s.lookup b = some e) (dir : Direction) {time : Nat} (ht : e.presence.time ≤ time)
    (peer : Option Station) : s.applyPresence b dir time peer =
      { s with badges := { s.badges with
        entries := s.badges.entries.map fun x =>
          if x.number = b then { x with presence := { state := presenceOf dir, time, source := some (peer.getD s.ownStation) } } else x
        muster := musterAfter s.badges.muster e.presence.state (presenceOf dir) } } := by
  unfold State.applyPresence
  rw [he]
  exact if_neg (not_lt.2 ht)

theorem applyPresence_stale {e : BadgeEntry} (he : s.lookup b = some e) (dir : Direction) {time : Nat} (ht : time < e.presence.time)
    (peer : Option Station) : s.applyPresence b dir time peer = s.countStale peer := by
  unfold State.applyPresence
  rw [he]
  exact if_pos ht

theorem applyPresence_strange (hb : s.lookup b = none) (dir : Direction) (time : Nat) (peer : Option Station) :
    s.applyPresence b dir time peer = s.countStranger peer := by
  unfold State.applyPresence
  rw [hb]

theorem musterAfter_eq (muster : Nat) (old : PresenceState) (dir : Direction) : musterAfter muster old (presenceOf dir) =
    if dir = .dirIn ∧ old ≠ .isIn then muster + 1
    else if dir = .dirOut ∧ old = .isIn then muster - 1 else muster := by
  cases dir <;> simp [musterAfter, presenceOf]

/-- A presence update (R10 to R14). -/
theorem applyPresence_spec (s : State) (b : Nat) (dir : Direction) (time : Nat) (peer : Option Station) :
    PresenceTaken s (s.applyPresence b dir time peer) b dir time (peer.getD s.ownStation) peer.isNone := by
  rcases Option.eq_none_or_eq_some (s.lookup b) with hb | ⟨e, he⟩
  · have hbadges : (s.applyPresence b dir time peer).badges =
        { s.badges with ownStranger := if peer.isNone then min 255 (s.badges.ownStranger + 1) else s.badges.ownStranger } := by
      rw [applyPresence_strange hb]
      cases peer <;> rfl
    have hlookup (n : Nat) : (s.applyPresence b dir time peer).lookup n = s.lookup n :=
      lookup_congr (by rw [hbadges]) n
    refine ⟨fun n _ => hlookup n, by rw [hbadges], fun e he => ?_, fun e he => ?_, fun _ => hbadges⟩
    all_goals
      rw [hb] at he
      cases he
  · by_cases ht : time < e.presence.time
    · have hbadges : (s.applyPresence b dir time peer).badges =
          { s.badges with ownStale := if peer.isNone then min 255 (s.badges.ownStale + 1) else s.badges.ownStale } := by
        rw [applyPresence_stale he dir ht]
        cases peer <;> rfl
      have hlookup (n : Nat) : (s.applyPresence b dir time peer).lookup n = s.lookup n :=
        lookup_congr (by rw [hbadges]) n
      refine ⟨fun n _ => hlookup n, by rw [hbadges], fun e' he' hle => ?_, fun _ _ _ => hbadges, fun hb => ?_⟩
      · rw [he] at he'
        cases he'
        exact absurd hle (not_le.2 ht)
      · rw [he] at hb
        cases hb
    · have hfound := applyPresence_found he dir (not_lt.1 ht) peer
      have hlookup (n : Nat) : (s.applyPresence b dir time peer).lookup n = (s.lookup n).map fun x =>
          if x.number = b then { x with presence := { state := presenceOf dir, time, source := some (peer.getD s.ownStation) } } else x := by
        rw [hfound]
        refine find?_map_number (fun x => ?_) n
        split <;> rfl
      refine ⟨fun n hn => ?_, by rw [hfound], fun e' he' _ => ⟨?_, ?_, by rw [hfound], by rw [hfound]⟩, fun e' he' hlt => ?_, fun hb => ?_⟩
      · rw [hlookup]
        rcases Option.eq_none_or_eq_some (s.lookup n) with hx | ⟨x, hx⟩
        · rw [hx]
          rfl
        · rw [hx]
          exact congrArg some (if_neg (by rw [number_of_find? hx]; exact hn))
      · rw [hlookup, he']
        exact congrArg some (if_pos (number_of_find? he'))
      · rw [he] at he'
        cases he'
        rw [hfound]
        exact musterAfter_eq ..
      · rw [he] at he'
        cases he'
        exact absurd hlt ht
      · rw [he] at hb
        cases hb

/-- A presence update leaves a badge's class and pay slot, and every block but the badge table and the peers. -/
theorem applyPresence_slot (s : State) (b : Nat) (dir : Direction) (time : Nat) (peer : Option Station) (n : Nat) :
    ((s.applyPresence b dir time peer).lookup n).map (fun e => (e.cls, e.paySlot)) =
      (s.lookup n).map fun e => (e.cls, e.paySlot) := by
  obtain ⟨hothers, -, hfound, hstale, hstrange⟩ := applyPresence_spec s b dir time peer
  by_cases hn : n = b
  · subst hn
    have hsame (t : State) (ht : t.badges.entries = s.badges.entries) := congrArg (Option.map fun e => (e.cls, e.paySlot)) (lookup_congr ht n)
    rcases Option.eq_none_or_eq_some (s.lookup n) with hb | ⟨e, he⟩
    · exact hsame _ (by rw [hstrange hb])
    · by_cases ht : time < e.presence.time
      · exact hsame _ (by rw [hstale e he ht])
      · rw [(hfound e he (not_lt.1 ht)).1, he]
        rfl
  · rw [hothers n hn]

theorem applyPresence_own_only (s : State) (b : Nat) (dir : Direction) (time : Nat) :
    s.applyPresence b dir time none = { s with badges := (s.applyPresence b dir time none).badges } := by
  unfold State.applyPresence
  split
  · rfl
  · split <;> rfl

/-! ## The journal -/

/-- An own punch entered in the journal (R127). -/
theorem journalPunch_spec (s : State) (l : Lane) (b : Nat) (dir : Direction) (o : PunchOutcome) :
    let t := s.journalPunch l b dir o s.clock.time s.clock.era
    t = { s with journal := t.journal, line := { s.line with nextTag := t.line.nextTag }, watch := journalQueue s l b } ∧
      Journaled s t l b dir o := by
  intro t
  by_cases hroom : s.journal.entries.length < 64
  · have hqueue : journalQueue s l b = s.watch := if_neg fun h => absurd hroom (not_lt.2 h.1)
    have ht : t = { s with
        journal := { s.journal with
          next := s.journal.next + 1
          entries := s.journal.entries ++
            [{ tag := s.line.nextTag, seq := s.journal.next, badge := b, lane := l, direction := dir, outcome := o,
               time := s.clock.time, era := s.clock.era }] }
        line := { s.line with nextTag := s.line.nextTag + 1 } } := if_pos hroom
    rw [ht, hqueue]
    exact ⟨rfl, rfl, fun _ => ⟨_, rfl, rfl, rfl⟩, fun h => absurd hroom (not_lt.2 h)⟩
  · have ht : t = { s with
        journal := { s.journal with
          next := s.journal.next + 1
          leftOut := min 65535 (s.journal.leftOut + 1)
          full := true }
        watch := journalQueue s l b } := by
      refine (if_neg hroom).trans ?_
      rw [State.recordIncident_eq]
      by_cases hfull : s.journal.full = true
      · have hqueue : journalQueue s l b = s.watch := if_neg fun h => Bool.noConfusion (hfull.symm.trans h.2)
        rw [hqueue]
        exact if_pos hfull
      · have hqueue : journalQueue s l b = _ := if_pos ⟨not_lt.1 hroom, Bool.eq_false_iff.2 hfull⟩
        rw [hqueue]
        exact if_neg hfull
    rw [ht]
    exact ⟨rfl, rfl, fun h => absurd h hroom, fun _ => ⟨rfl, rfl, rfl⟩⟩

/-! ## An own punch -/

theorem journalQueue_kept (s : State) (l : Lane) (b : Nat) :
    journalQueue s l b = { s.watch with
      incidents := (journalQueue s l b).incidents
      lost := (journalQueue s l b).lost } := by
  unfold journalQueue WatchUnit.queue
  split
  · split <;> rfl
  · rfl

/-- A punch handed to the pay unit behind a presence update is taken by the record that the badge linked before it (R45, R55). -/
theorem handPay_of_slot {x : State} (hslot : (x.lookup b).map (fun e => (e.cls, e.paySlot)) = (s.lookup b).map fun e => (e.cls, e.paySlot))
    (p : PayPunch) :
    ((∀ e, s.lookup b = some e → e.paySlot = none) → x.handPay b p = x) ∧
    (∀ e k, s.lookup b = some e → e.paySlot = some k → x.handPay b p = x.payPunch k e.cls p) := by
  refine ⟨fun h => handPay_none (fun e he => ?_) p, fun e k he hk => ?_⟩
  · rw [he] at hslot
    obtain ⟨e', he', hpair⟩ := Option.map_eq_some_iff.1 hslot.symm
    exact (congrArg Prod.snd hpair).symm.trans (h e' he')
  · rw [he] at hslot
    obtain ⟨e', he', hpair⟩ := Option.map_eq_some_iff.1 hslot
    obtain ⟨hcls, hpay⟩ := Prod.mk.injEq .. ▸ hpair
    rw [handPay_some he' (hpay.trans hk), hcls]

/-- The pay unit and the PAY_FLAG mark after a punch handed to the pay unit, as the statements say. -/
def PayHanded (s t : State) (b : Nat) (p : PayPunch) : Prop :=
  ((∀ e, s.lookup b = some e → e.paySlot = none) → t.pay = s.pay ∧ t.port = s.port) ∧
  (∀ e k r, s.lookup b = some e → e.paySlot = some k → s.pay.record k = some r → PunchPaid s t k r e.cls p)

theorem payHanded_handPay {badges : BadgeTable} {peers : PeerTable} {watch : WatchUnit}
    (hslot : (({ s with badges := badges, peers := peers, watch := watch } : State).lookup b).map (fun e => (e.cls, e.paySlot)) =
      (s.lookup b).map fun e => (e.cls, e.paySlot)) (p : PayPunch) :
    PayHanded s (({ s with badges := badges, peers := peers, watch := watch } : State).handPay b p) b p := by
  obtain ⟨hnone, hsome⟩ := handPay_of_slot hslot p
  refine ⟨fun h => by rw [hnone h]; exact ⟨rfl, rfl⟩, fun e k r he hk hr => ?_⟩
  rw [hsome e k he hk]
  exact payPunch_spec (s := { s with badges := badges, peers := peers, watch := watch }) e.cls p hr

/-- An own punch as the pay unit takes it (R55). -/
def State.ownPay (s : State) (dir : Direction) (o : PunchOutcome) (flagged : Bool) : PayPunch :=
  { direction := dir, time := s.clock.time, era := s.clock.era, source := s.ownStation, flagged, evac := decide (o = .evac) }

/-- The event of an own punch (R46). -/
def State.punchEvent (s : State) (l : Lane) (b : Nat) (o : PunchOutcome) : LaneEvent :=
  eventOf s (if o = .passed then .passed else .evac) l (some b) none

theorem ownPunch_eq (s : State) (l : Lane) (b : Nat) (dir : Direction) (o : PunchOutcome) (flagged : Bool) :
    s.ownPunch l b dir o flagged =
      (((s.applyPresence b dir s.clock.time none).handPay b (s.ownPay dir o flagged)).journalPunch l b dir o s.clock.time
        s.clock.era).hand (s.punchEvent l b o) := by
  cases o <;> rfl

/-- An own punch closed and handed on, its event taken with no rule armed (R45). -/
theorem ownPunch_spec (hcalm : s.calm) (l : Lane) (b : Nat) (dir : Direction) (o : PunchOutcome) (flagged : Bool) :
    let t := (s.ownPunch l b dir o flagged).settleEvents
    t = { s with badges := t.badges, pay := t.pay, port := t.port, journal := t.journal, watch := t.watch,
                 line := { s.line with nextTag := t.line.nextTag } } ∧
      PunchClosed s t l b dir o flagged := by
  obtain ⟨hnone, hunarmed⟩ := hcalm
  have honly := applyPresence_own_only s b dir s.clock.time
  have hpresence := applyPresence_spec s b dir s.clock.time none
  have hslot := applyPresence_slot s b dir s.clock.time none b
  rw [ownPunch_eq]
  generalize s.applyPresence b dir s.clock.time none = x at honly hpresence hslot ⊢
  generalize x.badges = badges at honly
  subst honly
  have hpaid := payHanded_handPay hslot (s.ownPay dir o flagged)
  have honly := handPay_only { s with badges := badges } b (s.ownPay dir o flagged)
  generalize ({ s with badges := badges } : State).handPay b (s.ownPay dir o flagged) = y at honly hpaid ⊢
  generalize y.pay = pay at honly
  generalize y.port = port at honly
  subst honly
  obtain ⟨honly, hjournaled⟩ := journalPunch_spec ({ s with badges := badges, pay := pay, port := port }) l b dir o
  generalize ({ s with badges := badges, pay := pay, port := port } : State).journalPunch l b dir o s.clock.time s.clock.era = z
    at honly hjournaled ⊢
  generalize z.journal = journal at honly
  generalize z.line.nextTag = tag at honly
  subst honly
  have hqueue : (journalQueue s l b).rules = s.watch.rules ∧ (journalQueue s l b).handed = [] := by
    rw [journalQueue_kept]
    exact ⟨rfl, hnone⟩
  have hsettled := State.settleEvents_entered
    (s := { s with badges := badges, pay := pay, port := port, journal := journal, line := { s.line with nextTag := tag },
                   watch := journalQueue s l b })
    (events := [s.punchEvent l b o]) (fun r => by exact hqueue.1 ▸ hunarmed r)
    (by show (journalQueue s l b).handed.length + 1 ≤ 32; rw [hqueue.2]; decide)
  intro t
  have ht : t = _ := hsettled
  clear_value t
  subst ht
  refine ⟨rfl, hpresence, hpaid.1, hpaid.2, hjournaled, traced_enterAll ?_ ?_ ?_⟩
  · intro e he
    rw [List.mem_singleton.1 he]
    exact ⟨l, rfl⟩
  · rw [journalQueue_kept]
  · show WatchUnit.enterAll _ ((journalQueue s l b).handed ++ _) = _
    rw [hqueue.2]
    rfl

end

end Sys2Proof.Machine
end

section
/-! SUPPORT. The passages of a lane (R31, R34, R35, R40, R42). -/

namespace Sys2Proof.Machine

section
variable {s : State} {l : Lane}

/-- A lane with a passage taken on it, whose release closes (R31). -/
def LaneUnit.passedEdge (u : LaneUnit) : LaneUnit :=
  { u with aux := { level := some true, timer := none }, release := none, releaseTimer := none }

theorem exec_passage (h : s.watches l) (hraw : s.inputs.aux.get l = true) (he : EdgeReady (s.lane l).aux true) :
    exec (.debounceExpiry (.aux l)) s = .next ((s.modLane l fun u => u.auxEdged true).passage l).settleEvents := by
  have hedge := exec_auxEdge h (hraw.symm ▸ he)
  rw [hraw] at hedge
  exact hedge

/-- A lane in LIVE and HELD whose strike is driven by its state (R24). -/
theorem redriven_live (h : s.watches l) (hlive : s.station = .live ∨ s.station = .held) {u : LaneUnit} (hk : u.kind ≠ .off) :
    s.redriven l u = drivenLane u (liveDrive u) := by
  refine State.redriven_fitted hk (served_not_holdover h.1) ?_
  unfold State.driveFor
  rcases hlive with hx | hx <;> rw [hx]

/-- The lane after a passage that closes its release (R31, R35). -/
def State.passedLane (s : State) (l : Lane) : LaneUnit :=
  if (s.lane l).kind = .door then
    drivenLane
      { (s.lane l).passedEdge with
        state := .opened
        openDrive := true
        heldOpen := some (16 * (s.sw2.limits.get l).heldOpen) } true
  else drivenLane { (s.lane l).passedEdge with state := s.restState l } false

theorem passed_eq (h : s.watches l) (hlive : s.station = .live ∨ s.station = .held) (p : PendingRelease) :
    (s.modLane l fun u => u.auxEdged true).passed l p =
      ({ s with lanes := s.lanes.set l (s.passedLane l) } : State).ownPunch l p.badge (s.sw1 l).direction .passed p.flagged := by
  have hevac : s.station ≠ .evacuate := by rcases hlive with hx | hx <;> rw [hx] <;> nofun
  have hset (u v : LaneUnit) : (s.lanes.set l u).set l v = s.lanes.set l v := PerLane.set_set ..
  have hclosed : (s.modLane l fun u => u.auxEdged true).modLane l (fun u => { u with release := none, releaseTimer := none }) =
      s.modLane l LaneUnit.passedEdge := State.modLane_modLane ..
  have hkind : ((s.modLane l fun u => u.auxEdged true).lane l).kind = (s.lane l).kind := by
    rw [State.modLane_lane_same]
    rfl
  unfold State.passed
  dsimp only
  rw [hclosed, hkind]
  refine congrArg (fun x : State => x.ownPunch l p.badge (s.sw1 l).direction .passed p.flagged) ?_
  by_cases hd : (s.lane l).kind = .door
  · have hstart : s.heldOpenStart l = some (16 * (s.sw2.limits.get l).heldOpen) :=
      (State.heldOpenStart_eq (served_not_holdover h.1)).trans (if_neg hevac)
    rw [if_pos hd, State.openDoor_eq]
    refine (State.modLane_modLane ..).trans (congrArg (fun u => ({ s with lanes := s.lanes.set l u } : State)) ?_)
    refine Eq.trans ?_ (if_pos hd).symm
    refine (redriven_live h hlive (by exact h.2)).trans ?_
    show drivenLane { (s.lane l).passedEdge with state := .opened, openDrive := true, heldOpen := s.heldOpenStart l } true = _
    rw [hstart]
  · rw [if_neg hd]
    refine (State.modLane_refreshDrive _ l _).trans ((State.modLane_modLane ..).trans
      (congrArg (fun u => ({ s with lanes := s.lanes.set l u } : State)) ?_))
    refine Eq.trans ?_ (if_neg hd).symm
    refine (redriven_live h hlive (by exact h.2)).trans (congrArg (drivenLane _) ?_)
    exact liveDrive_rest s l rfl

/-- Settles O31. -/
theorem passageReleased : Obligations.PassageReleased := by
  unfold Obligations.PassageReleased
  intro l p s h hcalm hraw he hlive hstate hp _
  have hpassage : (s.modLane l fun u => u.auxEdged true).passage l = (s.modLane l fun u => u.auxEdged true).passed l p := by
    have hevac : s.station ≠ .evacuate := by rcases hlive with hx | hx <;> rw [hx] <;> nofun
    refine (if_neg hevac).trans ?_
    rw [State.modLane_lane_same]
    show (match (s.lane l).state, (s.lane l).release with
      | .fault, _ => _
      | .released, some p => _
      | .idle, _ | .held, _ => _
      | _, _ => _) = _
    rw [hstate, hp]
  obtain ⟨honly, hclosed⟩ := ownPunch_spec (s := { s with lanes := s.lanes.set l (s.passedLane l) }) hcalm l p.badge
    (s.sw1 l).direction .passed p.flagged
  rw [exec_passage h hraw he, hpassage, passed_eq h hlive]
  generalize (({ s with lanes := s.lanes.set l (s.passedLane l) } : State).ownPunch l p.badge (s.sw1 l).direction .passed
    p.flagged).settleEvents = t at honly hclosed ⊢
  have hlanes : t.lanes = s.lanes.set l (s.passedLane l) := by rw [honly]
  have hline : t.line = { s.line with nextTag := t.line.nextTag } := by rw [honly]
  refine ⟨t, rfl, ?_, hline, hclosed, ?_⟩
  · rw [hlanes, hline]
    exact honly
  · intro edge
    rw [hlanes]
    refine ⟨fun hk hh => ?_, fun hk hh => ?_, fun hk => ?_⟩
    · rw [State.passedLane, if_neg (by rw [hk]; nofun), State.restState_held hh]
      rfl
    · rw [State.passedLane, if_neg (by rw [hk]; nofun), State.restState_idle hh]
      rfl
    · rw [State.passedLane, if_pos hk]
      rfl

/-! ## Passages with no release -/

/-- A lane with a forced passage counted (R34). -/
def LaneUnit.forcedEdge (u : LaneUnit) : LaneUnit := { u.auxEdged true with forced := min 65535 (u.forced + 1) }

/-- The incident of a forced passage (R34). -/
def State.forcedIncident (s : State) (l : Lane) : Incident :=
  { kind := .forced, time := s.clock.time, lane := some l, badge := none, rule := none, peer := none, detail := none }

/-- The lane after a forced passage (R34). -/
def State.forcedLane (s : State) (l : Lane) : LaneUnit :=
  if (s.lane l).kind = .door then doorOpened s l (s.lane l).forcedEdge else (s.lane l).forcedEdge

theorem forced_eq (h : s.watches l) : (s.modLane l fun u => u.auxEdged true).forced l =
    { s with
      lanes := s.lanes.set l (s.forcedLane l)
      watch := { s.watch.queue (s.forcedIncident l) with
        handed := (s.watch.queue (s.forcedIncident l)).handed ++ [eventOf s .forced l none none] } } := by
  have hset (u v : LaneUnit) : (s.lanes.set l u).set l v = s.lanes.set l v := PerLane.set_set ..
  have hget (u : LaneUnit) : (s.lanes.set l u).get l = u := PerLane.get_set_same ..
  have hcounted : (s.modLane l fun u => u.auxEdged true).modLane l (fun u => { u with forced := satAdd max16 u.forced 1 }) =
      s.modLane l LaneUnit.forcedEdge := State.modLane_modLane ..
  have hkind : ((s.modLane l fun u => u.auxEdged true).lane l).kind = (s.lane l).kind := by
    rw [State.modLane_lane_same]
    rfl
  unfold State.forced
  dsimp only
  rw [hcounted, hkind, State.recordIncident_eq]
  by_cases hd : (s.lane l).kind = .door
  · have hlane : s.forcedLane l = doorOpened s l (s.lane l).forcedEdge := if_pos hd
    rw [if_pos hd, State.openDoor_eq, hlane]
    refine (congrArg (fun p => ({ s with
      lanes := p
      watch := { s.watch.queue (s.forcedIncident l) with
        handed := (s.watch.queue (s.forcedIncident l)).handed ++ [eventOf s .forced l none none] } } : State)) (hset ..)).trans ?_
    refine congrArg (fun u => ({ s with
      lanes := s.lanes.set l u
      watch := { s.watch.queue (s.forcedIncident l) with
        handed := (s.watch.queue (s.forcedIncident l)).handed ++ [eventOf s .forced l none none] } } : State)) ?_
    show s.openedLane l false ((s.lanes.set l (s.lane l).forcedEdge).get l) = _
    rw [hget]
    exact State.openedLane_false (u := (s.lane l).forcedEdge) h.2 (served_not_holdover h.1)
  · have hlane : s.forcedLane l = (s.lane l).forcedEdge := if_neg hd
    rw [if_neg hd, hlane]
    rfl

/-- A lane with a passage in EVACUATE taken on it (R41). -/
def LaneUnit.evacEdge (u : LaneUnit) : LaneUnit :=
  { u with
    aux := { level := some true, timer := none }
    state := if u.kind = .door then .opened else u.state }

theorem evacPassage_none (hr : (s.lane l).evacRead = none) : (s.modLane l fun u => u.auxEdged true).evacPassage l =
    s.modLane l fun u => { u.evacEdge with evacPassages := min 65535 (u.evacPassages + 1) } := by
  unfold State.evacPassage
  rw [State.modLane_lane_same]
  show (match (s.lane l).evacRead with
    | some r => _
    | none => _) = _
  rw [hr]
  exact (State.modLane_modLane ..).trans (State.modLane_modLane ..)

theorem evacPassage_some {r : EvacRead} (hr : (s.lane l).evacRead = some r) : (s.modLane l fun u => u.auxEdged true).evacPassage l =
    (s.modLane l fun u => { u.evacEdge with evacRead := none }).ownPunch l r.badge .dirOut .evac false := by
  unfold State.evacPassage
  rw [State.modLane_lane_same]
  show (match (s.lane l).evacRead with
    | some r => _
    | none => _) = _
  rw [hr]
  exact congrArg (fun x : State => x.ownPunch l r.badge .dirOut .evac false)
    ((State.modLane_modLane ..).trans (State.modLane_modLane ..))

/-- Settles O32. -/
theorem passagesUnreleased : Obligations.PassagesUnreleased := by
  unfold Obligations.PassagesUnreleased
  refine ⟨fun l s h hcalm hraw he hs => ?_, fun l s h hcalm hraw he hs _ => ?_⟩
  · intro edge incident
    have hpassage : (s.modLane l fun u => u.auxEdged true).passage l = match (s.lane l).state, (s.lane l).release with
        | .fault, _ => (s.modLane l fun u => u.auxEdged true).modLane l fun u =>
          { u with openPassages := satAdd max16 u.openPassages 1 }
        | .released, some p => (s.modLane l fun u => u.auxEdged true).passed l p
        | .idle, _ | .held, _ => (s.modLane l fun u => u.auxEdged true).forced l
        | _, _ => s.modLane l fun u => u.auxEdged true := by
      refine (if_neg hs).trans ?_
      rw [State.modLane_lane_same]
      rfl
    refine ⟨fun hstate => ?_, fun hf => ?_⟩
    · have hforced : (s.modLane l fun u => u.auxEdged true).passage l = (s.modLane l fun u => u.auxEdged true).forced l := by
        rw [hpassage]
        rcases hstate with hx | hx <;> rw [hx]
      have hhanded : (s.watch.queue incident).handed = [] := (WatchUnit.queue_handed ..).trans hcalm.1
      have hsettled : ((s.modLane l fun u => u.auxEdged true).passage l).settleEvents =
          ({ s with lanes := s.lanes.set l (s.forcedLane l), watch := s.watch.queue incident } : State).entered
            [eventOf s .forced l none none] := by
        rw [hforced, forced_eq h]
        refine State.settleEvents_entered (s := { s with lanes := s.lanes.set l (s.forcedLane l), watch := s.watch.queue incident })
          (queue_unarmed hcalm.2 _) ?_
        show (s.watch.queue incident).handed.length + 1 ≤ 32
        rw [hhanded]
        decide
      rw [exec_passage h hraw he, hsettled]
      refine ⟨_, rfl, rfl, traced_enterAll (fun e he => ⟨l, by rw [List.mem_singleton.1 he]; rfl⟩) (queue_kept ..) ?_,
        fun hk => ?_, fun hk => ?_⟩
      · show WatchUnit.enterAll _ ((s.watch.queue incident).handed ++ _) = _
        rw [hhanded]
        rfl
      · show s.lanes.set l (s.forcedLane l) = _
        rw [State.forcedLane, if_neg (by rw [hk]; nofun)]
        rfl
      · show s.lanes.set l (s.forcedLane l) = _
        rw [State.forcedLane, if_pos hk]
        rfl
    · have hraised : (s.modLane l fun u => u.auxEdged true).passage l =
          s.modLane l fun u => { u.auxEdged true with openPassages := min 65535 (u.openPassages + 1) } := by
        rw [hpassage, hf]
        exact State.modLane_modLane ..
      rw [exec_passage h hraw he, hraised]
      exact congrArg Host.Outcome.next (State.settleEvents_nil (by exact hcalm.1))
  · intro state edge
    have hpassage : (s.modLane l fun u => u.auxEdged true).passage l = (s.modLane l fun u => u.auxEdged true).evacPassage l := if_pos hs
    refine ⟨fun hr => ?_, fun r hr => ?_⟩
    · rw [exec_passage h hraw he, hpassage, evacPassage_none hr]
      exact congrArg Host.Outcome.next (State.settleEvents_nil (by exact hcalm.1))
    · obtain ⟨honly, hclosed⟩ := ownPunch_spec (s := s.modLane l fun u => { u.evacEdge with evacRead := none }) hcalm l r.badge
        .dirOut .evac false
      rw [exec_passage h hraw he, hpassage, evacPassage_some hr]
      generalize ((s.modLane l fun u => { u.evacEdge with evacRead := none }).ownPunch l r.badge .dirOut .evac false).settleEvents = t
        at honly hclosed ⊢
      have hlanes : t.lanes = s.lanes.set l { (s.lane l).evacEdge with evacRead := none } := by rw [honly]; rfl
      have hline : t.line = { s.line with nextTag := t.line.nextTag } := by rw [honly]; rfl
      refine ⟨t, rfl, ?_, hlanes, hline, hclosed⟩
      rw [hlanes, hline]
      exact honly

end

end Sys2Proof.Machine
end

section
/-! SUPPORT. The events taken in order with rules armed (R141), and PUNCH from a peer (R55, R115, R130, R132). -/

namespace Sys2Proof.Machine

section
variable {s : State}

/-! ## Events taken one after another -/

theorem takeEvents_nil (h : s.watch.handed = []) (n : Nat) : s.takeEvents n = s := by
  cases n with
  | zero => rfl
  | succ n => rw [State.takeEvents, h]

theorem takeEvents_add (s : State) (n m : Nat) : s.takeEvents (n + m) = (s.takeEvents n).takeEvents m := by
  induction n generalizing s with
  | zero => rw [Nat.zero_add]; rfl
  | succ n ih =>
    cases h : s.watch.handed with
    | nil => rw [takeEvents_nil h, takeEvents_nil h, takeEvents_nil h]
    | cons e rest =>
      rw [Nat.succ_add, State.takeEvents, State.takeEvents, h]
      exact ih _

/-- More steps than there is to take take nothing more. -/
theorem takeEvents_enough {n m : Nat} (h : s.toTake ≤ n) (hm : n ≤ m) : s.takeEvents m = s.takeEvents n := by
  obtain ⟨k, rfl⟩ := Nat.exists_eq_add_of_le hm
  rw [takeEvents_add, takeEvents_nil (s.takeEvents_handed h)]

theorem toTake_le (s : State) : s.toTake ≤ s.watch.handed.length + 4 := by
  unfold State.toTake
  split <;> omega

/-- The event at the front is taken first, and then those that are left and those that it brings (R141). -/
theorem settleEvents_cons {e : LaneEvent} {rest : List LaneEvent} (h : s.watch.handed = e :: rest) (hn : rest.length ≤ 16) :
    s.settleEvents = ((s.modWatch fun w => { w with handed := rest }).takeEvent e).settleEvents := by
  have hstep : s.settleEvents = ((s.modWatch fun w => { w with handed := rest }).takeEvent e).takeEvents 31 := by
    rw [State.settleEvents, State.takeEvents, h]
  rw [hstep]
  refine (takeEvents_enough (n := 31) (m := 32) ?_ (by decide)).symm
  refine (State.toTake_takeEvent _ e).trans ?_
  exact (toTake_le _).trans (Nat.add_le_add_right hn 4 |>.trans (by decide))

/-- An event taken: entered in the gate trace, and matched against rules 0 to 3 in order (R141). -/
theorem takeEvent_eq (s : State) (e : LaneEvent) : s.takeEvent e =
    if s.station.serving then matchedInOrder { s with watch := s.watch.enter e } e else { s with watch := s.watch.enter e } := by
  have htraced : (match e.lane with
      | .own l => s.modWatch fun w => w.write l e
      | .peer => s) = { s with watch := s.watch.enter e } := by
    unfold WatchUnit.enter
    cases e.lane <;> rfl
  exact congrArg (fun x : State => if x.station.serving then RuleNo.all.foldl (fun s r => s.matchRule r e) x else x) htraced

/-! ## The sequence number of a PUNCH frame -/

/-- How far the sequence number of a PUNCH frame lies ahead of the expected one (R132). -/
def PeerEntry.ahead (e : PeerEntry) (seq : BitVec 8) : Nat :=
  match e.expected with
  | none => 0
  | some x => (seq - x).toNat

/-- A peer's entry after the sequence number of a PUNCH frame (R132). -/
def PeerEntry.tracked (e : PeerEntry) (seq : BitVec 8) : PeerEntry :=
  { e with
    expected := if e.ahead seq ≤ 127 then some (seq + 1) else e.expected
    gap := if 1 ≤ e.ahead seq ∧ e.ahead seq ≤ 127 then min 255 (e.gap + e.ahead seq) else e.gap
    late := if 128 ≤ e.ahead seq then min 255 (e.late + 1) else e.late }

theorem modAt_congr {α : Type} {f g : α → α} {d : α} {n : Nat} {xs : List α} (h : f (xs.getD n d) = g (xs.getD n d)) :
    modAt f n xs = modAt g n xs := by
  induction xs generalizing n with
  | nil => cases n <;> rfl
  | cons x xs ih =>
    cases n with
    | zero => exact congrArg (· :: xs) h
    | succ n => exact congrArg (x :: ·) (ih h)

theorem State.modPeer_congr {p : Station} {f g : PeerEntry → PeerEntry} (h : f (s.peer p) = g (s.peer p)) :
    s.modPeer p f = s.modPeer p g :=
  congrArg (fun es => s.modPeers fun t => { t with entries := es }) (modAt_congr h)

theorem aheadOf_iff (a b : BitVec 8) : aheadOf a b = true ↔ 1 ≤ (a - b).toNat ∧ (a - b).toNat ≤ 127 := decide_eq_true_iff

/-- The sequence number of a PUNCH frame taken by the peer table (R132). -/
theorem trackPunch_eq (s : State) (p : Station) (seq : BitVec 8) :
    s.trackPunch p seq =
      if 1 ≤ (s.peer p).ahead seq ∧ (s.peer p).ahead seq ≤ 127 then
        (s.modPeer p fun x => x.tracked seq).openDoubt .punchGap (some p)
      else s.modPeer p fun x => x.tracked seq := by
  unfold State.trackPunch
  cases hx : (s.peer p).expected with
  | none =>
    have hahead : (s.peer p).ahead seq = 0 := by rw [PeerEntry.ahead, hx]
    rw [hahead, if_neg (by decide)]
    refine State.modPeer_congr ?_
    rw [PeerEntry.tracked, hahead]
    rfl
  | some e =>
    have hahead : (s.peer p).ahead seq = (seq - e).toNat := by rw [PeerEntry.ahead, hx]
    dsimp only
    by_cases he : seq = e
    · have hzero : (s.peer p).ahead seq = 0 := by rw [hahead, he, BitVec.sub_self]; rfl
      rw [if_pos he, hzero, if_neg (by decide)]
      refine State.modPeer_congr ?_
      rw [PeerEntry.tracked, hzero]
      rfl
    · by_cases hgap : aheadOf seq e = true
      · obtain ⟨hlow, hhigh⟩ := (aheadOf_iff seq e).1 hgap
        have htracked : (s.peer p).tracked seq = { s.peer p with
            gap := satAdd max8 (s.peer p).gap (seq - e).toNat, expected := some (seq + 1) } := by
          rw [PeerEntry.tracked, hahead, if_pos hhigh, if_pos ⟨hlow, hhigh⟩, if_neg (by omega)]
          rfl
        rw [if_neg he, if_pos hgap, hahead, if_pos ⟨hlow, hhigh⟩]
        exact congrArg (fun x : State => x.openDoubt .punchGap (some p)) (State.modPeer_congr htracked.symm)
      · have hrange := mt (aheadOf_iff seq e).2 hgap
        have hpos : 1 ≤ (seq - e).toNat := by
          refine Nat.one_le_iff_ne_zero.2 fun hz => he ?_
          bv_omega
        have htracked : (s.peer p).tracked seq = { s.peer p with late := satAdd max8 (s.peer p).late 1 } := by
          rw [PeerEntry.tracked, hahead, if_neg (by omega), if_neg hrange, if_pos (by omega)]
          rfl
        rw [if_neg he, if_neg hgap, hahead, if_neg hrange]
        exact State.modPeer_congr htracked.symm

/-! ## What a PUNCH frame does before its event is taken -/

/-- A PUNCH frame as the pay unit takes it (R55). -/
def punchPay (f : PunchFrame) : PayPunch :=
  { direction := punchDirection f, time := f.time.toNat, era := f.era, source := f.source, flagged := false,
    evac := decide (f.outcome = .evac) }

/-- A PUNCH frame handed on to the badge table and the pay unit. -/
def State.punchHanded (s : State) (f : PunchFrame) : State :=
  (((s.hear f.source).trackPunch f.source f.seq).applyPresence f.badge.toNat (punchDirection f) f.time.toNat
    (some f.source)).handPay f.badge.toNat (punchPay f)

theorem punchDirection_eq (f : PunchFrame) : punchDirection f = if f.outcome = .evac then .dirOut else f.direction := by
  unfold punchDirection
  cases f.outcome <;> rfl

theorem exec_punch_taken (h : s.served) (hl : s.line.sending = none) {f : PunchFrame} (hpeer : f.source ≠ s.ownStation)
    (hlow : 1 ≤ f.badge.toNat) (hhigh : f.badge.toNat ≤ 16777214) :
    exec (.punch f) s = .next ((s.punchHanded f).hand (s.peerEvent f)).settleEvents := by
  rw [exec_punch h.1, takeFrame_peer (f := .punch f) (listening_of h.2 hl) ((isBadge_iff _).2 ⟨hlow, hhigh⟩) hpeer]
  rfl

theorem trackPunch_only (s : State) (p : Station) (seq : BitVec 8) :
    s.trackPunch p seq = { s with peers := (s.trackPunch p seq).peers, watch := (s.trackPunch p seq).watch } := by
  rw [trackPunch_eq]
  split
  · rw [State.openDoubt_eq]
    rfl
  · rfl

theorem applyPresence_only (s : State) (b : Nat) (dir : Direction) (time : Nat) (peer : Option Station) :
    s.applyPresence b dir time peer =
      { s with badges := (s.applyPresence b dir time peer).badges, peers := (s.applyPresence b dir time peer).peers } := by
  unfold State.applyPresence
  split
  · cases peer <;> rfl
  · split
    · cases peer <;> rfl
    · rfl

/-- The peer's entry that a PUNCH frame finds, marked as heard (R130). -/
def State.heardEntry (s : State) (p : Station) : PeerEntry :=
  { s.peer p with state := .heard, lastFrame := some s.clock.time, silence := some (16 * s.sw3.silenceLimit) }

/-- The peer table and the watch unit once a PUNCH frame's number is taken (R130, R132). -/
theorem tracked_hear (hsized : s.peers.entries.length = 16) (f : PunchFrame) :
    let t := (s.hear f.source).trackPunch f.source f.seq
    let g := (s.peer f.source).ahead f.seq
    t.peers.entries.length = 16 ∧
      t.peer f.source = (s.heardEntry f.source).tracked f.seq ∧ (∀ q, q ≠ f.source → t.peer q = s.peer q) ∧
      t.peers.isolated = s.peers.isolated ∧
      t.peers.deadline = (if 1 ≤ g ∧ g ≤ 127 then doubtDeadline s else s.peers.deadline) ∧
      t.watch = (if 1 ≤ g ∧ g ≤ 127 then doubtQueue s s.watch .punchGap (some f.source) else s.watch) := by
  intro t g
  obtain ⟨hentry, hothers, -⟩ := heard_hear hsized f.source
  have hg : ((s.hear f.source).peer f.source).ahead f.seq = g := by rw [hentry]; rfl
  have hlen : (s.hear f.source).peers.entries.length = 16 := (modAt_length ..).trans hsized
  have hpeer (q : Station) := (s.hear f.source).peer_modPeer f.source q (fun x => x.tracked f.seq) hlen
  have hown : ((s.hear f.source).modPeer f.source fun x => x.tracked f.seq).peer f.source = (s.heardEntry f.source).tracked f.seq := by
    refine (hpeer f.source).trans ((if_pos rfl).trans ?_)
    rw [hentry]
    rfl
  have hrest (q : Station) (hq : q ≠ f.source) :
      ((s.hear f.source).modPeer f.source fun x => x.tracked f.seq).peer q = s.peer q :=
    (hpeer q).trans ((if_neg hq).trans (hothers q hq))
  have htracked : t = if 1 ≤ g ∧ g ≤ 127 then
        ((s.hear f.source).modPeer f.source fun x => x.tracked f.seq).openDoubt .punchGap (some f.source)
      else (s.hear f.source).modPeer f.source fun x => x.tracked f.seq := by
    rw [← hg]
    exact trackPunch_eq ..
  by_cases hgap : 1 ≤ g ∧ g ≤ 127
  · rw [if_pos hgap, State.openDoubt_eq] at htracked
    rw [htracked, if_pos hgap, if_pos hgap]
    exact ⟨(modAt_length ..).trans hlen, hown, hrest, rfl, rfl, rfl⟩
  · rw [if_neg hgap] at htracked
    rw [htracked, if_neg hgap, if_neg hgap]
    exact ⟨(modAt_length ..).trans hlen, hown, hrest, rfl, rfl, rfl⟩

theorem doubtQueue_rules (s : State) (w : WatchUnit) (c : DoubtCause) (p : Option Station) : (doubtQueue s w c p).rules = w.rules := by
  unfold doubtQueue
  split
  · rfl
  · rw [queue_kept]

/-- The number of a PUNCH frame hands no event and arms no rule. -/
theorem trackPunch_watch (s : State) (p : Station) (seq : BitVec 8) :
    (s.trackPunch p seq).watch.rules = s.watch.rules ∧ (s.trackPunch p seq).watch.handed = s.watch.handed := by
  refine ⟨?_, s.trackPunch_handed p seq⟩
  rw [trackPunch_eq]
  split
  · rw [State.openDoubt_eq]
    exact doubtQueue_rules ..
  · rfl

/-- The presence of a PUNCH frame in the peer table (R11, R12). -/
theorem presence_peers (hsized : s.peers.entries.length = 16) (b : Nat) (dir : Direction) (time : Nat) (p : Station) :
    let t := s.applyPresence b dir time (some p)
    let stale : Bool := match s.lookup b with
      | none => false
      | some e => decide (time < e.presence.time)
    t.peer p =
      { s.peer p with
        stale := if stale then min 255 ((s.peer p).stale + 1) else (s.peer p).stale
        stranger := if s.lookup b = none then min 255 ((s.peer p).stranger + 1) else (s.peer p).stranger } ∧
      (∀ q, q ≠ p → t.peer q = s.peer q) ∧ t.peers = { s.peers with entries := t.peers.entries } := by
  intro t stale
  have hpeer (q : Station) (f : PeerEntry → PeerEntry) := s.peer_modPeer p q f hsized
  rcases Option.eq_none_or_eq_some (s.lookup b) with hb | ⟨e, he⟩
  · have ht : t = s.modPeer p fun e => { e with stranger := satAdd max8 e.stranger 1 } := applyPresence_strange hb ..
    have hstale : stale = false := by simp only [stale, hb]
    rw [ht, hstale, hb]
    exact ⟨(hpeer ..).trans (if_pos rfl), fun q hq => (hpeer ..).trans (if_neg hq), rfl⟩
  · by_cases hlt : time < e.presence.time
    · have ht : t = s.modPeer p fun e => { e with stale := satAdd max8 e.stale 1 } := applyPresence_stale he _ hlt _
      have hstale : stale = true := by simp only [stale, he]; exact decide_eq_true hlt
      rw [ht, hstale, he]
      exact ⟨(hpeer ..).trans (if_pos rfl), fun q hq => (hpeer ..).trans (if_neg hq), rfl⟩
    · have ht := applyPresence_found he dir (not_lt.1 hlt) (some p)
      have hstale : stale = false := by simp only [stale, he]; exact decide_eq_false hlt
      rw [show t = _ from ht, hstale, he]
      exact ⟨rfl, fun q _ => rfl, rfl⟩

/-- What a PUNCH frame leaves of the badge table, the pay unit and the watch unit (R10, R55, R132). -/
theorem punchHanded_spec (s : State) (f : PunchFrame) :
    let t := s.punchHanded f
    t = { s with badges := t.badges, pay := t.pay, peers := t.peers, watch := t.watch, port := t.port } ∧
      t.watch.rules = s.watch.rules ∧ t.watch.handed = s.watch.handed ∧
      t.watch = ((s.hear f.source).trackPunch f.source f.seq).watch ∧
      PresenceTaken s t f.badge.toNat (punchDirection f) f.time.toNat f.source false ∧ PayHanded s t f.badge.toNat (punchPay f) := by
  intro t
  obtain ⟨hrules, hhanded⟩ := trackPunch_watch (s.hear f.source) f.source f.seq
  have honly : (s.hear f.source).trackPunch f.source f.seq = { s with
      peers := ((s.hear f.source).trackPunch f.source f.seq).peers
      watch := ((s.hear f.source).trackPunch f.source f.seq).watch } := trackPunch_only (s.hear f.source) f.source f.seq
  have ht : t = s.punchHanded f := rfl
  clear_value t
  unfold State.punchHanded at ht
  generalize (s.hear f.source).trackPunch f.source f.seq = x at honly hrules hhanded ht ⊢
  generalize x.peers = peers at honly
  generalize x.watch = watch at honly hrules hhanded
  subst honly
  have honly := applyPresence_only { s with peers := peers, watch := watch } f.badge.toNat (punchDirection f) f.time.toNat
    (some f.source)
  have hpresence := applyPresence_spec { s with peers := peers, watch := watch } f.badge.toNat (punchDirection f)
    f.time.toNat (some f.source)
  have hslot := applyPresence_slot { s with peers := peers, watch := watch } f.badge.toNat (punchDirection f)
    f.time.toNat (some f.source) f.badge.toNat
  generalize ({ s with peers := peers, watch := watch } : State).applyPresence f.badge.toNat (punchDirection f)
    f.time.toNat (some f.source) = y at honly hpresence hslot ht
  generalize y.badges = badges at honly
  generalize y.peers = peers' at honly
  subst honly
  have honly := handPay_only { s with badges := badges, peers := peers', watch := watch } f.badge.toNat (punchPay f)
  have hpaid := payHanded_handPay (s := s) hslot (punchPay f)
  rw [show t = _ from ht]
  generalize ({ s with badges := badges, peers := peers', watch := watch } : State).handPay f.badge.toNat (punchPay f) = z
    at honly hpaid ⊢
  generalize z.pay = pay at honly
  generalize z.port = port at honly
  subst honly
  exact ⟨rfl, hrules, hhanded, rfl, hpresence, hpaid⟩

/-- A PUNCH frame from a peer with no event waiting and no rule armed. -/
theorem exec_punch_calm (h : s.served) (hcalm : s.calm) (hl : s.line.sending = none) {f : PunchFrame}
    (hpeer : f.source ≠ s.ownStation) (hlow : 1 ≤ f.badge.toNat) (hhigh : f.badge.toNat ≤ 16777214) :
    exec (.punch f) s = .next (s.punchHanded f) := by
  obtain ⟨-, hrules, hhanded, -⟩ := punchHanded_spec s f
  rw [exec_punch_taken h hl hpeer hlow hhigh]
  refine congrArg Host.Outcome.next ((State.settleEvents_entered (s := s.punchHanded f) (events := [s.peerEvent f]) ?_ ?_).trans ?_)
  · exact fun r => hrules ▸ hcalm.2 r
  · rw [hhanded, hcalm.1]
    show 0 + 1 ≤ 32
    decide
  · unfold State.entered
    rw [hhanded, hcalm.1]
    show ({ s.punchHanded f with watch := { (s.punchHanded f).watch with handed := [] } } : State) = _
    rw [← hcalm.1, ← hhanded]

/-- Settles O46. -/
theorem payPairing : Obligations.PayPairing := by
  unfold Obligations.PayPairing
  intro f b k r s h hcalm hl hpeer hb hlow hhigh hk hr
  obtain ⟨-, -, -, -, -, -, hpaid⟩ := punchHanded_spec s f
  refine ⟨_, exec_punch_calm h hcalm hl hpeer hlow hhigh, ?_⟩
  rw [← punchDirection_eq]
  exact hpaid b k r hb hk hr

/-- The peer table after a PUNCH frame (R11, R12, R130, R132). -/
theorem punchHanded_peers (hsized : s.peers.entries.length = 16) (f : PunchFrame) :
    let t := s.punchHanded f
    let e := s.heardEntry f.source
    let g := (s.peer f.source).ahead f.seq
    let stale : Bool := match s.lookup f.badge.toNat with
      | none => false
      | some b => decide (f.time.toNat < b.presence.time)
    t.peer f.source =
      { e.tracked f.seq with
        stale := if stale then min 255 (e.stale + 1) else e.stale
        stranger := if s.lookup f.badge.toNat = none then min 255 (e.stranger + 1) else e.stranger } ∧
      (∀ q, q ≠ f.source → t.peer q = s.peer q) ∧ t.peers.isolated = s.peers.isolated ∧
      t.peers.deadline = (if 1 ≤ g ∧ g ≤ 127 then doubtDeadline s else s.peers.deadline) := by
  intro t e g stale
  obtain ⟨hlen, hentry, hothers, hisolated, hdeadline, -⟩ := tracked_hear hsized f
  have honly := trackPunch_only (s.hear f.source) f.source f.seq
  have ht : t = s.punchHanded f := rfl
  clear_value t
  unfold State.punchHanded at ht
  generalize (s.hear f.source).trackPunch f.source f.seq = x at hlen hentry hothers hisolated hdeadline honly ht
  obtain ⟨hpeer, hrest, hpeers⟩ := presence_peers (s := x) hlen f.badge.toNat (punchDirection f) f.time.toNat f.source
  have hlookup : x.lookup f.badge.toNat = s.lookup f.badge.toNat := by rw [honly]; rfl
  have hkept : t.peers = (x.applyPresence f.badge.toNat (punchDirection f) f.time.toNat (some f.source)).peers := by
    rw [ht, handPay_only]
  have hsame (q : Station) : t.peer q = (x.applyPresence f.badge.toNat (punchDirection f) f.time.toNat (some f.source)).peer q :=
    congrArg (fun p : PeerTable => p.entries.getD q.val .reset) hkept
  refine ⟨?_, fun q hq => ?_, ?_, ?_⟩
  · rw [hsame, hpeer, hentry, hlookup]
    rfl
  · rw [hsame, hrest q hq, hothers q hq]
  · rw [hkept, hpeers]
    exact hisolated
  · rw [hkept, hpeers]
    exact hdeadline

/-! ## A PUNCH frame with rules armed -/

theorem disarmed_lookup (s : State) (n : Nat) : (disarmed s).lookup n = s.lookup n := rfl

theorem disarmed_queue (w : WatchUnit) (i : Incident) (f : PerRule Rule → PerRule Rule) :
    ({ w with rules := f w.rules } : WatchUnit).queue i = { w.queue i with rules := f (w.queue i).rules } := by
  unfold WatchUnit.queue
  split <;> rfl

theorem payPunch_disarmed (s : State) (k : Nat) (cls : Fin 8) (p : PayPunch) :
    (disarmed s).payPunch k cls p = disarmed (s.payPunch k cls p) := by
  have hrolled : (disarmed s).earlyRoll = disarmed s.earlyRoll := by
    rw [earlyRoll_eq, earlyRoll_eq]
    rfl
  unfold State.payPunch
  rw [hrolled]
  dsimp only
  rw [apply_ite disarmed, apply_ite disarmed, apply_ite disarmed]
  rfl

/-- A PUNCH frame handed on does not look at the rules. -/
theorem punchHanded_disarmed (s : State) (f : PunchFrame) : (disarmed s).punchHanded f = disarmed (s.punchHanded f) := by
  have hheard (s : State) (p : Station) : (disarmed s).hear p = disarmed (s.hear p) := rfl
  have hdoubt (s : State) (c : DoubtCause) (p : Option Station) : (disarmed s).openDoubt c p = disarmed (s.openDoubt c p) := by
    have hqueue : doubtQueue (disarmed s) (disarmed s).watch c p =
        { doubtQueue s s.watch c p with rules := (doubtQueue s s.watch c p).rules.map fun r => { r with armed := false } } := by
      by_cases hopen : s.clock.time < s.peers.deadline ∨ s.peers.isolated = true
      · have hstands : doubtQueue s s.watch c p = s.watch := if_pos hopen
        rw [hstands]
        exact if_pos hopen
      · unfold doubtQueue
        rw [if_neg hopen]
        exact (if_neg hopen).trans (disarmed_queue s.watch _ _)
    rw [State.openDoubt_eq, State.openDoubt_eq, hqueue]
    rfl
  have htracked (s : State) (p : Station) (seq : BitVec 8) : (disarmed s).trackPunch p seq = disarmed (s.trackPunch p seq) := by
    rw [trackPunch_eq, trackPunch_eq]
    rw [apply_ite disarmed]
    exact if_congr Iff.rfl (hdoubt (s.modPeer p fun x => x.tracked seq) ..) rfl
  have hpresent (s : State) (b : Nat) (dir : Direction) (time : Nat) (p : Option Station) :
      (disarmed s).applyPresence b dir time p = disarmed (s.applyPresence b dir time p) := by
    rcases Option.eq_none_or_eq_some (s.lookup b) with hb | ⟨e, he⟩
    · rw [applyPresence_strange hb, applyPresence_strange (s := disarmed s) hb]
      cases p <;> rfl
    · by_cases ht : time < e.presence.time
      · rw [applyPresence_stale he dir ht, applyPresence_stale (s := disarmed s) he dir ht]
        cases p <;> rfl
      · rw [applyPresence_found he dir (not_lt.1 ht), applyPresence_found (s := disarmed s) he dir (not_lt.1 ht)]
        rfl
  have hpaid (s : State) (b : Nat) (p : PayPunch) : (disarmed s).handPay b p = disarmed (s.handPay b p) := by
    by_cases hb : ∃ e k, s.lookup b = some e ∧ e.paySlot = some k
    · obtain ⟨e, k, he, hk⟩ := hb
      rw [handPay_some he hk, handPay_some (s := disarmed s) he hk]
      exact payPunch_disarmed ..
    · have hnone (e : BadgeEntry) (he : s.lookup b = some e) : e.paySlot = none :=
        Option.eq_none_iff_forall_ne_some.2 fun k hk => hb ⟨e, k, he, hk⟩
      rw [handPay_none hnone, handPay_none (s := disarmed s) hnone]
  unfold State.punchHanded
  rw [hheard, htracked, hpresent, hpaid]

/-- Settles O45. -/
theorem punchFrameTaken : Obligations.PunchFrameTaken := by
  unfold Obligations.PunchFrameTaken
  refine ⟨fun f s h hcalm hsized hl hpeer hlow hhigh => ?_, fun f s h hnone hl hpeer hlow hhigh => ?_⟩
  · intro e n dir gap stale
    obtain ⟨honly, -, -, hwatch, hpresence, hpay, -⟩ := punchHanded_spec s f
    obtain ⟨hentry, hothers, hisolated, hdeadline⟩ := punchHanded_peers hsized.2.2.2.1 f
    obtain ⟨-, -, -, -, -, hqueue⟩ := tracked_hear hsized.2.2.2.1 f
    have hdir : dir = punchDirection f := (punchDirection_eq f).symm
    refine ⟨_, exec_punch_calm h hcalm hl hpeer hlow hhigh, honly, hentry, hothers, hisolated, hdeadline, hwatch.trans hqueue,
      hdir ▸ hpresence, hpay⟩
  · intro event
    obtain ⟨honly, hrules, hhanded, -⟩ := punchHanded_spec s f
    refine ⟨s.punchHanded f, ?_, hrules, ?_⟩
    · rw [← punchHanded_disarmed]
      refine exec_punch_calm (s := disarmed s) h ⟨hnone, fun r => ?_⟩ hl hpeer hlow hhigh
      cases r <;> rfl
    · have hserving : (s.punchHanded f).station.serving = true := by rw [honly]; exact h.2
      have hpopped : (((s.punchHanded f).hand (s.peerEvent f)).modWatch fun w => { w with handed := [] }) = s.punchHanded f := by
        show ({ s.punchHanded f with watch := { (s.punchHanded f).watch with handed := [] } } : State) = _
        rw [← hnone, ← hhanded]
      have hcons : ((s.punchHanded f).hand (s.peerEvent f)).watch.handed = [s.peerEvent f] := by
        show (s.punchHanded f).watch.handed ++ [s.peerEvent f] = _
        rw [hhanded, hnone]
        rfl
      rw [exec_punch_taken h hl hpeer hlow hhigh, settleEvents_cons hcons (by decide), hpopped, takeEvent_eq, if_pos hserving]
      rfl

end

end Sys2Proof.Machine
end

section
/-! SUPPORT. The CLOCK detections (R77, R78) and a second of plant time (R76, R77, R81). -/

namespace Sys2Proof.Machine

section
variable {s : State}

/-! ## The CLOCK detections -/

/-- A CLOCK detection taken with the marks of the clock changed. -/
theorem clockDetected (s : State) (endMark : Bool) (endFrom : Nat) (degraded : Bool) (oscFrom : Nat) (cause : FaultCause) :
    let c : Clock := { s.clock with endMark, endFrom, degraded, oscFrom }
    let t := ({ s with clock := c } : State).detectClock cause
    (StationDetected s t s.faults.clock t.faults.clock s.sw5.clock .clock .clock cause ∧
      t.faults = { s.faults with clock := t.faults.clock } ∧
      t = { s with lanes := t.lanes, clock := t.clock, bell := t.bell, watch := t.watch, faults := t.faults, control := t.control }) ∧
      t.clock = c := by
  intro c t
  obtain ⟨honly, hfaults, hdetected⟩ := detectClock_spec { s with clock := c } cause
  have hclock : t.clock = c := (congrArg State.clock honly).trans rfl
  refine ⟨⟨hdetected, hfaults, ?_⟩, hclock⟩
  rw [hclock]
  exact honly

/-- Settles O37. -/
theorem clockFaults : Obligations.ClockFaults := by
  unfold Obligations.ClockFaults
  intro s hr detected
  have htaken (act : State → State) : s.event act = act s := s.event_taken act hr
  refine ⟨fun ht hm => ?_, fun h => ?_, fun hm => ?_, fun hm => ?_, fun hd hs => ?_, fun h => ?_, fun hd hs => ?_, fun h => ?_⟩
  · obtain ⟨hdetected, hclock⟩ := clockDetected s true s.clock.realTime s.clock.degraded s.clock.oscFrom .endOfTime
    exact ⟨_, congrArg Host.Outcome.next ((htaken _).trans (if_pos ⟨ht, hm⟩)), hdetected, hclock⟩
  · refine congrArg Host.Outcome.next ((htaken _).trans (if_neg ?_))
    rintro ⟨ht, hm⟩
    exact h.elim (fun hn => hn ht) fun hy => Bool.noConfusion (hy.symm.trans hm)
  · obtain ⟨hdetected, hclock⟩ := clockDetected s s.clock.endMark s.clock.endFrom s.clock.degraded s.clock.oscFrom .endOfTime
    exact ⟨_, congrArg Host.Outcome.next ((htaken _).trans (if_pos hm)), hdetected, hclock⟩
  · exact congrArg Host.Outcome.next ((htaken _).trans (if_neg (Bool.eq_false_iff.1 hm)))
  · obtain ⟨hdetected, hclock⟩ := clockDetected s s.clock.endMark s.clock.endFrom true s.clock.realTime .osc
    refine ⟨_, congrArg Host.Outcome.next ((htaken _).trans (if_neg ?_)), hdetected, hclock⟩
    exact fun h => h.elim hs fun hy => Bool.noConfusion (hy.symm.trans hd)
  · exact congrArg Host.Outcome.next ((htaken _).trans (if_pos h.symm))
  · obtain ⟨hdetected, hclock⟩ := clockDetected s s.clock.endMark s.clock.endFrom s.clock.degraded s.clock.oscFrom .osc
    exact ⟨_, congrArg Host.Outcome.next ((htaken _).trans (if_pos ⟨hd, hs⟩)), hdetected, hclock⟩
  · refine congrArg Host.Outcome.next ((htaken _).trans (if_neg ?_))
    rintro ⟨hd, hs⟩
    exact h.elim (fun hn => Bool.noConfusion (hn.symm.trans hd)) hs

/-! ## The timers -/

/-- A running timer with a number of sixteenths less left. -/
def runDown (n : Nat) (t : Option Nat) : Option Nat := t.map (· - n)

/-- A lane's timers run down. -/
def LaneUnit.ranDown (n : Nat) (u : LaneUnit) : LaneUnit :=
  { u with
    releaseTimer := runDown n u.releaseTimer
    heldOpen := runDown n u.heldOpen
    aux := { u.aux with timer := runDown n u.aux.timer }
    sense := { u.sense with timer := runDown n u.sense.timer }
    senseCheck := runDown n u.senseCheck
    evacRead := u.evacRead.map fun r => { r with left := r.left - n } }

/-- The watch windows run down. -/
def Rule.ranDown (n : Nat) (r : Rule) : Rule := { r with first := r.first.map fun f => { f with left := f.left - n } }

/-- Every real-time timer run down by a number of sixteenths (R76). -/
def State.ranDown (s : State) (n : Nat) : State :=
  { s with
    lanes := s.lanes.map (LaneUnit.ranDown n)
    line := { s.line with clashTimer := runDown n s.line.clashTimer, beaconTimer := runDown n s.line.beaconTimer }
    control := { s.control with contactTimer := runDown n s.control.contactTimer, joinTimer := runDown n s.control.joinTimer }
    supply := { s.supply with failing := runDown n s.supply.failing, returning := runDown n s.supply.returning }
    peers := { s.peers with entries := s.peers.entries.map fun e => { e with silence := runDown n e.silence } }
    bell := { s.bell with arbiter := s.bell.arbiter.map fun x => { x with left := x.left - n } }
    watch := if s.station.serving then { s.watch with rules := s.watch.rules.map (Rule.ranDown n) } else s.watch }

theorem countTimers_eq (s : State) : s.countTimers = s.ranDown 1 := rfl

theorem runDown_zero (t : Option Nat) : runDown 0 t = t := by
  cases t <;> rfl

theorem runDown_runDown (n m : Nat) (t : Option Nat) : runDown m (runDown n t) = runDown (n + m) t := by
  cases t with
  | none => rfl
  | some x => exact congrArg some (Nat.sub_sub ..)

theorem ranDown_zero (s : State) : s.ranDown 0 = s := by
  have hlane (u : LaneUnit) : u.ranDown 0 = u := by
    obtain ⟨⟩ := u
    simp [LaneUnit.ranDown, runDown_zero]
  have hrule (r : Rule) : r.ranDown 0 = r := by
    obtain ⟨⟩ := r
    simp [Rule.ranDown]
  have hlanes (p : PerLane LaneUnit) : p.map (LaneUnit.ranDown 0) = p := by
    obtain ⟨⟩ := p
    simp [PerLane.map, hlane]
  have hrules (p : PerRule Rule) : p.map (Rule.ranDown 0) = p := by
    obtain ⟨⟩ := p
    simp [PerRule.map, hrule]
  simp only [State.ranDown, hlanes, hrules, runDown_zero, Nat.sub_zero, ite_self, List.map_id', Option.map_id']

theorem ranDown_ranDown (s : State) (n m : Nat) : (s.ranDown n).ranDown m = s.ranDown (n + m) := by
  have hlane (u : LaneUnit) : (u.ranDown n).ranDown m = u.ranDown (n + m) := by
    simp only [LaneUnit.ranDown, runDown_runDown, Option.map_map, Function.comp_def, Nat.sub_sub]
  have hrule (r : Rule) : (r.ranDown n).ranDown m = r.ranDown (n + m) := by
    simp only [Rule.ranDown, Option.map_map, Function.comp_def, Nat.sub_sub]
  have hlanes (p : PerLane LaneUnit) : (p.map (LaneUnit.ranDown n)).map (LaneUnit.ranDown m) = p.map (LaneUnit.ranDown (n + m)) := by
    simp only [PerLane.map, hlane]
  have hrules (p : PerRule Rule) : (p.map (Rule.ranDown n)).map (Rule.ranDown m) = p.map (Rule.ranDown (n + m)) := by
    simp only [PerRule.map, hrule]
  have hwatch : ((s.ranDown n).ranDown m).watch = (s.ranDown (n + m)).watch := by
    show (if s.station.serving then { (s.ranDown n).watch with rules := (s.ranDown n).watch.rules.map (Rule.ranDown m) }
      else (s.ranDown n).watch) = if s.station.serving then _ else _
    have hn : (s.ranDown n).watch = if s.station.serving then { s.watch with rules := s.watch.rules.map (Rule.ranDown n) }
      else s.watch := rfl
    by_cases hs : s.station.serving = true
    · rw [if_pos hs, if_pos hs, hn, if_pos hs, ← hrules]
    · rw [if_neg hs, if_neg hs, hn, if_neg hs]
  have hblocks : (s.ranDown n).ranDown m = { s.ranDown (n + m) with watch := ((s.ranDown n).ranDown m).watch } := by
    simp only [State.ranDown, hlanes, runDown_runDown, Option.map_map, Function.comp_def, List.map_map, Nat.sub_sub]
  rw [hblocks, hwatch]

/-! ## Counting a second -/

/-- The clock before the last sixteenth of a second, a number of sixteenths counted (R76, R77). -/
def Clock.counted (c : Clock) (k : Nat) : Clock :=
  { c with
    time := if c.endMark = true ∨ 4294967295 ≤ c.time then c.time else min 4294967295 (c.time + k)
    sixteenth := c.sixteenth + k
    realTime := c.realTime + k }

theorem Clock.counted_zero (c : Clock) : c.counted 0 = c := by
  unfold Clock.counted
  have htime : (if c.endMark = true ∨ 4294967295 ≤ c.time then c.time else min 4294967295 (c.time + 0)) = c.time := by
    split <;> omega
  rw [htime]
  rfl

theorem Clock.count_counted (c : Clock) {k : Nat} (h : c.sixteenth + k < 15) : (c.counted k).count = c.counted (k + 1) := by
  have hcount : (c.counted k).count = { c.counted k with
      time := (c.counted k).time + (if (c.counted k).endMark = true ∨ endOfRange ≤ (c.counted k).time then 0 else 1)
      sixteenth := (c.counted k).sixteenth + 1
      realTime := (c.counted k).realTime + 1 } := if_pos h
  have htime : (c.counted k).time + (if (c.counted k).endMark = true ∨ endOfRange ≤ (c.counted k).time then 0 else 1) =
      (c.counted (k + 1)).time := by
    unfold Clock.counted endOfRange
    dsimp only
    by_cases hend : c.endMark = true ∨ 4294967295 ≤ c.time
    · rw [if_pos hend, if_pos hend, if_pos hend]
      rfl
    · obtain ⟨hm, ht⟩ := not_or.1 hend
      rw [if_neg hend, if_neg hend]
      by_cases hx : 4294967295 ≤ min 4294967295 (c.time + k)
      · rw [if_pos (.inr hx)]
        omega
      · rw [if_neg (not_or.2 ⟨hm, hx⟩)]
        omega
  rw [hcount, htime]
  rfl

theorem sixteenthTimes_succ (s : State) (n : Nat) : s.sixteenthTimes (n + 1) = (s.sixteenthTimes n).sixteenth := by
  induction n generalizing s with
  | zero => rfl
  | succ n ih => exact ih s.sixteenth

/-- The sixteenths of a second before its last one. -/
theorem sixteenthTimes_counted (s : State) {k : Nat} (h : s.clock.sixteenth + k ≤ 15) :
    s.sixteenthTimes k = { s.ranDown k with clock := s.clock.counted k } := by
  induction k with
  | zero =>
    rw [ranDown_zero, Clock.counted_zero]
    rfl
  | succ k ih =>
    rw [sixteenthTimes_succ, ih (by omega)]
    have hstep : ({ s.ranDown k with clock := s.clock.counted k } : State).sixteenth =
        { (s.ranDown k).ranDown 1 with clock := (s.clock.counted k).count } := if_pos (by exact h)
    rw [hstep, ranDown_ranDown, Clock.count_counted _ (by omega)]

theorem correctOffsets_zero (s : State) : s.correctOffsets 0 = s := by
  simp only [State.correctOffsets, State.modPeers, sub_zero, Option.map_id', List.map_id']

/-- The last sixteenth of a second, with its slew tick (R76). -/
theorem sixteenth_last (h : s.clock.sixteenth = 15) :
    s.sixteenth = ({ s.ranDown 1 with clock := s.clock.count } : State).correctOffsets s.clock.slewTick := by
  have hlast : s.sixteenth = if s.clock.slewTick = 0 then ({ s.ranDown 1 with clock := s.clock.count } : State)
      else ({ s.ranDown 1 with clock := s.clock.count } : State).correctOffsets s.clock.slewTick :=
    if_neg (by rw [h]; decide)
  rw [hlast]
  by_cases hz : s.clock.slewTick = 0
  · rw [if_pos hz, hz, correctOffsets_zero]
  · rw [if_neg hz]

/-- The clock with the last sixteenth of a second counted. -/
theorem Clock.count_last (c : Clock) (h : c.sixteenth = 15) :
    c.count = { c with
      time := ((c.time : Int) + (if c.endMark = true ∨ endOfRange ≤ c.time then 0 else 1) + c.slewTick).toNat
      remainder := c.remainder - c.slewTick
      sixteenth := 0
      realTime := c.realTime + 1 } := by
  refine (if_neg (by rw [h]; decide)).trans ?_
  split <;> rfl

/-- The clock before the last sixteenth of the running second. -/
def Clock.beforeLast (c : Clock) : Clock := ({ c with countedFrom := c.time } : Clock).counted (15 - c.sixteenth)

/-- The rest of the running second counted (R76). -/
theorem countSecond_eq (h : s.clock.sixteenth ≤ 15) : s.countSecond =
    ({ s.ranDown (16 - s.clock.sixteenth) with clock := s.clock.beforeLast.count } : State).correctOffsets s.clock.beforeLast.slewTick := by
  have hn : 16 - s.clock.sixteenth = (15 - s.clock.sixteenth) + 1 := by omega
  have hfull : s.clock.sixteenth + (15 - s.clock.sixteenth) = 15 := by omega
  have hcounted : s.countSecond = ((s.modClock fun c => { c with countedFrom := c.time }).sixteenthTimes
      (15 - s.clock.sixteenth)).sixteenth :=
    (congrArg (State.sixteenthTimes _) hn).trans (sixteenthTimes_succ ..)
  rw [hcounted, sixteenthTimes_counted (s.modClock fun c => { c with countedFrom := c.time }) hfull.le]
  refine (sixteenth_last hfull).trans ?_
  refine (congrArg (fun x : State => ({ x with clock := s.clock.beforeLast.count } : State).correctOffsets s.clock.beforeLast.slewTick)
    (ranDown_ranDown (s.modClock fun c => { c with countedFrom := c.time }) (15 - s.clock.sixteenth) 1)).trans ?_
  rw [← hn]
  rfl

/-- Settles O36. -/
theorem clockSecond : Obligations.ClockSecond := by
  unfold Obligations.ClockSecond
  intro s hr hsix n last counts slew timers
  have hsixteenth : s.clock.beforeLast.sixteenth = 15 := Nat.add_sub_cancel' hsix
  have hreal : s.clock.beforeLast.realTime + 1 = s.clock.realTime + n := by
    show s.clock.realTime + (15 - s.clock.sixteenth) + 1 = s.clock.realTime + (16 - s.clock.sixteenth)
    omega
  have htime : s.clock.beforeLast.time = last := by
    show (if s.clock.endMark = true ∨ 4294967295 ≤ s.clock.time then s.clock.time
      else min 4294967295 (s.clock.time + (15 - s.clock.sixteenth))) = if _ then _ else min _ (_ + (16 - s.clock.sixteenth - 1))
    rw [show 16 - s.clock.sixteenth - 1 = 15 - s.clock.sixteenth by omega]
  have hcounts : (s.clock.beforeLast.endMark = true ∨ endOfRange ≤ s.clock.beforeLast.time) ↔ ¬ counts := by
    rw [htime, not_and_or, not_lt, Bool.not_eq_false]
    exact Iff.rfl
  have hslew : s.clock.beforeLast.slewTick = slew := by
    unfold Clock.slewTick
    rw [htime] at hcounts ⊢
    exact if_congr hcounts rfl rfl
  have hafter : ((last : Int) + (if s.clock.beforeLast.endMark = true ∨ endOfRange ≤ s.clock.beforeLast.time then 0 else 1) + slew).toNat =
      if counts then (((last + 1 : Nat) : Int) + slew).toNat else last := by
    by_cases hc : counts
    · rw [if_neg (not_not.2 hc ∘ hcounts.1), if_pos hc]
      rfl
    · have hnone : slew = 0 := if_pos hc
      rw [if_pos (hcounts.2 hc), if_neg hc, hnone]
      simp
  have hclock : s.clock.beforeLast.count =
      { s.clock with
        time := if counts then (((last + 1 : Nat) : Int) + slew).toNat else last
        remainder := s.clock.remainder - slew
        sixteenth := 0
        realTime := s.clock.realTime + n
        countedFrom := s.clock.time } := by
    rw [Clock.count_last _ hsixteenth, hslew, hreal, ← hafter, ← htime]
    rfl
  refine congrArg Host.Outcome.next ((s.event_taken _ hr).trans ((countSecond_eq hsix).trans ?_))
  rw [hclock, hslew]
  unfold State.correctOffsets State.modPeers State.ranDown
  dsimp only
  rw [List.map_map]
  rfl

end

end Sys2Proof.Machine
end

section
/-! SUPPORT. Entry into EVACUATE (R41, R162) and what brings it (R161, R163, R164, R166). -/

namespace Sys2Proof.Machine

/-! ## A step that hands events, taken by every lane in turn -/

/-- A step that changes the lane it is taken on and hands events of it, taken on every lane in turn. -/
theorem foldl_lanes_handing {op : State → Lane → State} {g : LaneUnit → LaneUnit} {ev : Lane → LaneUnit → List LaneEvent} (s : State)
    (hop : ∀ (p : PerLane LaneUnit) (es : List LaneEvent) (l : Lane),
      op { s with lanes := p, watch := { s.watch with handed := es } } l =
        { s with lanes := p.set l (g (p.get l)), watch := { s.watch with handed := es ++ ev l (p.get l) } }) :
    Lane.all.foldl op s =
      { s with
        lanes := s.lanes.map g
        watch := { s.watch with handed := s.watch.handed ++ Lane.all.flatMap fun l => ev l (s.lane l) } } := by
  show op (op (op (op { s with lanes := s.lanes, watch := { s.watch with handed := s.watch.handed } } .lane1) .lane2) .lane3) .lane4 = _
  rw [hop, hop, hop, hop]
  simp only [Lane.all, List.flatMap_cons, List.flatMap_nil, List.append_nil, List.append_assoc]
  rfl

section
variable {s : State} {l : Lane}

/-- A lane taken into EVACUATE, before its strike follows (R41). -/
def LaneUnit.evacuated (u : LaneUnit) : LaneUnit :=
  if u.kind = .off then u
  else { u.dropped with state := if u.doorOpen then .opened else .idle, openDrive := false, heldOpen := none, evacRead := none }

/-- The UNUSED event of a lane's release. -/
def State.unusedFor (s : State) (l : Lane) (u : LaneUnit) : List LaneEvent :=
  if u.kind = .off then []
  else
    match u.release with
    | none => []
    | some p => [eventOf s .unused l (some p.badge) none (some p.readTime)]

theorem evacuateLane_eq (s : State) (p : PerLane LaneUnit) (es : List LaneEvent) (l : Lane) :
    ({ s with lanes := p, watch := { s.watch with handed := es } } : State).evacuateLane l =
      { s with
        lanes := p.set l (p.get l).evacuated
        watch := { s.watch with handed := es ++ s.unusedFor l (p.get l) } } := by
  have hset (u v : LaneUnit) : (p.set l u).set l v = p.set l v := PerLane.set_set ..
  have hget (u : LaneUnit) : (p.set l u).get l = u := PerLane.get_set_same ..
  by_cases hk : (p.get l).kind = .off
  · have hsame : p.set l (p.get l).evacuated = p := (congrArg (p.set l) (if_pos hk)).trans (PerLane.set_get ..)
    rw [hsame, State.unusedFor, if_pos hk, List.append_nil]
    exact if_pos hk
  · have hlane : (p.get l).evacuated = { (p.get l).dropped with
        state := if (p.get l).doorOpen then .opened else .idle, openDrive := false, heldOpen := none, evacRead := none } := if_neg hk
    refine (if_neg hk).trans ?_
    rw [State.dropRelease_eq, State.unusedFor, if_neg hk, hlane]
    refine (congrArg (fun q => ({ s with lanes := q, watch := _ } : State)) (hset ..)).trans ?_
    rw [hget]
    rfl

theorem evacEvents_eq (s : State) : evacEvents s = Lane.all.flatMap fun l => s.unusedFor l (s.lane l) := rfl

/-- Every strike driven in EVACUATE (R24). -/
theorem refreshDrives_evacuate (h : s.station = .evacuate) :
    s.refreshDrives = s.modLanes (PerLane.map fun u => u.driven true) := by
  refine State.foldl_modLane (g := fun _ u => u.driven true) s fun p l => ?_
  rw [State.refreshDrive_eq]
  refine congrArg ((s.modLanes fun _ => p).modLane l) (funext fun u => ?_)
  have hdrive : (s.modLanes fun _ => p).driveFor l u = true := by
    unfold State.driveFor
    rw [show (s.modLanes fun _ => p).station = .evacuate from h]
  unfold LaneUnit.driven
  by_cases hk : u.kind = .off
  · rw [if_pos hk]
    exact State.redriven_off hk hdrive
  · rw [if_neg hk]
    refine State.redriven_fitted hk ?_ hdrive
    rw [show (s.modLanes fun _ => p).station = .evacuate from h]
    nofun

/-! ## Entry into EVACUATE -/

/-- The state of an entry into EVACUATE with every lane taken there (R41, R162). -/
def State.evacuated (s : State) (reason : EvacReason) : State :=
  { s with
    lanes := s.lanes.map fun u => u.evacuated.driven true
    bell := bellTaken s (some (claimOf s .evacuation s.sw4.evacPattern none))
    line := (s.removeEvac fun f => decide (f = .allClear)).line
    watch := { s.watch.queue (evacBegin s reason) with handed := s.watch.handed ++ evacEvents s }
    control := { s.control with station := .evacuate, evacRecord := some { reason, time := s.clock.time } } }

/-- Station control in EVACUATE, an unsent ALL CLEAR removed (R117, R162). -/
def State.evacControlled (s : State) (reason : EvacReason) : State :=
  { s with
    line := (s.removeEvac fun f => decide (f = .allClear)).line
    control := { s.control with station := .evacuate, evacRecord := some { reason, time := s.clock.time } } }

theorem evacuateLanes_eq (s : State) (reason : EvacReason) :
    (Lane.all.foldl (fun s l => s.evacuateLane l) (s.evacControlled reason)).refreshDrives =
      { s.evacControlled reason with
        lanes := s.lanes.map fun u => u.evacuated.driven true
        watch := { s.watch with handed := s.watch.handed ++ evacEvents s } } := by
  have hlanes := foldl_lanes_handing (op := State.evacuateLane) (g := LaneUnit.evacuated) (ev := s.unusedFor)
    (s.evacControlled reason) fun p es l => evacuateLane_eq (s.evacControlled reason) p es l
  refine (congrArg State.refreshDrives hlanes).trans ((refreshDrives_evacuate rfl).trans ?_)
  rfl

theorem enterEvacuate_eq (s : State) (reason : EvacReason) : s.enterEvacuate reason = s.evacuated reason := by
  have hentered : s.enterEvacuate reason =
      (Lane.all.foldl (fun s l => s.evacuateLane l) (s.evacControlled reason)).refreshDrives.claimEvacuation.recordIncident
        .evacBegin (peer := reason.source) (detail := some reason.detail) := rfl
  have hincident : ({ kind := .evacBegin, time := s.clock.time, lane := none, badge := none, rule := none, peer := reason.source,
                      detail := some reason.detail } : Incident) = evacBegin s reason := by
    cases reason with
    | frame p r => cases r <;> rfl
    | input => rfl
    | watch => rfl
    | terminal => rfl
  rw [hentered, evacuateLanes_eq, claimEvacuation_eq rfl, State.recordIncident_eq]
  refine congrArg (fun w => ({ s with
    lanes := s.lanes.map fun u => u.evacuated.driven true
    bell := bellTaken s (some (claimOf s .evacuation s.sw4.evacPattern none))
    line := (s.removeEvac fun f => decide (f = .allClear)).line
    watch := w
    control := { s.control with station := .evacuate, evacRecord := some { reason, time := s.clock.time } } } : State)) ?_
  refine (queue_with_handed s.watch _ _).trans ?_
  rw [← hincident]
  rfl

/-- The lane of an entry into EVACUATE (R24, R41). -/
theorem evacuated_driven (u : LaneUnit) : u.evacuated.driven true =
    if u.kind = .off then { u with drive := true }
    else
      { u with
        state := if u.kind = .door ∧ u.aux.level = some true then .opened else .idle
        drive := true
        openDrive := false
        release := none
        releaseTimer := if u.release.isSome then none else u.releaseTimer
        heldOpen := none
        evacRead := none
        senseCheck := if u.drive then u.senseCheck else some 16 } := by
  by_cases hk : u.kind = .off
  · have hsame : u.evacuated = u := if_pos hk
    rw [if_pos hk, hsame]
    exact if_pos hk
  · have hstate : (if u.doorOpen then LaneState.opened else .idle) = if u.kind = .door ∧ u.aux.level = some true then .opened else .idle :=
      if_congr (LaneUnit.doorOpen_iff u) rfl rfl
    have hlane : u.evacuated = { u.dropped with
        state := if u.kind = .door ∧ u.aux.level = some true then .opened else .idle
        openDrive := false, heldOpen := none, evacRead := none } := by
      rw [← hstate]
      exact if_neg hk
    rw [if_neg hk, hlane]
    exact if_neg hk

theorem evacuationEntered_evacuated (s : State) (reason : EvacReason) : EvacuationEntered s (s.evacuated reason) reason := by
  refine ⟨rfl, rfl, fun l => ?_⟩
  intro u
  refine Eq.trans ?_ (evacuated_driven u)
  exact PerLane.get_map ..

theorem evacEvents_length (s : State) : (evacEvents s).length ≤ 4 := by
  have hone (l : Lane) : (if (s.lane l).kind = .off then [] else unusedOf s l).length ≤ 1 := by
    split
    · exact Nat.zero_le 1
    · exact unusedOf_length s l
  have h1 := hone .lane1
  have h2 := hone .lane2
  have h3 := hone .lane3
  have h4 := hone .lane4
  unfold evacEvents
  simp only [Lane.all, List.flatMap_cons, List.flatMap_nil, List.append_nil, List.length_append]
  omega

theorem evacEvents_own (s : State) : ∀ e ∈ evacEvents s, ∃ k, e.lane = .own k := by
  intro e he
  obtain ⟨l, -, hl⟩ := List.mem_flatMap.1 he
  split at hl
  · exact absurd hl List.not_mem_nil
  · exact unusedOf_own s l e hl

/-- An entry into EVACUATE taken whole with no rule armed. -/
theorem evacuationBegun_settled (hcalm : s.calm) {reason : EvacReason} {x : State}
    (hx : x = { s.evacuated reason with line := x.line, port := x.port, peers := x.peers }) :
    EvacuationBegun s x.settleEvents reason ∧ x.settleEvents = { x with watch := x.settleEvents.watch } := by
  generalize x.line = line at hx
  generalize x.port = port at hx
  generalize x.peers = peers at hx
  subst hx
  have hhanded : (s.watch.queue (evacBegin s reason)).handed = [] := (WatchUnit.queue_handed ..).trans hcalm.1
  have hsettled := State.settleEvents_entered
    (s := { s.evacuated reason with line := line, port := port, peers := peers, watch := s.watch.queue (evacBegin s reason) })
    (events := evacEvents s) (queue_unarmed hcalm.2 _) (by
      show (s.watch.queue (evacBegin s reason)).handed.length + _ ≤ 32
      rw [hhanded]
      exact (Nat.zero_add _).trans_le ((evacEvents_length s).trans (by decide)))
  have hsame : ({ s.evacuated reason with line := line, port := port, peers := peers } : State) =
      { s.evacuated reason with
        line := line, port := port, peers := peers
        watch := { s.watch.queue (evacBegin s reason) with
          handed := (s.watch.queue (evacBegin s reason)).handed ++ evacEvents s } } := by
    rw [WatchUnit.queue_handed]
    rfl
  rw [hsame, hsettled]
  refine ⟨⟨evacuationEntered_evacuated s reason, traced_enterAll (evacEvents_own s) (queue_kept ..) ?_⟩, rfl⟩
  show WatchUnit.enterAll _ ((s.watch.queue (evacBegin s reason)).handed ++ _) = _
  rw [hhanded]
  rfl

end

end Sys2Proof.Machine
end

section
/-! SUPPORT. A watch rule that takes an event (R144 to R150). -/

namespace Sys2Proof.Machine

section
variable {s : State} {n : RuleNo} {e : LaneEvent}

/-! ## Conditions -/

theorem badgeTest_iff (c : Condition) (b : Option Nat) : c.badgeTest b = true ↔ badgePasses c b := by
  unfold Condition.badgeTest badgePasses
  cases c.test <;> cases b <;> simp

theorem holds_iff (c : Condition) (e : LaneEvent) : c.holds e = true ↔ e.kind ∈ c.kinds ∧ e.lane ∈ c.lanes ∧ badgePasses c e.badge := by
  simp [Condition.holds, badgeTest_iff, and_assoc]

/-! ## An armed rule -/

theorem matchRule_both (h : (s.watch.rules.get n).armed = true) (hc : (s.watch.rules.get n).combine = .both) :
    s.matchRule n e = if (s.watch.rules.get n).a.holds e && (s.watch.rules.get n).b.holds e then s.occurrence n e else s := by
  refine (if_pos h).trans ?_
  rw [hc]

theorem matchRule_either (h : (s.watch.rules.get n).armed = true) (hc : (s.watch.rules.get n).combine = .either) :
    s.matchRule n e = if (s.watch.rules.get n).a.holds e || (s.watch.rules.get n).b.holds e then s.occurrence n e else s := by
  refine (if_pos h).trans ?_
  rw [hc]

/-- An event that the same-badge mark lets a sequence take (R147). -/
def Rule.badged (x : Rule) (e : LaneEvent) : Bool := !x.sameBadge || e.badge.isSome

theorem matchRule_sequence (h : (s.watch.rules.get n).armed = true) {opens closes : Condition}
    (hc : ((s.watch.rules.get n).combine = .bAfterA ∧ opens = (s.watch.rules.get n).a ∧ closes = (s.watch.rules.get n).b) ∨
      ((s.watch.rules.get n).combine = .aAfterB ∧ opens = (s.watch.rules.get n).b ∧ closes = (s.watch.rules.get n).a)) :
    s.matchRule n e = s.matchSequence n e ((s.watch.rules.get n).badged e && opens.holds e)
      ((s.watch.rules.get n).badged e && closes.holds e) := by
  refine (if_pos h).trans ?_
  rcases hc with ⟨hc, ho, hx⟩ | ⟨hc, ho, hx⟩
  · rw [hc, ho, hx]
    rfl
  · rw [hc, ho, hx]
    rfl

theorem badged_iff (x : Rule) (e : LaneEvent) : x.badged e = true ↔ (x.sameBadge = true → e.badge.isSome = true) := by
  unfold Rule.badged
  cases x.sameBadge <;> simp

/-- The state with one rule replaced. -/
def State.withRule (s : State) (n : RuleNo) (y : Rule) : State :=
  { s with watch := { s.watch with rules := s.watch.rules.set n y } }

/-- A sequence takes an event (R147). -/
theorem matchSequence_spec (s : State) (n : RuleNo) (e : LaneEvent) (a b : Bool) :
    let x := s.watch.rules.get n
    let ends : Prop := ∃ f, x.first = some f ∧ b = true ∧ (x.sameBadge = true → e.badge = f.badge)
    (ends → s.matchSequence n e a b = (s.withRule n { x with first := none }).occurrence n e) ∧
    (¬ ends → a = true → s.matchSequence n e a b =
      s.withRule n { x with first := some { time := e.time, badge := e.badge, left := 16 * x.window } }) ∧
    (¬ ends → ¬ a = true → s.matchSequence n e a b = s) := by
  intro x ends
  have hcloses : (match x.first with
      | none => false
      | some f => b && (!x.sameBadge || decide (e.badge = f.badge))) = true ↔ ends := by
    show _ ↔ ∃ f, x.first = some f ∧ _
    cases x.first with
    | none => simp
    | some f => cases x.sameBadge <;> simp
  refine ⟨fun hc => if_pos (hcloses.2 hc), fun hc ha => ?_, fun hc ha => (if_neg (mt hcloses.1 hc)).trans (if_neg ha)⟩
  refine (if_neg (mt hcloses.1 hc)).trans ((if_pos ha).trans ?_)
  rw [Nat.mul_comm]
  rfl

/-! ## An occurrence -/

/-- An unsent evac frame removed: the evac slot alone changes. -/
theorem removeEvac_line (s : State) (gone : EvacFrame → Bool) :
    (s.removeEvac gone).line = { s.line with evac := (s.removeEvac gone).line.evac } := by
  unfold State.removeEvac State.modLine
  dsimp only
  split
  · rfl
  · split <;> split <;> rfl

/-- The action of a tripped rule (R150, R163). -/
theorem watchAction_spec (s : State) (n : RuleNo) (e : LaneEvent) (a : WatchAction) : ActionTaken s (s.watchAction n e a) n e a := by
  cases a with
  | note => exact rfl
  | alarm => exact claimAlarm_spec s
  | holdLane =>
    have hheld (x : State) (hx : s.watchAction n e .holdLane = x) : ActionTaken s (s.watchAction n e .holdLane) n e .holdLane ↔
        (x = { s with lanes := x.lanes, control := x.control } ∧
          match e.lane with
          | .own l => LaneHeldBy s x l (.watch n)
          | .peer => StationHeldBy s x (.watch n)) := hx ▸ Iff.rfl
    cases he : e.lane with
    | own l =>
      have hx : s.watchAction n e .holdLane = s.addLaneReason l (.watch n) := by
        show s.watchHoldLane n e = _
        rw [State.watchHoldLane, he]
      rw [hheld _ hx, he]
      exact ⟨s.addLaneReason_only l _, laneHeldBy_addLaneReason s l _⟩
    | peer =>
      have hx : s.watchAction n e .holdLane = s.addStationReason (.watch n) := by
        show s.watchHoldLane n e = _
        rw [State.watchHoldLane, he]
      rw [hheld _ hx, he]
      exact ⟨s.addStationReason_only _, stationHeldBy_addStationReason s _⟩
  | holdStation => exact ⟨s.addStationReason_only _, stationHeldBy_addStationReason s _⟩
  | evacuate =>
    refine ⟨fun hs => ?_, fun hs => ?_, fun hs => ?_⟩
    · have hentered : s.watchEvacuate = (s.evacuated .watch).placeEvac (.clear .watch) := by
        rw [← enterEvacuate_eq]
        unfold State.watchEvacuate
        rcases hs with hx | hx <;> rw [hx]
      have hline := removeEvac_line s fun f => decide (f = .allClear)
      show EvacuationEntered s s.watchEvacuate .watch ∧ _
      rw [show s.watchAction n e .evacuate = s.watchEvacuate from rfl, hentered]
      refine ⟨evacuationEntered_evacuated s .watch, rfl, ?_, rfl⟩
      show ({ (s.removeEvac fun f => decide (f = .allClear)).line with
        evac := some { tag := (s.removeEvac fun f => decide (f = .allClear)).line.nextTag, frame := .clear .watch }
        nextTag := (s.removeEvac fun f => decide (f = .allClear)).line.nextTag + 1 } : LinePort) = _
      rw [hline]
    · show s.watchEvacuate = _
      rw [State.watchEvacuate, hs] <;> rfl
    · show s.watchEvacuate = s
      unfold State.watchEvacuate
      rcases hs with hx | hx | hx <;> rw [hx]

/-- An action leaves the rules and plant time alone. -/
theorem actionTaken_kept {u : State} {a : WatchAction} (h : ActionTaken s u n e a) :
    u.watch.rules = s.watch.rules ∧ u.clock = s.clock := by
  cases a with
  | note => rw [show u = s from h]; exact ⟨rfl, rfl⟩
  | alarm => rw [h.1]; exact ⟨rfl, rfl⟩
  | holdLane => rw [h.1]; exact ⟨rfl, rfl⟩
  | holdStation => rw [h.1]; exact ⟨rfl, rfl⟩
  | evacuate =>
    obtain ⟨hentered, hjoin, haside⟩ := h
    cases hs : s.station with
    | live =>
      obtain ⟨-, honly, -, hwatch⟩ := hentered (.inl hs)
      rw [hwatch, honly, queue_kept]
      exact ⟨rfl, rfl⟩
    | held =>
      obtain ⟨-, honly, -, hwatch⟩ := hentered (.inr hs)
      rw [hwatch, honly, queue_kept]
      exact ⟨rfl, rfl⟩
    | join => rw [hjoin hs]; exact ⟨rfl, rfl⟩
    | setup => rw [haside (.inl hs)]; exact ⟨rfl, rfl⟩
    | evacuate => rw [haside (.inr (.inl hs))]; exact ⟨rfl, rfl⟩
    | holdover => rw [haside (.inr (.inr hs))]; exact ⟨rfl, rfl⟩

/-- A trip on what its action left: WATCH recorded, the trip counted and the counter set again (R150). -/
theorem trip_eq (s : State) (n : RuleNo) (e : LaneEvent) :
    let x := s.watch.rules.get n
    let u := s.watchAction n e x.action
    s.trip n e = { u with watch := { u.watch.queue
      { kind := .watch, time := s.clock.time, lane := ownLane e.lane, badge := e.badge, rule := some n,
        peer := e.source,
        detail := some ((eventCode e.kind * 256 + (match e.reason with | some r => r.code | none => 0) : Nat) : Int) }
      with rules := s.watch.rules.set n { x with trips := min 255 (x.trips + 1), counter := x.count - 1 } } } := by
  intro x u
  obtain ⟨hrules, hclock⟩ := actionTaken_kept (watchAction_spec s n e x.action)
  have hrecorded := u.recordIncident_eq .watch (ownLane e.lane) e.badge (some n) e.source (some e.detail)
  have hqueued (i : Incident) : (u.watch.queue i).rules = s.watch.rules := by
    rw [queue_kept]
    exact hrules
  rw [congrArg Clock.time hclock] at hrecorded
  let counted (y : Rule) : Rule := { y with trips := satAdd max8 y.trips 1, counter := y.count - 1 }
  have hset (q : WatchUnit) (hq : q.rules = s.watch.rules) : ({ u with watch := q } : State).modRule n counted =
      { u with watch := { q with rules := s.watch.rules.set n (counted x) } } := by
    rw [show ({ u with watch := q } : State).modRule n counted =
      { u with watch := { q with rules := q.rules.set n (counted (q.rules.get n)) } } from rfl, hq]
  exact (congrArg (fun v : State => v.modRule n counted) hrecorded).trans (hset _ (hqueued _))

/-- An occurrence of a rule (R149, R150). -/
theorem occurrence_spec (s : State) (n : RuleNo) (e : LaneEvent) :
    let x := s.watch.rules.get n
    (0 < x.counter → s.occurrence n e = s.withRule n { x with counter := x.counter - 1 }) ∧
    (x.counter = 0 → ∃ u, ActionTaken s u n e x.action ∧
      s.occurrence n e = { u with watch := { u.watch.queue
        { kind := .watch, time := s.clock.time, lane := ownLane e.lane, badge := e.badge, rule := some n,
          peer := e.source,
          detail := some ((eventCode e.kind * 256 + (match e.reason with | some r => r.code | none => 0) : Nat) : Int) }
        with rules := s.watch.rules.set n { x with trips := min 255 (x.trips + 1), counter := x.count - 1 } } }) := by
  intro x
  refine ⟨fun hc => if_pos hc, fun hc => ⟨_, watchAction_spec s n e x.action, ?_⟩⟩
  exact (if_neg (by rw [show (s.watch.rules.get n).counter = 0 from hc]; decide)).trans (trip_eq s n e)

/-- Settles O44, by the combination of the rule's conditions; the events in order by `settleEvents_cons`. -/
theorem ruleMatches : Obligations.RuleMatches := by
  unfold Obligations.RuleMatches
  refine ⟨fun n e s => ?_, fun s hsized => ⟨State.settleEvents_nil, fun e rest hes hlen => ?_⟩⟩
  · intro x withRule holds opened
    have hheld (c : Condition) : c.holds e = true ↔ holds c := holds_iff c e
    obtain ⟨hcounted, htripped⟩ := occurrence_spec s n e
    refine ⟨fun h => State.matchRule_disarmed h e, fun h hc => ?_, fun h hc => ?_, fun opens closes h hc => ?_, hcounted, htripped⟩
    · have hboth : (x.a.holds e && x.b.holds e) = true ↔ holds x.a ∧ holds x.b := by rw [Bool.and_eq_true, hheld, hheld]
      rw [matchRule_both h hc]
      exact ⟨fun hx => if_pos (hboth.2 hx), fun hx => if_neg (mt hboth.1 hx)⟩
    · have heither : (x.a.holds e || x.b.holds e) = true ↔ holds x.a ∨ holds x.b := by rw [Bool.or_eq_true, hheld, hheld]
      rw [matchRule_either h hc]
      exact ⟨fun hx => if_pos (heither.2 hx), fun hx => if_neg (mt heither.1 hx)⟩
    · intro usable ends
      have htaken (c : Condition) : (x.badged e && c.holds e) = true ↔ usable ∧ holds c := by
        rw [Bool.and_eq_true, hheld, badged_iff]
      rw [matchRule_sequence h hc]
      obtain ⟨hends, hopens, hnone⟩ := matchSequence_spec s n e (x.badged e && opens.holds e) (x.badged e && closes.holds e)
      have hclosed : ends ↔ ∃ f, x.first = some f ∧ (x.badged e && closes.holds e) = true ∧ (x.sameBadge = true → e.badge = f.badge) := by
        simp only [htaken, and_assoc, ends]
      exact ⟨fun hx => hends (hclosed.1 hx), fun hx hu ho => hopens (mt hclosed.2 hx) ((htaken opens).2 ⟨hu, ho⟩),
        fun hx hu => hnone (mt hclosed.2 hx) (mt (htaken opens).1 hu)⟩
  · obtain ⟨-, -, -, -, htrace, hpos, -, -⟩ := hsized
    refine ⟨{ s with watch := ({ s.watch with handed := rest } : WatchUnit).enter e }, rfl,
      eventsTraced_enterAll (w := { s.watch with handed := rest }) htrace hpos [e], ?_⟩
    rw [settleEvents_cons hes hlen, takeEvent_eq]
    rfl

end

end Sys2Proof.Machine
end

section
/-! SUPPORT. EVACUATE, the evacuation contact, and the CLEAR and ALL CLEAR frames (R161 to R169). -/

namespace Sys2Proof.Machine

section
variable {s : State}

/-! ## The evac slot -/

/-- A frame placed after an entry into EVACUATE: the evac slot holds it with the next tag. -/
theorem placeEvac_entered (s : State) (reason : EvacReason) (f : EvacFrame) :
    ((s.evacuated reason).placeEvac f).line =
      { s.line with evac := some { tag := s.line.nextTag, frame := f }, nextTag := s.line.nextTag + 1 } := by
  show ({ (s.removeEvac fun f => decide (f = .allClear)).line with
    evac := some { tag := (s.removeEvac fun f => decide (f = .allClear)).line.nextTag, frame := f }
    nextTag := (s.removeEvac fun f => decide (f = .allClear)).line.nextTag + 1 } : LinePort) = _
  rw [removeEvac_line]

/-- Where nothing is being sent, the frame leaves the slot just when it is one to remove. -/
theorem removeEvac_quiet (h : s.line.sending = none) (gone : EvacFrame → Bool) :
    s.removeEvac gone = { s with line := { s.line with evac := s.line.evac.filter fun e => !gone e.frame } } := by
  obtain ⟨badges, lanes, inputs, pay, clock, bell, line⟩ := s
  obtain ⟨evac, cues, beacon, inHand, attempt, deferral, sending⟩ := line
  unfold State.removeEvac State.modLine
  dsimp only at h ⊢
  subst h
  cases evac with
  | none => rfl
  | some e => cases hg : gone e.frame <;> simp [Option.filter, hg]

theorem heard_congr {u t : State} {p : Station} (h : Heard s u p) (hpeers : t.peers = u.peers) : Heard s t p := by
  obtain ⟨hpeer, hothers, honly⟩ := h
  have hsame (q : Station) : t.peer q = u.peer q := by rw [State.peer, hpeers]; rfl
  refine ⟨(hsame p).trans hpeer, fun q hq => (hsame q).trans (hothers q hq), ?_⟩
  rw [hpeers]
  exact honly

/-! ## EVACUATE -/

theorem exec_evacuate (h : s.sends) (hc : s.portTakes .evacuate) :
    exec .evacuate s = .next ((s.load { code := 0x65 }).terminalEvacuate.answer .done) :=
  congrArg Host.Outcome.next (s.command_taken _ _ .sending _ h.1 hc h.2)

/-- Settles O23, by the station state: an entry with its CLEAR, or a fresh CLEAR alone. -/
theorem evacuateCommand : Obligations.EvacuateCommand := by
  intro s hs hc hcalm
  have hload := s.load_only { code := 0x65 }
  have hoverrun := s.load_overrun { code := 0x65 }
  have hpay := s.load_payFlag { code := 0x65 }
  refine ⟨_, s.line.nextTag, exec_evacuate hs hc, ?_⟩
  generalize s.load { code := 0x65 } = x at hload hoverrun hpay ⊢
  generalize x.port = p at hload hoverrun hpay
  subst hload
  by_cases hstate : s.station = .evacuate
  · have heffect : ({ s with port := p } : State).terminalEvacuate = ({ s with port := p } : State).placeEvac (.clear .terminal) :=
      if_pos hstate
    rw [heffect]
    exact ⟨completed_answer .done hoverrun, hpay, rfl, le_refl _, Nat.lt_succ_self _, fun h => absurd hstate h, fun _ => rfl⟩
  · have heffect : ({ s with port := p } : State).terminalEvacuate =
        (({ s with port := p } : State).evacuated .terminal |>.placeEvac (.clear .terminal)).settleEvents := by
      rw [← enterEvacuate_eq]
      exact if_neg hstate
    have hline := placeEvac_entered { s with port := p } .terminal (.clear .terminal)
    rw [heffect]
    generalize hy : (({ s with port := p } : State).evacuated .terminal).placeEvac (.clear .terminal) = y at hline ⊢
    have hentered : y = { s.evacuated .terminal with line := y.line, port := y.port, peers := y.peers } := by
      rw [← hy]
      rfl
    have honly : y = { s with lanes := y.lanes, bell := y.bell, line := y.line, watch := y.watch, control := y.control, port := p } := by
      rw [← hy]
      rfl
    obtain ⟨hbegun, hsettled⟩ := evacuationBegun_settled hcalm hentered
    generalize y.settleEvents = z at hbegun hsettled ⊢
    generalize z.watch = w at hsettled
    subst hsettled
    have hport : y.port = p := by rw [honly]
    have hlast : y.line.nextTag = s.line.nextTag + 1 := by rw [hline]
    refine ⟨completed_answer .done ((congrArg TerminalPort.overrun hport).trans hoverrun), (congrArg TerminalPort.payFlag hport).trans hpay, ?_, le_refl _, ?_,
      fun _ => ⟨hbegun, ?_⟩, fun h => absurd h hstate⟩
    · show y.line = _
      rw [hline]
      rfl
    · show _ < y.line.nextTag
      rw [hlast]
      exact Nat.lt_succ_self _
    · rw [honly]
      rfl

/-! ## The evacuation contact -/

theorem exec_evacContactEdge (h : s.served) (hfound : s.control.contactFound = true) (htimer : s.control.contactTimer.isSome = true)
    (hne : s.inputs.contact ≠ s.control.contact) : exec .evacContactEdge s = .next s.contactEdge :=
  congrArg Host.Outcome.next ((s.event_taken _ h.1).trans (if_pos ⟨h.2, hfound, htimer, hne⟩))

/-- Settles O25, by the new level and the station state. -/
theorem evacContactEdge : Obligations.EvacContactEdge := by
  intro s hs hcalm hfound htimer hne noted
  have hexec := exec_evacContactEdge hs hfound htimer hne
  have hasserted (h : s.inputs.contact = true) : s.contactEdge = noted.contactAsserted := if_pos h
  refine ⟨fun h => ?_, fun hcontact hstate => ?_, fun hcontact hstate => ?_⟩
  · rw [hexec]
    refine congrArg Host.Outcome.next ?_
    cases hcontact : s.inputs.contact with
    | false => exact if_neg (by rw [hcontact]; decide)
    | true =>
      have hjoin : noted.station = .join := h.resolve_left (by rw [hcontact]; decide)
      rw [hasserted hcontact, State.contactAsserted, hjoin]
  · have heffect : noted.contactAsserted = ((noted.evacuated .input).placeEvac (.clear .input)).settleEvents := by
      rw [← enterEvacuate_eq]
      rcases hstate with hx | hx <;> rw [State.contactAsserted, show noted.station = _ from hx]
    have hline := placeEvac_entered noted .input (.clear .input)
    generalize hy : (noted.evacuated .input).placeEvac (.clear .input) = y at hline heffect
    have hentered : y = { noted.evacuated .input with line := y.line, port := y.port, peers := y.peers } := by
      rw [← hy]
      rfl
    obtain ⟨hbegun, hsettled⟩ := evacuationBegun_settled (s := noted) hcalm hentered
    refine ⟨_, s.line.nextTag, hexec.trans (congrArg Host.Outcome.next ((hasserted hcontact).trans heffect)), hbegun, ?_, ?_⟩
    · rw [hsettled, ← hy]
      rfl
    · rw [hsettled]
      exact hline
  · have heffect : noted.contactAsserted = noted.placeEvac (.clear .input) := by
      rw [State.contactAsserted, show noted.station = .evacuate from hstate]
    exact ⟨_, s.line.nextTag, hexec.trans (congrArg Host.Outcome.next ((hasserted hcontact).trans heffect)), rfl, rfl⟩

/-! ## CLEAR and ALL CLEAR from a peer -/

/-- A CLEAR taken from a peer (R164). -/
theorem takeClear_spec (hcalm : s.calm) (hl : s.line.sending = none) (f : ClearFrame) :
    (s.station = .live ∨ s.station = .held →
      EvacuationBegun s (s.takeClear f) (.frame f.source f.reason) ∧
      s.takeClear f = { s.evacuated (.frame f.source f.reason) with
        line := { s.line with evac := s.line.evac.filter fun e => !decide (e.frame = .allClear) }
        watch := (s.takeClear f).watch }) ∧
    (s.station = .join →
      s.takeClear f = { s with control := { s.control with
        pendingEvac := if s.control.pendingEvac.any PendingEvac.clearMark then s.control.pendingEvac
          else some { reason := .frame f.source f.reason, clearMark := false } } }) ∧
    (s.station = .evacuate → s.takeClear f = s) := by
  refine ⟨fun hstate => ?_, fun hstate => ?_, fun hstate => ?_⟩
  · have heffect : s.takeClear f = (s.evacuated (.frame f.source f.reason)).settleEvents := by
      rw [← enterEvacuate_eq]
      rcases hstate with hx | hx <;> rw [State.takeClear, hx]
    have hquiet : s.evacuated (.frame f.source f.reason) = { s.evacuated (.frame f.source f.reason) with
        line := { s.line with evac := s.line.evac.filter fun e => !decide (e.frame = .allClear) } } := by
      rw [State.evacuated, removeEvac_quiet hl]
    obtain ⟨hbegun, hsettled⟩ := evacuationBegun_settled hcalm (x := s.evacuated (.frame f.source f.reason)) rfl
    rw [heffect]
    refine ⟨hbegun, hsettled.trans ?_⟩
    exact congrArg (fun x : State => { x with watch := (s.evacuated (.frame f.source f.reason)).settleEvents.watch }) hquiet
  · rw [State.takeClear, hstate]
    refine congrArg (fun c : Control => { s with control := c }) ?_
    obtain ⟨_, _, _, _, _, _, _, _, _, _, _, pending⟩ := s.control
    dsimp only
    cases pending with
    | none => rfl
    | some e =>
      obtain ⟨reason, mark⟩ := e
      cases mark <;> rfl
  · rw [State.takeClear, hstate]

/-- An ALL CLEAR taken from a peer (R166). -/
theorem takeAllClear_spec (hw : s.watch.handed = []) (hplaced : ReleasesPlaced s) (hl : s.line.sending = none) (p : Station) :
    (s.station = .evacuate → s.control.contact = false →
      EvacuationEnded s (s.takeAllClear p) (some p) ∧
      s.takeAllClear p = { s.leaveEvacuate (some p) with
        line := { s.line with evac := s.line.evac.filter fun e => decide (e.frame = .allClear) } }) ∧
    (s.station = .evacuate → s.control.contact = true → s.takeAllClear p = s.placeEvac (.clear .relay)) ∧
    (s.station = .join → s.takeAllClear p = { s with control := { s.control with pendingEvac := none } }) ∧
    (s.station = .live ∨ s.station = .held → s.takeAllClear p = s) := by
  refine ⟨fun hstate hcontact => ?_, fun hstate hcontact => ?_, fun hstate => ?_, fun hstate => ?_⟩
  · have hr := hplaced.release_none hstate
    have hended := evacuationEnded_leaveEvacuate s (some p) hr
    have honly := s.leaveEvacuate_only (some p) hr
    have hwatch : (s.leaveEvacuate (some p)).watch.handed = [] := by
      rw [s.leaveEvacuate_eq (some p) hr]
      simp [hw]
    have heffect : s.takeAllClear p = ((s.leaveEvacuate (some p)).removeEvac fun f => decide (f ≠ .allClear)).settleEvents := by
      rw [State.takeAllClear, hstate]
      exact if_neg (by rw [hcontact]; decide)
    have hline : (s.leaveEvacuate (some p)).line = s.line := by rw [honly]
    generalize s.leaveEvacuate (some p) = y at *
    rw [heffect, removeEvac_quiet (by rw [hline]; exact hl), State.settleEvents_nil (by exact hwatch), hline]
    refine ⟨hended, ?_⟩
    simp
  · rw [State.takeAllClear, hstate]
    exact if_pos hcontact
  · rw [State.takeAllClear, hstate] <;> rfl
  · rcases hstate with hx | hx <;> rw [State.takeAllClear, hx]

/-- Settles O26: the peer heard first, and then the frame taken by the station state. -/
theorem clearFrames : Obligations.ClearFrames := by
  unfold Obligations.ClearFrames
  refine ⟨fun f s hs hcalm hsized hl hpeer => ?_, fun source s hs hw hplaced hsized hl hpeer => ?_⟩
  · have hlength : s.peers.entries.length = 16 := hsized.2.2.2.1
    have hheard := heard_hear hlength f.source
    have hexec : exec (.clear f) s = .next ((s.hear f.source).takeClear f) :=
      (exec_clear hs.1 f).trans (congrArg Host.Outcome.next (takeFrame_peer (listening_of hs.2 hl) (f := .clear f) rfl hpeer _))
    have honly : s.hear f.source = { s with peers := (s.hear f.source).peers } := rfl
    generalize s.hear f.source = x at hheard hexec honly
    generalize x.peers = p at honly
    subst honly
    obtain ⟨hentered, hjoin, hevacuate⟩ := takeClear_spec (s := { s with peers := p }) hcalm hl f
    have hpeers : (({ s with peers := p } : State).takeClear f).peers = p := by
      rcases serving_cases hs.2 with hx | hx | hx | hx
      · rw [hjoin hx]
      · rw [(hentered (.inl hx)).2]
        rfl
      · rw [(hentered (.inr hx)).2]
        rfl
      · rw [hevacuate hx]
    refine ⟨_, hexec, heard_congr hheard hpeers, fun hstate => ?_, fun hstate => ?_, fun hstate => ?_⟩
    · obtain ⟨hbegun, heq⟩ := hentered hstate
      refine ⟨hbegun, ?_⟩
      rw [heq]
      refine ⟨rfl, fun e he hf => ?_, fun hf => ?_, rfl⟩
      · show s.line.evac.filter _ = none
        rw [he]
        simp [hf]
      · show s.line.evac.filter _ = s.line.evac
        cases he : s.line.evac with
        | none => rfl
        | some e => simp [hf e he]
    · rw [hjoin hstate]
      exact ⟨rfl, rfl⟩
    · rw [hevacuate hstate]
  · have hlength : s.peers.entries.length = 16 := hsized.2.2.2.1
    have hheard := heard_hear hlength source
    have hexec : exec (.allClearFrame source) s = .next ((s.hear source).takeAllClear source) :=
      (exec_allClearFrame hs.1 source).trans
        (congrArg Host.Outcome.next (takeFrame_peer (listening_of hs.2 hl) (f := .allClear source) rfl hpeer _))
    have honly : s.hear source = { s with peers := (s.hear source).peers } := rfl
    generalize s.hear source = x at hheard hexec honly
    generalize x.peers = p at honly
    subst honly
    obtain ⟨hended, hrelay, hjoin, hrun⟩ := takeAllClear_spec (s := { s with peers := p }) hw hplaced hl source
    refine ⟨_, hexec, fun hstate hcontact => ?_, fun hstate hcontact => ?_, fun hstate => ?_, fun hstate => ?_⟩
    · obtain ⟨hended, heq⟩ := hended hstate hcontact
      refine ⟨_, hheard, rfl, hended, ?_⟩
      have honly := State.leaveEvacuate_only { s with peers := p } (some source) (hplaced.release_none hstate)
      generalize State.leaveEvacuate _ (some source) = y at heq honly
      rw [heq]
      refine ⟨?_, rfl⟩
      rw [honly]
    · rw [hrelay hstate hcontact]
      exact ⟨heard_congr hheard rfl, rfl, rfl⟩
    · rw [hjoin hstate]
      exact ⟨heard_congr hheard rfl, rfl, rfl⟩
    · rw [hrun hstate]
      exact ⟨hheard, rfl⟩

end

end Sys2Proof.Machine
end

section
/-! SUPPORT. A step of plant time taken by the bell unit (R98, R99): the instants stepped over, in order. -/

namespace Sys2Proof.Machine

/-! ## A list put in ascending order of a key -/

section
variable {α : Type} {key : α → Nat} {R : α → α → Prop}

/-- Ascending by key, and by `R` where the keys are equal. -/
def KeyOrder (key : α → Nat) (R : α → α → Prop) (a b : α) : Prop := key a < key b ∨ (key a = key b ∧ R a b)

theorem insertByKey_perm (x : α) (xs : List α) : (insertByKey key x xs).Perm (x :: xs) := by
  induction xs with
  | nil => exact List.Perm.refl _
  | cons y ys ih =>
    unfold insertByKey
    split
    · exact List.Perm.refl _
    · exact (ih.cons y).trans (.swap x y ys)

theorem insertByKey_pairwise {x : α} {xs : List α} (h : xs.Pairwise (KeyOrder key R)) (hx : ∀ y ∈ xs, R y x) :
    (insertByKey key x xs).Pairwise (KeyOrder key R) := by
  induction xs with
  | nil => exact List.pairwise_singleton _ _
  | cons y ys ih =>
    have ⟨hy, hys⟩ := List.pairwise_cons.1 h
    unfold insertByKey
    split
    next hlt =>
      refine List.pairwise_cons.2 ⟨fun z hz => .inl ?_, h⟩
      rcases List.mem_cons.1 hz with rfl | hz
      · exact hlt
      · rcases hy z hz with hyz | hyz <;> omega
    next hge =>
      refine List.pairwise_cons.2 ⟨fun z hz => ?_, ih hys fun z hz => hx z (List.mem_cons_of_mem _ hz)⟩
      rcases List.mem_cons.1 ((insertByKey_perm x ys).mem_iff.1 hz) with rfl | hz
      · have hyz := hx y List.mem_cons_self
        unfold KeyOrder
        by_cases heq : key y = key z
        · exact .inr ⟨heq, hyz⟩
        · exact .inl (by omega)
      · exact hy z hz

theorem foldl_insertByKey (xs acc : List α) :
    (xs.foldl (fun acc x => insertByKey key x acc) acc).Perm (acc ++ xs) := by
  induction xs generalizing acc with
  | nil => rw [List.append_nil]; exact .refl _
  | cons x xs ih =>
    refine (ih _).trans (((insertByKey_perm x acc).append_right xs).trans ?_)
    exact List.perm_middle.symm

theorem sortByKey_perm (xs : List α) : (sortByKey key xs).Perm xs := foldl_insertByKey xs []

theorem sortByKey_pairwise {xs : List α} (h : xs.Pairwise R) : (sortByKey key xs).Pairwise (KeyOrder key R) := by
  have hfold (acc : List α) (hacc : acc.Pairwise (KeyOrder key R)) (hbefore : ∀ a ∈ acc, ∀ x ∈ xs, R a x) :
      (xs.foldl (fun acc x => insertByKey key x acc) acc).Pairwise (KeyOrder key R) := by
    induction xs generalizing acc with
    | nil => exact hacc
    | cons x xs ih =>
      have ⟨hx, hxs⟩ := List.pairwise_cons.1 h
      refine ih hxs _ (insertByKey_pairwise hacc fun a ha => hbefore a ha x List.mem_cons_self) fun a ha z hz => ?_
      rcases List.mem_cons.1 ((insertByKey_perm x acc).mem_iff.1 ha) with rfl | ha
      · exact hx z hz
      · exact hbefore a ha z (List.mem_cons_of_mem _ hz)
  exact hfold [] .nil fun a ha => absurd ha List.not_mem_nil

end

section
variable {s : State} {t0 x : Nat}

/-! ## One instant stepped over -/

theorem stepTakes_iff (p : Fin 48 × Nat) : stepTakes s t0 x p ↔
    bellTime s.sw4.bellAdvance t0 < ringBellTime (s.bellEntry p.1) p.2 ∧
      ringBellTime (s.bellEntry p.1) p.2 ≤ bellTime s.sw4.bellAdvance x ∧ (s.bellEntry p.1).due s.sw0.weekday p.2 = true := by
  rw [due_iff]
  exact Iff.rfl

theorem rung_only (hs : s.station ≠ .holdover) (e : Fin 48) (day : Nat) (o : BellOrigin) :
    s.rung e day o = { s with bell := (s.rung e day o).bell } := by
  by_cases h : s.bell.arbiter = none
  · rw [rung_free hs h]
  · rw [rung_busy hs h]

theorem rung_placeCue (hs : s.station ≠ .holdover) (e : Fin 48) (day : Nat) (o : BellOrigin) :
    (s.rung e day o).placeCue e day = { s with bell := (s.rung e day o).bell, line := (s.placeCue e day).line } := by
  have honly := rung_only hs e day o
  generalize s.rung e day o = y at honly ⊢
  generalize y.bell = b at honly ⊢
  subst honly
  rfl

theorem caughtUp_missed (hs : s.station ≠ .holdover) (hx : s.clock.time = x) {e : Fin 48} {day : Nat}
    (h : ¬ x + s.sw4.bellAdvance ≤ instantOf s (e, day) + 16 * s.sw4.cueWindow) :
    caughtUp x s (e, day) = s.passMissed e day .catchUp := by
  subst hx
  rw [passMissed_eq hs]
  simp only [caughtUp, decide_eq_false h, Bool.false_and]
  rfl

theorem caughtUp_rung (hs : s.station = .join ∨ s.station = .live ∨ s.station = .held) (hx : s.clock.time = x) {e : Fin 48} {day : Nat}
    (h : x + s.sw4.bellAdvance ≤ instantOf s (e, day) + 16 * s.sw4.cueWindow) :
    caughtUp x s (e, day) = { s with
      bell := (s.rung e day .catchUp).bell
      line := if decide (s.station = .live ∨ s.station = .held) then (s.placeCue e day).line else s.line } := by
  have hover : s.station ≠ .holdover := by rcases hs with h | h | h <;> rw [h] <;> nofun
  have hevac : s.station ≠ .evacuate := by rcases hs with h | h | h <;> rw [h] <;> nofun
  subst hx
  cases harb : s.bell.arbiter with
  | none =>
    rw [rung_free hover harb]
    simp only [caughtUp, decide_eq_true h, decide_eq_true hevac, harb, Bool.true_and]
    rfl
  | some y =>
    rw [rung_busy hover (by rw [harb]; nofun)]
    simp only [caughtUp, decide_eq_true h, decide_eq_true hevac, harb, Bool.true_and]
    rfl

theorem caughtUp_suppressed (hs : s.station = .evacuate) (hx : s.clock.time = x) {e : Fin 48} {day : Nat}
    (h : x + s.sw4.bellAdvance ≤ instantOf s (e, day) + 16 * s.sw4.cueWindow) :
    caughtUp x s (e, day) = s.passSuppressed e day .catchUp := by
  subst hx
  rw [passSuppressed_eq (by rw [hs]; nofun)]
  simp only [caughtUp, decide_eq_true h, hs, Bool.true_and]
  rfl

/-- What an instant taken by a step leaves (R99, R107). -/
theorem catchUpOne_taken (hs : s.station.serving = true) (hx : s.clock.time = x) {e : Fin 48} {day : Nat}
    (h : stepTakes s t0 x (e, day)) : s.catchUpOne t0 x day e = caughtUp x s (e, day) := by
  have hover : s.station ≠ .holdover := by
    intro h
    rw [h] at hs
    cases hs
  have hone : s.catchUpOne t0 x day e = if x + s.sw4.bellAdvance ≤ instantOf s (e, day) + 16 * s.sw4.cueWindow then
      s.takeInstant e day .catchUp else s.passMissed e day .catchUp := by
    rw [Nat.mul_comm]
    exact if_pos ((stepTakes_iff (e, day)).1 h)
  rw [hone]
  split
  next hwindow =>
    rcases serving_cases hs with hst | hst | hst | hst
    · rw [takeInstant_join hst, caughtUp_rung (.inl hst) hx hwindow, if_neg (by simp [hst])]
      exact rung_only hover e day .catchUp
    · rw [takeInstant_sends (.inl hst), caughtUp_rung (.inr (.inl hst)) hx hwindow, if_pos (by simp [hst])]
      exact rung_placeCue hover e day .catchUp
    · rw [takeInstant_sends (.inr hst), caughtUp_rung (.inr (.inr hst)) hx hwindow, if_pos (by simp [hst])]
      exact rung_placeCue hover e day .catchUp
    · rw [takeInstant_evacuate hst, caughtUp_suppressed hst hx hwindow]
  next hearly => exact (caughtUp_missed hover hx hearly).symm

theorem catchUpOne_left {e : Fin 48} {day : Nat} (h : ¬ stepTakes s t0 x (e, day)) :
    s.catchUpOne t0 x day e = s := if_neg (mt (stepTakes_iff (e, day)).2 h)

theorem caughtUp_line (x : Nat) (s : State) (p : Fin 48 × Nat) :
    (caughtUp x s p).line = { s.line with cues := (caughtUp x s p).line.cues, nextTag := (caughtUp x s p).line.nextTag } ∧
    s.line.nextTag ≤ (caughtUp x s p).line.nextTag := by
  have hline : (caughtUp x s p).line =
      if decide (x + s.sw4.bellAdvance ≤ instantOf s p + 16 * s.sw4.cueWindow) && decide (s.station = .live ∨ s.station = .held) then
        (s.placeCue p.1 p.2).line else s.line := rfl
  generalize (caughtUp x s p).line = line at hline ⊢
  split at hline
  · subst hline
    exact ⟨rfl, Nat.le_succ _⟩
  · subst hline
    exact ⟨rfl, Nat.le_refl _⟩

/-- An instant taken changes the bell unit, the cue list and the tags alone. -/
theorem caughtUp_only (x : Nat) (s : State) (p : Fin 48 × Nat) :
    caughtUp x s p = { s with
      bell := (caughtUp x s p).bell
      line := { s.line with cues := (caughtUp x s p).line.cues, nextTag := (caughtUp x s p).line.nextTag } } ∧
    s.line.nextTag ≤ (caughtUp x s p).line.nextTag := by
  obtain ⟨hline, htag⟩ := caughtUp_line x s p
  have honly : caughtUp x s p = { s with bell := (caughtUp x s p).bell, line := (caughtUp x s p).line } := rfl
  exact ⟨by rw [← hline]; exact honly, htag⟩

theorem foldl_caughtUp_only (x : Nat) (s : State) (ps : List (Fin 48 × Nat)) :
    ps.foldl (caughtUp x) s = { s with
      bell := (ps.foldl (caughtUp x) s).bell
      line := { s.line with cues := (ps.foldl (caughtUp x) s).line.cues, nextTag := (ps.foldl (caughtUp x) s).line.nextTag } } ∧
    s.line.nextTag ≤ (ps.foldl (caughtUp x) s).line.nextTag := by
  induction ps generalizing s with
  | nil => exact ⟨rfl, Nat.le_refl _⟩
  | cons p ps ih =>
    obtain ⟨hone, htag⟩ := caughtUp_only x s p
    obtain ⟨hrest, htags⟩ := ih (caughtUp x s p)
    rw [List.foldl_cons]
    refine ⟨?_, htag.trans htags⟩
    generalize ps.foldl (caughtUp x) (caughtUp x s p) = t at hrest ⊢
    rw [hone] at hrest
    exact hrest

/-- The pay unit, the port and the peer table play no part in what a step rings. -/
theorem foldl_caughtUp_aside (x : Nat) (s : State) (pay : PayUnit) (port : TerminalPort) (peers : PeerTable) (ps : List (Fin 48 × Nat)) :
    ps.foldl (caughtUp x) { s with pay := pay, port := port, peers := peers } =
      { ps.foldl (caughtUp x) s with pay := pay, port := port, peers := peers } := by
  induction ps generalizing s with
  | nil => rfl
  | cons p ps ih => exact ih (caughtUp x s p)

/-! ## The instants of a step -/

/-- An instant that a step takes. -/
def stepTaken (s : State) (t0 x : Nat) (p : Fin 48 × Nat) : Bool :=
  decide (bellTime s.sw4.bellAdvance t0 < ringBellTime (s.bellEntry p.1) p.2) &&
    decide (ringBellTime (s.bellEntry p.1) p.2 ≤ bellTime s.sw4.bellAdvance x) && (s.bellEntry p.1).due s.sw0.weekday p.2

theorem stepTaken_iff (p : Fin 48 × Nat) : stepTaken s t0 x p = true ↔ stepTakes s t0 x p := by
  rw [stepTakes_iff, stepTaken, Bool.and_eq_true, Bool.and_eq_true, decide_eq_true_iff, decide_eq_true_iff, and_assoc]

theorem caughtUp_entries (x : Nat) (s : State) (p : Fin 48 × Nat) : (caughtUp x s p).bell.entries = markedEntries s p.1 p.2 := rfl

theorem caughtUp_control (x : Nat) (s : State) (p : Fin 48 × Nat) : (caughtUp x s p).control = s.control := rfl

theorem caughtUp_clock (x : Nat) (s : State) (p : Fin 48 × Nat) : (caughtUp x s p).clock = s.clock := rfl

theorem stepTaken_congr {t : State} {q : Fin 48 × Nat} (hcontrol : t.control = s.control) (hentry : t.bellEntry q.1 = s.bellEntry q.1) :
    stepTaken t t0 x q = stepTaken s t0 x q := by
  have hsw0 : t.sw0 = s.sw0 := by rw [State.sw0, hcontrol]; rfl
  have hsw4 : t.sw4 = s.sw4 := by rw [State.sw4, hcontrol]; rfl
  rw [stepTaken, stepTaken, hsw0, hsw4, hentry]

/-- An instant taken leaves the later instants of a walk as they are: those of its own entry are of later days. -/
theorem stepTaken_caughtUp (hsized : s.bell.entries.length = 48) {p q : Fin 48 × Nat} (hp : stepTakes s t0 x p)
    (h : p.1 = q.1 → p.2 < q.2) : stepTaken (caughtUp x s p) t0 x q = stepTaken s t0 x q := by
  obtain ⟨hentry, hothers⟩ := marked_bellEntry hsized (caughtUp_entries x s p)
  by_cases hsame : p.1 = q.1
  · have hsw0 : (caughtUp x s p).sw0 = s.sw0 := by rw [State.sw0, caughtUp_control]; rfl
    have hsw4 : (caughtUp x s p).sw4 = s.sw4 := by rw [State.sw4, caughtUp_control]; rfl
    have hlater := h hsame
    obtain ⟨-, -, hdue⟩ := (stepTakes_iff p).1 hp
    obtain ⟨-, hmark⟩ := (due_iff _ _ _).1 hdue
    have hsamedue : ({ s.bellEntry p.1 with mark := some p.2 } : BellEntry).due s.sw0.weekday q.2 = (s.bellEntry p.1).due s.sw0.weekday q.2 := by
      rw [Bool.eq_iff_iff, due_iff, due_iff]
      refine and_congr_right fun _ => ⟨fun _ m hm => (hmark m hm).trans hlater, fun _ m hm => ?_⟩
      obtain rfl : p.2 = m := Option.some.inj hm
      exact hlater
    have hsametime : ringBellTime { s.bellEntry p.1 with mark := some p.2 } q.2 = ringBellTime (s.bellEntry p.1) q.2 := by
      rw [ringBellTime, ringBellTime]
      rfl
    rw [stepTaken, stepTaken, hsw0, hsw4, ← hsame, hentry, hsamedue, hsametime]
  · exact stepTaken_congr (caughtUp_control x s p) (hothers q.1 (Ne.symm hsame))

/-- A walk over instants takes those due before it, when the instants of one entry stand in order of their days. -/
theorem foldl_catchUpOne (ps : List (Fin 48 × Nat)) (hsized : s.bell.entries.length = 48) (hs : s.station.serving = true)
    (hx : s.clock.time = x) (hps : ps.Pairwise fun p q => p.1 = q.1 → p.2 < q.2) :
    ps.foldl (fun s p => s.catchUpOne t0 x p.2 p.1) s = (ps.filter (stepTaken s t0 x)).foldl (caughtUp x) s := by
  induction ps generalizing s with
  | nil => rw [List.filter_nil, List.foldl_nil, List.foldl_nil]
  | cons p ps ih =>
    obtain ⟨hp, hrest⟩ := List.pairwise_cons.1 hps
    obtain ⟨e, day⟩ := p
    rw [List.foldl_cons]
    by_cases htake : stepTakes s t0 x (e, day)
    · have hsame : ps.filter (stepTaken (caughtUp x s (e, day)) t0 x) = ps.filter (stepTaken s t0 x) :=
        List.filter_congr fun q hq => stepTaken_caughtUp hsized htake (hp q hq)
      rw [List.filter_cons_of_pos ((stepTaken_iff _).2 htake), List.foldl_cons, catchUpOne_taken hs hx htake, ← hsame]
      refine ih ?_ ?_ ?_ hrest
      · rw [caughtUp_entries, markedEntries, List.length_set, hsized]
      · rw [State.station, caughtUp_control]
        exact hs
      · rw [caughtUp_clock]
        exact hx
    · rw [List.filter_cons_of_neg (mt (stepTaken_iff _).1 htake), catchUpOne_left htake]
      exact ih hsized hs hx hrest

/-- The instants of `n` bell days from `day` on. -/
def instantsOf (order : List (Fin 48)) (day n : Nat) : List (Fin 48 × Nat) :=
  (List.range' day n).flatMap fun d => order.map fun e => (e, d)

theorem instantsOf_succ (order : List (Fin 48)) (day n : Nat) :
    instantsOf order day (n + 1) = (order.map fun e => (e, day)) ++ instantsOf order (day + 1) n := by
  rw [instantsOf, List.range'_succ, List.flatMap_cons]
  rfl

theorem mem_instantsOf {order : List (Fin 48)} {day n : Nat} {p : Fin 48 × Nat} :
    p ∈ instantsOf order day n ↔ (day ≤ p.2 ∧ p.2 < day + n) ∧ p.1 ∈ order := by
  unfold instantsOf
  rw [List.mem_flatMap]
  constructor
  · rintro ⟨d, hd, hp⟩
    obtain ⟨e, he, rfl⟩ := List.mem_map.1 hp
    exact ⟨List.mem_range'_1.1 hd, he⟩
  · rintro ⟨hd, he⟩
    exact ⟨p.2, List.mem_range'_1.2 hd, List.mem_map.2 ⟨p.1, he, rfl⟩⟩

theorem catchUpDays_eq (s : State) (t0 t1 : Nat) (order : List (Fin 48)) (day n : Nat) :
    s.catchUpDays t0 t1 order day n = (instantsOf order day n).foldl (fun s p => s.catchUpOne t0 t1 p.2 p.1) s := by
  induction n generalizing s day with
  | zero => rfl
  | succ n ih => rw [State.catchUpDays, ih, instantsOf_succ, List.foldl_append, List.foldl_map]

/-- The entries that ring, in the order of a day: by ring time, and by entry number at one time. -/
def ringOrder (s : State) : List (Fin 48) :=
  (sortByKey (fun p => ringOffset p.2) (s.numberedEntries.filter fun p => decide (p.2.mask ≠ 0))).map Prod.fst

theorem mem_numberedEntries {p : Fin 48 × BellEntry} : p ∈ s.numberedEntries ↔ p.2 = s.bellEntry p.1 := by
  unfold State.numberedEntries
  rw [List.mem_map]
  constructor
  · rintro ⟨e, -, rfl⟩
    rfl
  · exact fun h => ⟨p.1, List.mem_finRange _, Prod.ext rfl h.symm⟩

theorem mem_sorted {p : Fin 48 × BellEntry} :
    p ∈ sortByKey (fun p => ringOffset p.2) (s.numberedEntries.filter fun p => decide (p.2.mask ≠ 0)) ↔
      p.2 = s.bellEntry p.1 ∧ p.2.mask ≠ 0 := by
  rw [(sortByKey_perm _).mem_iff, List.mem_filter, mem_numberedEntries, decide_eq_true_iff]

theorem mem_ringOrder {e : Fin 48} : e ∈ ringOrder s ↔ (s.bellEntry e).mask ≠ 0 := by
  unfold ringOrder
  rw [List.mem_map]
  constructor
  · rintro ⟨p, hp, rfl⟩
    obtain ⟨hentry, hmask⟩ := mem_sorted.1 hp
    rw [← hentry]
    exact hmask
  · exact fun h => ⟨(e, s.bellEntry e), mem_sorted.2 ⟨rfl, h⟩, rfl⟩

theorem ringOrder_pairwise (s : State) :
    (ringOrder s).Pairwise (KeyOrder (fun e => ringOffset (s.bellEntry e)) (· < ·)) := by
  have hnumbered : s.numberedEntries.Pairwise fun p q => p.1 < q.1 := List.pairwise_map.2 (List.pairwise_lt_finRange 48)
  have hsorted := sortByKey_pairwise (key := fun p : Fin 48 × BellEntry => ringOffset p.2)
    (hnumbered.filter fun p => decide (p.2.mask ≠ 0))
  refine List.pairwise_map.2 (hsorted.imp_of_mem fun {p q} hp hq hpq => ?_)
  unfold KeyOrder at hpq ⊢
  dsimp only at hpq ⊢
  rw [(mem_sorted.1 hp).1, (mem_sorted.1 hq).1] at hpq
  exact hpq

theorem ringOffset_lt (hrange : ScheduleInRange s) (hsized : s.bell.entries.length = 48) (e : Fin 48) :
    ringOffset (s.bellEntry e) < 1382400 := by
  have he : e.val < s.bell.entries.length := by rw [hsized]; exact e.isLt
  have hmem : s.bellEntry e ∈ s.bell.entries := by
    rw [State.bellEntry, List.getD_eq_getElem _ _ he]
    exact List.getElem_mem he
  obtain ⟨hminute, hsecond⟩ := hrange _ hmem
  unfold ringOffset ticksPerSecond
  omega

theorem ringBellTime_eq (y : BellEntry) (d : Nat) : ringBellTime y d = d * 1382400 + ringOffset y := rfl

/-- The instants of a span of days stand in ascending order, and by entry number at one instant. -/
theorem instantsOf_pairwise (hrange : ScheduleInRange s) (hsized : s.bell.entries.length = 48) (day n : Nat) :
    (instantsOf (ringOrder s) day n).Pairwise fun p q =>
      instantOf s p < instantOf s q ∨ (instantOf s p = instantOf s q ∧ p.1 < q.1) := by
  have hinstant (p : Fin 48 × Nat) : instantOf s p = p.2 * 1382400 + ringOffset (s.bellEntry p.1) := rfl
  induction n generalizing day with
  | zero => exact .nil
  | succ n ih =>
    rw [instantsOf_succ]
    refine List.pairwise_append.2 ⟨List.pairwise_map.2 ((ringOrder_pairwise s).imp fun {a b} hab => ?_), ih _, fun p hp q hq => ?_⟩
    · rw [hinstant, hinstant]
      rcases hab with hab | ⟨hab, hlt⟩
      · exact .inl (Nat.add_lt_add_left hab _)
      · exact .inr ⟨congrArg _ hab, hlt⟩
    · obtain ⟨e, -, rfl⟩ := List.mem_map.1 hp
      obtain ⟨⟨hlater, -⟩, -⟩ := mem_instantsOf.1 hq
      have hoffset := ringOffset_lt hrange hsized e
      rw [hinstant, hinstant]
      left
      dsimp only
      omega

/-- A step takes instants of the days that it walks alone. -/
theorem stepTakes_mem (hrange : ScheduleInRange s) (hsized : s.bell.entries.length = 48) {p : Fin 48 × Nat}
    (h : stepTakes s t0 x p) :
    p ∈ instantsOf (ringOrder s) (bellDay s.sw4.bellAdvance t0) (bellDay s.sw4.bellAdvance x + 1 - bellDay s.sw4.bellAdvance t0) := by
  obtain ⟨hafter, hreached, hdue⟩ := (stepTakes_iff p).1 h
  have hoffset := ringOffset_lt hrange hsized p.1
  rw [ringBellTime_eq] at hafter hreached
  refine mem_instantsOf.2 ⟨?_, mem_ringOrder.2 fun hmask => ?_⟩
  · unfold bellDay ticksPerDay
    omega
  · obtain ⟨hbit, -⟩ := (due_iff _ _ _).1 hdue
    rw [hmask] at hbit
    simp at hbit

/-- A step of plant time to `x` taken by the bell unit (R98, R99). -/
theorem catchUp_spec (hrange : ScheduleInRange s) (hsized : s.bell.entries.length = 48) (hs : s.station.serving = true)
    (hx : s.clock.time = x) (t0 : Nat) : ∃ taken : List (Fin 48 × Nat), (∀ p, p ∈ taken ↔ stepTakes s t0 x p) ∧
      (taken.Pairwise fun p q => instantOf s p < instantOf s q ∨ (instantOf s p = instantOf s q ∧ p.1 < q.1)) ∧
      s.catchUp t0 x = taken.foldl (caughtUp x) s := by
  by_cases hforward : t0 < x
  · have hordered := instantsOf_pairwise hrange hsized (bellDay s.sw4.bellAdvance t0)
      (bellDay s.sw4.bellAdvance x + 1 - bellDay s.sw4.bellAdvance t0)
    have hdays : (instantsOf (ringOrder s) (bellDay s.sw4.bellAdvance t0)
        (bellDay s.sw4.bellAdvance x + 1 - bellDay s.sw4.bellAdvance t0)).Pairwise fun p q => p.1 = q.1 → p.2 < q.2 := by
      refine hordered.imp fun {p q} hpq hsame => ?_
      rcases hpq with hlt | ⟨-, hlt⟩
      · unfold instantOf at hlt
        rw [hsame] at hlt
        omega
      · exact absurd hsame hlt.ne
    have hwalk := foldl_catchUpOne (t0 := t0) _ hsized hs hx hdays
    refine ⟨_, fun p => ?_, hordered.filter (stepTaken s t0 x), ?_⟩
    · rw [List.mem_filter, stepTaken_iff]
      exact ⟨And.right, fun h => ⟨stepTakes_mem hrange hsized h, h⟩⟩
    · rw [← hwalk, ← catchUpDays_eq]
      refine (if_pos hforward).trans ?_
      show (if (ringOrder s).isEmpty then s else _) = _
      split
      next hempty =>
        have hnone (day n : Nat) : instantsOf [] day n = [] := List.flatMap_eq_nil_iff.2 fun _ _ => rfl
        rw [catchUpDays_eq, List.isEmpty_iff.1 hempty, hnone, List.foldl_nil]
      next => rfl
  · refine ⟨[], fun p => ⟨fun h => absurd h List.not_mem_nil, fun h => absurd h.1 ?_⟩, .nil, if_neg hforward⟩
    have hreached := h.2.1
    omega

end

end Sys2Proof.Machine
end

section
/-! SUPPORT. A step of plant time after READY (R77, R85, R86): the END mark, the day rolls and the bells, in order. -/

namespace Sys2Proof.Machine

section
variable {s v : State} {x : Nat}

/-! ## The END mark -/

/-- The state with plant time moved to `x`, before the END mark is judged (R85). -/
def State.timed (s : State) (x : Nat) : State :=
  { s with clock := { s.clock with time := x, remainder := 0, countedFrom := x } }

/-- The state with its clock stepped to `x` and END judged, before what that brings (R77, R85). -/
def State.stepped (s : State) (x : Nat) : State := { s with clock := steppedClock s.clock x }

theorem markEnd_reached (hx : x = 4294967295) (h : s.clock.endMark = false) :
    (s.timed x).markEnd = (s.stepped x).detectClock .endOfTime := by
  subst hx
  have hclock : steppedClock s.clock 4294967295 =
      { s.clock with time := 4294967295, remainder := 0, countedFrom := 4294967295, endMark := true, endFrom := s.clock.realTime } := by
    simp [steppedClock, h]
  rw [State.stepped, hclock]
  exact (if_pos rfl).trans (if_neg (by rw [show (s.timed 4294967295).clock.endMark = false from h]; decide))

theorem markEnd_left (hx : x ≠ 4294967295) (h : s.clock.endMark = true) :
    (s.timed x).markEnd = (s.stepped x).clearClock .endOfTime := by
  have hclock : steppedClock s.clock x = { s.clock with time := x, remainder := 0, countedFrom := x, endMark := false } := by
    simp [steppedClock, hx]
  rw [State.stepped, hclock]
  exact (if_neg hx).trans (if_pos h)

theorem markEnd_stands (h : x = 4294967295 ↔ s.clock.endMark = true) : (s.timed x).markEnd = s.stepped x := by
  have hclock : steppedClock s.clock x = { s.clock with time := x, remainder := 0, countedFrom := x } := by
    cases he : s.clock.endMark <;> simp [steppedClock, h, he]
  rw [State.stepped, hclock]
  by_cases hx : x = 4294967295
  · exact (if_pos hx).trans (if_pos (h.1 hx))
  · exact (if_neg hx).trans (if_neg (mt h.2 hx))

/-- The END mark after a step, with what it brings (R77). -/
theorem markEnd_spec (hs : s.station ≠ .setup) (x : Nat) : EndMarked s (s.timed x).markEnd x := by
  by_cases hx : x = 4294967295
  · cases he : s.clock.endMark with
    | false =>
      obtain ⟨honly, hfaults, hdetected⟩ := detectClock_spec (s.stepped x) .endOfTime
      rw [markEnd_reached hx he]
      refine ⟨?_, fun _ _ => hdetected, fun hn => absurd hx hn, fun h => absurd (h.1 hx) (by rw [he]; nofun)⟩
      generalize (s.stepped x).detectClock .endOfTime = v at honly hfaults ⊢
      rw [hfaults] at honly
      exact honly
    | true =>
      rw [markEnd_stands (by simp [hx, he])]
      exact ⟨rfl, fun _ h => absurd (he.symm.trans h) (by decide), fun hn => absurd hx hn, fun _ => rfl⟩
  · cases he : s.clock.endMark with
    | false =>
      rw [markEnd_stands (by simp [hx, he])]
      exact ⟨rfl, fun h => absurd h hx, fun _ h => absurd (he.symm.trans h) (by decide), fun _ => rfl⟩
    | true =>
      have hcleared : (s.stepped x).clearClock .endOfTime =
          { s.stepped x with faults := { s.faults with clock := causeCleared s.faults.clock .endOfTime } } := by
        rw [← clearCause_eq]
        exact if_pos (decide_eq_true hs)
      rw [markEnd_left hx he, hcleared]
      exact ⟨rfl, fun h => absurd h hx, fun _ _ => rfl, fun h => absurd (h.2 he) hx⟩

/-! ## What the END mark leaves -/

theorem AlarmClaimed.entries {t : State} (h : AlarmClaimed s t) : t.bell.entries = s.bell.entries := by
  obtain ⟨haside, hclaimed⟩ := h
  by_cases h : s.station.serving = false ∨ ∃ x, s.bell.arbiter = some x ∧ x.rank = .evacuation
  · rw [haside h]
  · rw [hclaimed h]
    rfl

/-- What a step needs of the state that its END mark leaves: SW3 and SW4, the schedule, and a station that serves on. -/
def SettingsKept (s t : State) : Prop :=
  (t.control.sw3 = s.control.sw3 ∧ t.control.sw4 = s.control.sw4) ∧ t.bell.entries = s.bell.entries ∧
    (t.station = s.station ∨ s.station = .live ∧ t.station = .held)

theorem SettingsKept.of_control {t : State} (hcontrol : t.control = s.control) (hentries : t.bell.entries = s.bell.entries) :
    SettingsKept s t :=
  ⟨by rw [hcontrol]; exact ⟨rfl, rfl⟩, hentries, .inl (congrArg Control.station hcontrol)⟩

theorem StationHeldBy.settings {t : State} {r : HoldReason} (hbell : t.bell = s.bell) (h : StationHeldBy s t r) : SettingsKept s t := by
  obtain ⟨hset, hnew⟩ := h
  by_cases hmem : r ∈ s.control.stationReasons
  · exact .of_control (hset hmem).1 (by rw [hbell])
  · have hcontrol := (hnew hmem).1
    refine ⟨by rw [hcontrol]; exact ⟨rfl, rfl⟩, by rw [hbell], ?_⟩
    by_cases hlive : s.station = .live
    · rw [if_pos hlive] at hcontrol
      exact .inr ⟨hlive, by rw [State.station, hcontrol]⟩
    · rw [if_neg hlive] at hcontrol
      exact .inl (by rw [State.station, hcontrol])

theorem StationDetected.settings {t : State} {r r' : FaultRecord} {w : FaultSetting} {kind : FaultKind} {incident : IncidentKind}
    {cause : FaultCause} (h : StationDetected s t r r' w kind incident cause) : SettingsKept s t := by
  obtain ⟨hsetup, hactive, hcounts, hactivates⟩ := h
  have hquiet (h : t.watch = s.watch ∧ t.control = s.control ∧ t.lanes = s.lanes ∧ t.bell = s.bell) : SettingsKept s t := by
    obtain ⟨-, hcontrol, -, hbell⟩ := h
    exact .of_control hcontrol (by rw [hbell])
  by_cases hs : s.station = .setup
  · exact hquiet (hsetup hs).2
  by_cases hr : r.state = .active
  · exact hquiet (hactive hs hr).2
  by_cases hn : r.count + 1 < w.filter
  · exact hquiet (hcounts hs hr hn).2
  obtain ⟨-, -, hnote, halarm, hhold⟩ := hactivates hs hr (not_lt.1 hn)
  cases ha : w.action with
  | actNote =>
    obtain ⟨hcontrol, -, hbell⟩ := hnote ha
    exact .of_control hcontrol (by rw [hbell])
  | actAlarm =>
    obtain ⟨hcontrol, -, hclaimed⟩ := halarm ha
    exact .of_control hcontrol hclaimed.entries
  | actHold => exact (hhold (.inl ha)).2.settings (hhold (.inl ha)).1
  | actOpen => exact (hhold (.inr ha)).2.settings (hhold (.inr ha)).1

theorem EndMarked.settings (h : EndMarked s v x) : SettingsKept s v := by
  obtain ⟨-, hreached, hleft, hstands⟩ := h
  by_cases hx : x = 4294967295
  · cases he : s.clock.endMark with
    | false =>
      have hdetected := (hreached hx he).settings
      exact hdetected
    | true => rw [hstands (by simp [hx, he])]; exact .of_control rfl rfl
  · cases he : s.clock.endMark with
    | false => rw [hstands (by simp [hx, he])]; exact .of_control rfl rfl
    | true => rw [hleft hx he]; exact .of_control rfl rfl

theorem SettingsKept.serving {t : State} (h : SettingsKept s t) (hs : s.station.serving = true) : t.station.serving = true := by
  rcases h.2.2 with h | ⟨-, h⟩
  · rw [h]
    exact hs
  · rw [h]
    rfl

/-! ## The day rolls -/

/-- The day rolls read the pay unit, PAY_FLAG and SW4 alone, and change the first two alone. -/
theorem rollTimes_congr (n : Nat) (hpay : v.pay = s.pay) (hflag : v.port.payFlag = s.port.payFlag)
    (hsw4 : v.control.sw4 = s.control.sw4) :
    v.rollTimes n = { v with
      pay := (s.rollTimes n).pay, port := { v.port with payFlag := (s.rollTimes n).port.payFlag } } ∧
      (s.rollTimes n).pay.today = s.pay.today + n := by
  induction n generalizing s v with
  | zero => exact ⟨by rw [State.rollTimes, State.rollTimes, ← hpay, ← hflag], rfl⟩
  | succ n ih =>
    have hroll : v.dayRollMinute = s.dayRollMinute := by
      unfold State.dayRollMinute State.sw4
      rw [hsw4]
    obtain ⟨honly, htoday⟩ := ih (s := s.rollOnce) (v := v.rollOnce)
      (by rw [State.rollOnce, State.rollOnce, hroll]; exact congrArg (fun p : PayUnit => p.roll s.dayRollMinute) hpay)
      (by
        unfold State.rollOnce
        rw [hroll, hpay]
        exact congrArg (fun b : Bool => b || s.pay.rollFlags s.dayRollMinute) hflag)
      hsw4
    refine ⟨honly, htoday.trans ?_⟩
    rw [rollOnce_eq]
    exact Nat.succ_add ..

/-- The rolls of a step, taken on what its END mark leaves. -/
theorem rollsTaken_of {t : State} (hpay : t.pay = (s.rollTimes (payDay s.dayRollMinute x - s.pay.today)).pay)
    (hflag : t.port.payFlag = (s.rollTimes (payDay s.dayRollMinute x - s.pay.today)).port.payFlag) : RollsTaken s t x := by
  obtain ⟨-, htoday⟩ := rollTimes_congr (s := s) (v := s) (payDay s.dayRollMinute x - s.pay.today) rfl rfl rfl
  refine ⟨by rw [hpay, rollTimes_eq], by rw [hflag, rollTimes_eq], ?_⟩
  rw [hpay, htoday]
  omega

/-! ## A step -/

/-- A step of plant time to `x` taken after READY: the END mark, then the rolls, then the bells (R77, R85, R86). -/
def StepTaken (s t : State) (x : Nat) : Prop :=
  RollsTaken s t x ∧ ∃ v, EndMarked s v x ∧ SettingsKept s v ∧ BellStepped s.clock.time v t x ∧
    t = { v with
      bell := t.bell, line := { s.line with cues := t.line.cues, nextTag := t.line.nextTag }
      pay := t.pay, port := { s.port with payFlag := t.port.payFlag } } ∧
    s.line.nextTag ≤ t.line.nextTag

theorem stepTaken_stepTo (hs : s.station.serving = true) (hsized : s.bell.entries.length = 48) (hrange : ScheduleInRange s)
    (target : Int) : StepTaken s (s.stepTo target) (stepTarget target) := by
  have hsetup : s.station ≠ .setup := by
    intro h
    rw [h] at hs
    cases hs
  have hmarked := markEnd_spec hsetup (stepTarget target)
  generalize hx : stepTarget target = x at hmarked ⊢
  have hstep : s.stepTo target = ((s.timed x).markEnd).takeRolls.catchUp s.clock.time x := by
    rw [← hx]
    exact if_neg hsetup
  have hkept := hmarked.settings
  rw [hstep]
  generalize (s.timed x).markEnd = v at hmarked hkept
  have hserves := hkept.serving hs
  obtain ⟨⟨hsw3, hsw4⟩, hentries, hstate⟩ := hkept
  have honly := hmarked.1
  have hclock : v.clock.time = x := by rw [honly]; rfl
  have hpay : v.pay = s.pay := by rw [honly]
  have hport : v.port = s.port := by rw [honly]
  have hline : v.line = s.line := by rw [honly]
  have hroll : v.dayRollMinute = s.dayRollMinute := by
    unfold State.dayRollMinute State.sw4
    rw [hsw4]
  have hrolls : v.takeRolls = v.rollTimes (payDay s.dayRollMinute x - s.pay.today) := by
    rw [← hroll, ← hpay, ← hclock]
    exact if_neg fun h => by rw [h] at hserves; cases hserves
  obtain ⟨hrolled, -⟩ := rollTimes_congr (payDay s.dayRollMinute x - s.pay.today) hpay (congrArg TerminalPort.payFlag hport) hsw4
  obtain ⟨taken, hmem, hordered, hcaught⟩ := catchUp_spec
    (s := { v with
      pay := (s.rollTimes (payDay s.dayRollMinute x - s.pay.today)).pay
      port := { v.port with payFlag := (s.rollTimes (payDay s.dayRollMinute x - s.pay.today)).port.payFlag } }) (x := x)
    (fun e he => hrange e (by rw [← hentries]; exact he)) (by rw [← hsized, ← hentries]) hserves hclock s.clock.time
  obtain ⟨htaken, htags⟩ := foldl_caughtUp_only x v taken
  have haside := foldl_caughtUp_aside x v (s.rollTimes (payDay s.dayRollMinute x - s.pay.today)).pay
    { v.port with payFlag := (s.rollTimes (payDay s.dayRollMinute x - s.pay.today)).port.payFlag } v.peers taken
  rw [hrolls, hrolled, hcaught.trans haside]
  refine ⟨rollsTaken_of rfl rfl, v, hmarked, ⟨⟨hsw3, hsw4⟩, hentries, hstate⟩, ⟨taken, hmem, hordered, rfl, rfl⟩, ?_, ?_⟩
  · generalize taken.foldl (caughtUp x) v = t at htaken
    rw [hline] at htaken
    rw [htaken, hport]
  · rw [hline] at htags
    exact htags

section
variable {t : State}

/-- What a step changes. -/
theorem StepTaken.only (h : StepTaken s t x) : t = { s with
    clock := steppedClock s.clock x, lanes := t.lanes, bell := t.bell, watch := t.watch, faults := t.faults
    control := t.control, pay := t.pay, port := { s.port with payFlag := t.port.payFlag }
    line := { s.line with cues := t.line.cues, nextTag := t.line.nextTag } } := by
  obtain ⟨-, v, hmarked, -, -, honly, -⟩ := h
  have hv := hmarked.1
  rw [hv] at honly
  rw [honly]

theorem StepTaken.tags (h : StepTaken s t x) : s.line.nextTag ≤ t.line.nextTag := by
  obtain ⟨-, v, -, -, -, -, htags⟩ := h
  exact htags

/-- A step with its incident recorded behind it. -/
theorem StepTaken.stepped {u : State} (h : StepTaken s t x) {i : Incident} (hpay : u.pay = t.pay)
    (hflag : u.port.payFlag = t.port.payFlag) (hbell : u.bell = t.bell) (hcues : u.line.cues = t.line.cues)
    (hlanes : u.lanes = t.lanes) (hfaults : u.faults = t.faults) (hcontrol : u.control = t.control)
    (hwatch : u.watch = t.watch.queue i) : Stepped s u x i := by
  obtain ⟨⟨hpaid, hflagged, htoday⟩, v, hmarked, -, ⟨taken, hmem, hordered, hrung, hcued⟩, honly, -⟩ := h
  refine ⟨⟨hpay.trans hpaid, hflag.trans hflagged, by rw [hpay]; exact htoday⟩, v, hmarked,
    ⟨taken, hmem, hordered, hbell.trans hrung, hcues.trans hcued⟩, ?_, ?_, ?_, ?_⟩
  · rw [hlanes, honly]
  · rw [hfaults, honly]
  · rw [hcontrol, honly]
  · rw [hwatch, honly]

/-- A step reads neither the port, but for PAY_FLAG, nor the peer table. -/
theorem Stepped.aside {port : TerminalPort} {peers : PeerTable} {i : Incident}
    (h : Stepped { s with port := port, peers := peers } t x i) (hflag : port.payFlag = s.port.payFlag) : Stepped s t x i := by
  obtain ⟨⟨hpaid, hflagged, htoday⟩, v, ⟨honly, hreached, hleft, hstands⟩, hbell, hrest⟩ := h
  have hrolled := (rollTimes_congr (s := s) (v := { s with port := port, peers := peers })
    (payDay s.dayRollMinute x - s.pay.today) rfl hflag rfl).1
  rw [rollTimes_eq, rollTimes_eq] at hrolled
  obtain ⟨taken, hmem, hordered, hrung, hcued⟩ := hbell
  have haside := foldl_caughtUp_aside x v v.pay s.port s.peers taken
  have hsame : (rolledOnce^[payDay s.dayRollMinute x - s.pay.today] { s with port := port, peers := peers }).pay =
      (rolledOnce^[payDay s.dayRollMinute x - s.pay.today] s).pay := by rw [hrolled]
  have hsameFlag : (rolledOnce^[payDay s.dayRollMinute x - s.pay.today] { s with port := port, peers := peers }).port.payFlag =
      (rolledOnce^[payDay s.dayRollMinute x - s.pay.today] s).port.payFlag := by rw [hrolled]
  have hn : payDay (State.dayRollMinute { s with port := port, peers := peers }) x = payDay s.dayRollMinute x := rfl
  rw [hn] at hpaid hflagged
  refine ⟨⟨hpaid.trans hsame, hflagged.trans hsameFlag, htoday⟩, { v with port := s.port, peers := s.peers },
    ⟨?_, hreached, fun hx he => ?_, fun h => ?_⟩, ⟨taken, hmem, hordered, hrung.trans ?_, hcued.trans ?_⟩, hrest⟩
  · exact congrArg (fun y : State => { y with port := s.port, peers := s.peers }) honly
  · exact congrArg (fun y : State => { y with port := s.port, peers := s.peers }) (hleft hx he)
  · exact congrArg (fun y : State => { y with port := s.port, peers := s.peers }) (hstands h)
  · exact (congrArg State.bell haside).symm
  · exact (congrArg (fun y : State => y.line.cues) haside).symm

end

end

end Sys2Proof.Machine
end

section
/-! SUPPORT. The agreement (R82 to R84), BEACON_TIME (R118), SET TIME and SHIFT TIME (R89, R90). -/

namespace Sys2Proof.Machine

section
variable {s : State}

/-! ## The median -/

theorem insertInt_perm (x : Int) (xs : List Int) : (insertInt x xs).Perm (x :: xs) := by
  induction xs with
  | nil => exact .refl _
  | cons y ys ih =>
    unfold insertInt
    split
    · exact .refl _
    · exact (ih.cons y).trans (.swap x y ys)

theorem sortInts_perm (xs : List Int) : (sortInts xs).Perm xs := by
  induction xs with
  | nil => exact .refl _
  | cons x xs ih => exact (insertInt_perm x _).trans (ih.cons x)

theorem insertInt_pairwise {x : Int} {xs : List Int} (h : xs.Pairwise (· ≤ ·)) : (insertInt x xs).Pairwise (· ≤ ·) := by
  induction xs with
  | nil => exact List.pairwise_singleton _ _
  | cons y ys ih =>
    obtain ⟨hy, hys⟩ := List.pairwise_cons.1 h
    unfold insertInt
    split
    next hle =>
      refine List.pairwise_cons.2 ⟨fun z hz => ?_, h⟩
      rcases List.mem_cons.1 hz with rfl | hz
      · exact hle
      · exact hle.trans (hy z hz)
    next hgt =>
      refine List.pairwise_cons.2 ⟨fun z hz => ?_, ih hys⟩
      rcases List.mem_cons.1 ((insertInt_perm x ys).mem_iff.1 hz) with rfl | hz
      · omega
      · exact hy z hz

theorem sortInts_pairwise (xs : List Int) : (sortInts xs).Pairwise (· ≤ ·) := by
  induction xs with
  | nil => exact .nil
  | cons x xs ih => exact insertInt_pairwise ih

theorem getD_append_middle (xs ys : List Int) (a : Int) {n : Nat} (h : n = xs.length) : (xs ++ a :: ys).getD n 0 = a := by
  subst h
  simp

theorem medianOf_odd {xs ys : List Int} (a : Int) (h : xs.length = ys.length) : medianOf (xs ++ a :: ys) = a := by
  have hn : (xs ++ a :: ys).length = 2 * xs.length + 1 := by
    rw [List.length_append, List.length_cons]
    omega
  unfold medianOf
  rw [hn]
  refine (if_pos (by omega)).trans (getD_append_middle xs ys a (by omega))

theorem medianOf_even {xs ys : List Int} (a b : Int) (h : xs.length = ys.length) :
    medianOf (xs ++ a :: b :: ys) = (a + b).tdiv 2 := by
  have hn : (xs ++ a :: b :: ys).length = 2 * xs.length + 2 := by
    rw [List.length_append, List.length_cons, List.length_cons]
    omega
  have hb := getD_append_middle (xs ++ [a]) ys b (n := (2 * xs.length + 2) / 2) (by rw [List.length_append, List.length_singleton]; omega)
  rw [List.append_assoc, List.singleton_append] at hb
  unfold medianOf
  rw [hn]
  refine (if_neg (by omega)).trans ?_
  rw [hb, getD_append_middle xs (b :: ys) a (by omega)]

/-! ## An agreement -/

theorem contribution_eq (s : State) : s.contribution = contributes s := by
  funext e
  unfold State.contribution contributes
  have hspan : 2 * sixteenths s.sw3.beaconInterval = 32 * s.sw3.beaconInterval := by
    unfold sixteenths ticksPerSecond
    omega
  rw [hspan] <;> rfl

theorem stepTarget_eq (target : Int) : stepTarget target = (max 0 (min 4294967295 target)).toNat := rfl

theorem stepTarget_cast (target : Int) : ((stepTarget target : Nat) : Int) = max 0 (min 4294967295 target) :=
  Int.toNat_of_nonneg (le_max_left ..)

/-- An agreement that steps the clock (R83). -/
theorem takeAgreement_steps {needed : Nat} (h : s.agreementAction needed = .step) (record : Agreement)
    (hrecord : record = { time := s.clock.time, contributors := s.contributors.length, median := s.median, action := .step }) :
    let t := s.stepTo ((s.clock.time : Int) + s.median)
    s.takeAgreement needed = { t with
      clock := { t.clock with agreement := some record }
      peers := { t.peers with entries := t.peers.entries.map fun e =>
        { e with offset := e.offset.map fun o => { o with ticks := o.ticks - s.stepAmount ((s.clock.time : Int) + s.median) } } }
      watch := t.watch.queue { kind := .clockStep, time := t.clock.time, lane := none, badge := none, rule := none, peer := none,
                               detail := some (stepDetail (s.stepAmount ((s.clock.time : Int) + s.median))) } } := by
  intro t
  unfold State.takeAgreement
  rw [h, hrecord]
  dsimp only
  rw [State.recordIncident_eq]
  rfl

theorem takeAgreement_spec (hs : s.station.serving = true) (hsized : s.bell.entries.length = 48) (hrange : ScheduleInRange s)
    (needed : Nat) : Agreed s (s.takeAgreement needed) needed := by
  have hoffsets : s.contributors = s.peers.entries.filterMap (contributes s) := by rw [State.contributors, contribution_eq]
  unfold Agreed
  rw [← hoffsets]
  intro offsets m threshold target record
  have hmedian : s.median = m := rfl
  refine ⟨fun hslew => ?_, fun hbeyond hfew => ?_, fun hbeyond henough => ?_⟩
  · have haction : s.agreementAction needed = .slew := if_pos hslew
    unfold State.takeAgreement
    rw [haction]
    rfl
  · have haction : s.agreementAction needed = .clampTo := (if_neg (not_le.2 hbeyond)).trans (if_neg (not_le.2 hfew))
    unfold State.takeAgreement
    rw [haction]
    rfl
  · have haction : s.agreementAction needed = .step := (if_neg (not_le.2 hbeyond)).trans (if_pos henough)
    have hsteps := takeAgreement_steps haction (record .step) rfl
    have htaken := stepTaken_stepTo hs hsized hrange ((s.clock.time : Int) + s.median)
    have hamount : s.stepAmount ((s.clock.time : Int) + s.median) = target - s.clock.time := by
      rw [State.stepAmount, stepTarget_cast]
      rfl
    rw [show stepTarget ((s.clock.time : Int) + s.median) = target.toNat from rfl] at htaken
    rw [hamount] at hsteps
    generalize s.stepTo ((s.clock.time : Int) + s.median) = t at hsteps htaken
    have honly := htaken.only
    have htime : t.clock = steppedClock s.clock target.toNat := by rw [honly]
    dsimp only at hsteps
    rw [htime] at hsteps
    rw [hsteps]
    refine ⟨rfl, ?_, ?_, ?_, ?_, ?_, ?_, ?_, ?_, ?_, htaken.stepped rfl rfl rfl rfl rfl rfl rfl rfl⟩ <;> rw [honly]

theorem serving_of_sending {x : StationState} (h : x.sending = true) : x.serving = true := by
  cases x <;> simp [StationState.sending, StationState.serving] at h ⊢

/-! ## BEACON_TIME -/

/-- Settles O42: the agreement on what the beacon placed leaves, and the median of a list. -/
theorem beaconTime : Obligations.BeaconTime := by
  refine ⟨fun s hs hsized hrange htimer => ?_, fun xs => ⟨sortInts_perm xs, sortInts_pairwise xs⟩, fun xs ys a h => medianOf_odd a h,
    fun xs ys a b h => medianOf_even a b h⟩
  intro placed
  have hexec : exec .beaconTime s = .next (s.placeBeacon.startBeaconTimer.takeAgreement 2) :=
    congrArg Host.Outcome.next ((s.event_taken _ hs.1).trans (if_pos ⟨hs.2, htimer⟩))
  have hplaced : s.placeBeacon.startBeaconTimer = placed := by
    have hinterval : sixteenths s.sw3.beaconInterval = 16 * s.sw3.beaconInterval := Nat.mul_comm ..
    show { s with line := { s.placeBeacon.line with beaconTimer := some (sixteenths s.sw3.beaconInterval) } } = placed
    rw [hinterval]
    rfl
  rw [hplaced] at hexec
  exact ⟨_, hexec, takeAgreement_spec (s := placed) (serving_of_sending hs.2) hsized.2.1 hrange 2⟩

end

end Sys2Proof.Machine
end

section
/-! SUPPORT. SET TIME and SHIFT TIME (R89, R90). -/

namespace Sys2Proof.Machine

section
variable {s : State}

/-! ## A change of era -/

/-- An own change of era (R89, R90): the step, with the new era, the offsets cleared, ERA_CHANGE and a beacon behind it. -/
theorem changeEra_eq (s : State) (target : Int) :
    let t := s.stepTo target
    s.changeEra target = { t with
      clock := { t.clock with era := t.clock.era + 1 }
      peers := { t.peers with entries := t.peers.entries.map fun e => { e with offset := none } }
      watch := t.watch.queue { kind := .eraChange, time := t.clock.time, lane := none, badge := none, rule := none, peer := none,
                               detail := some (stepDetail (s.stepAmount target)) }
      line := { t.line with beacon := some t.line.nextTag, nextTag := t.line.nextTag + 1 } } := by
  intro t
  unfold State.changeEra
  rw [State.recordIncident_eq]
  rfl

/-- What a step with a change of era leaves (R89, R90). -/
def EraChanged (s t : State) (x : Nat) : Prop :=
  t.clock = { steppedClock s.clock x with era := s.clock.era + 1 } ∧
    (∀ e ∈ t.peers.entries, e.offset = none) ∧
    t.peers = { s.peers with entries := s.peers.entries.map fun e => { e with offset := none } } ∧
    (∃ tag, s.line.nextTag ≤ tag ∧ t.line.beacon = some tag ∧ t.line.nextTag = tag + 1) ∧
    t.line = { s.line with cues := t.line.cues, beacon := t.line.beacon, nextTag := t.line.nextTag } ∧
    t.supply = s.supply ∧ t.badges = s.badges ∧ t.inputs = s.inputs ∧ t.journal = s.journal ∧ t.inReset = s.inReset ∧
    t.pending = s.pending ∧
    Stepped s t x
      { kind := .eraChange, time := x, lane := none, badge := none, rule := none, peer := none,
        detail := some (max (-2147483648) (min 2147483647 ((x : Int) - s.clock.time))) }

theorem eraChanged_changeEra (hs : s.station.serving = true) (hsized : s.bell.entries.length = 48) (hrange : ScheduleInRange s)
    {target : Int} {x : Nat} (hx : stepTarget target = x) :
    EraChanged s (s.changeEra target) x ∧ (s.changeEra target).port = { s.port with payFlag := (s.changeEra target).port.payFlag } := by
  have htaken := stepTaken_stepTo hs hsized hrange target
  have hera := changeEra_eq s target
  have hamount : s.stepAmount target = (x : Int) - s.clock.time := by rw [State.stepAmount, hx]
  rw [hx] at htaken
  rw [hamount] at hera
  generalize s.stepTo target = t at htaken hera
  have honly := htaken.only
  have htags := htaken.tags
  have htime : t.clock = steppedClock s.clock x := by rw [honly]
  have hpeers : t.peers = s.peers := by rw [honly]
  dsimp only at hera
  rw [htime, hpeers] at hera
  rw [hera]
  refine ⟨⟨rfl, fun e he => ?_, rfl, ⟨_, htags, rfl, rfl⟩, ?_, ?_, ?_, ?_, ?_, ?_, ?_, htaken.stepped rfl rfl rfl rfl rfl rfl rfl rfl⟩, ?_⟩
  · obtain ⟨f, -, rfl⟩ := List.mem_map.1 he
    rfl
  all_goals rw [honly]

/-! ## The commands -/

/-- The port plays no part in a change of era but for PAY_FLAG. -/
theorem EraChanged.of_port {t : State} {x : Nat} {p : TerminalPort} (hflag : p.payFlag = s.port.payFlag)
    (h : EraChanged { s with port := p } t x) (c : ResultCode) : EraChanged s (t.answer c) x := by
  obtain ⟨hclock, hoffsets, hpeers, htag, hline, hsupply, hbadges, hinputs, hjournal, hreset, hpending, hstepped⟩ := h
  have haside := Stepped.aside (peers := s.peers) hstepped hflag
  exact ⟨hclock, hoffsets, hpeers, htag, hline, hsupply, hbadges, hinputs, hjournal, hreset, hpending, haside⟩

theorem stepTarget_time (time : BitVec 32) : stepTarget (time.toNat : Int) = time.toNat := by
  have htop := time.isLt
  rw [stepTarget_eq]
  omega

/-- In SETUP no CLOCK record is taken, so a step moves the clock alone. -/
theorem markEnd_setup (hs : s.station = .setup) (x : Nat) : (s.timed x).markEnd = s.stepped x := by
  have htaken : ¬ (s.stepped x).faultsTaken = true := fun h => of_decide_eq_true h hs
  by_cases hx : x = 4294967295
  · cases he : s.clock.endMark with
    | false =>
      rw [markEnd_reached hx he]
      exact if_neg htaken
    | true => exact markEnd_stands (by simp [hx, he])
  · cases he : s.clock.endMark with
    | false => exact markEnd_stands (by simp [hx, he])
    | true =>
      rw [markEnd_left hx he]
      exact if_neg htaken

theorem setClock_eq (hs : s.station = .setup) (time : BitVec 32) (era : BitVec 8) :
    s.setClock time.toNat era = { s with clock := { steppedClock s.clock time.toNat with era := era, clockSet := true } } := by
  have hstep : s.stepTo (time.toNat : Int) = s.stepped time.toNat := by
    have hmoved : s.stepTo (time.toNat : Int) = (s.timed (stepTarget time.toNat)).markEnd := if_pos hs
    rw [hmoved, stepTarget_time, markEnd_setup hs]
  rw [State.setClock, hstep]
  rfl

theorem exec_setTime_setup (h : s.inSetup) {time : BitVec 32} {era : BitVec 8} (hc : s.portTakes (.setTime time era)) :
    ∃ r, exec (.setTime time era) s = .next (((s.load r).setClock time.toNat era).answer .done) :=
  ⟨_, congrArg Host.Outcome.next ((s.command_taken _ _ .notJoin _ h.1 hc (by rw [h.2]; rfl)).trans
    (if_pos (by rw [State.load_station]; exact h.2)))⟩

theorem exec_setTime (h : s.sends) {time : BitVec 32} {era : BitVec 8} (hc : s.portTakes (.setTime time era)) :
    ∃ r, exec (.setTime time era) s = .next (((s.load r).changeEra time.toNat).answer .done) := by
  have hs : s.station ≠ .setup := by
    intro hx
    have hsends := h.2
    rw [hx] at hsends
    cases hsends
  refine ⟨_, congrArg Host.Outcome.next ((s.command_taken _ _ .notJoin _ h.1 hc ?_).trans (if_neg (by rw [State.load_station]; exact hs)))⟩
  show (_ || s.station.sending) = true
  rw [h.2, Bool.or_true]

theorem exec_shiftTime (h : s.sends) {a : BitVec 16} (hc : s.portTakes (.shiftTime a)) :
    ∃ r, exec (.shiftTime a) s = .next (if -180 ≤ a.toInt ∧ a.toInt ≤ 180 then
      ((s.load r).changeEra ((s.clock.time : Int) + a.toInt * 960)).answer .done else (s.load r).answer .badValue) := by
  have hclock (r : Request) : (s.load r).clock = s.clock := by simp
  have hexec := congrArg Host.Outcome.next (s.command_taken (.shiftTime a) { code := 0x67, a := some a } .sending (fun x =>
    if -180 ≤ a.toInt ∧ a.toInt ≤ 180 then (x.changeEra ((x.clock.time : Int) + a.toInt * 960)).answer .done
    else x.answer .badValue) h.1 hc h.2) (β := Host.Outcome State Fault Refusal)
  rw [hclock] at hexec
  exact ⟨_, hexec⟩

/-- A change of era by a command: its effect, and its answer. -/
theorem eraChanged_command (hs : s.station.serving = true) (hsized : s.bell.entries.length = 48) (hrange : ScheduleInRange s)
    (r : Request) {target : Int} {x : Nat} (hx : stepTarget target = x) :
    Completed s (((s.load r).changeEra target).answer .done) .done ∧ EraChanged s (((s.load r).changeEra target).answer .done) x := by
  have hload := s.load_only r
  have hoverrun := s.load_overrun r
  have hflag := s.load_payFlag r
  generalize s.load r = y at hload hoverrun hflag ⊢
  generalize y.port = p at hload hoverrun hflag
  subst hload
  obtain ⟨hchanged, hport⟩ := eraChanged_changeEra (s := { s with port := p }) hs hsized hrange hx
  refine ⟨completed_answer .done ?_, hchanged.of_port hflag .done⟩
  rw [hport]
  exact hoverrun

/-- Settles O10, by the command and the station state. -/
theorem setTime : Obligations.SetTime := by
  refine ⟨fun time era s hs hc => ?_, fun s hs hsized hrange => ?_⟩
  · obtain ⟨r, hexec⟩ := exec_setTime_setup hs hc (time := time) (era := era)
    have hclock : (s.load r).clock = s.clock := by simp
    rw [setClock_eq (by rw [State.load_station]; exact hs.2), hclock] at hexec
    refine ⟨_, hexec, ?_, completed_answer .done (s.load_overrun r), s.load_payFlag r, rfl⟩
    rw [State.load_only]
    rfl
  · intro target
    have hserves := serving_of_sending hs.2
    refine ⟨fun a hc hnone => ?_, fun c x hc hsome => ?_⟩
    · obtain ⟨r, hexec⟩ := exec_shiftTime hs hc
      have hbad : ¬ (-180 ≤ a.toInt ∧ a.toInt ≤ 180) := fun h => by
        have hgood : target (.shiftTime a) = _ := if_pos h
        rw [hgood] at hnone
        cases hnone
      rw [if_neg hbad] at hexec
      exact ⟨_, hexec, onlyAnswered_load s _ _⟩
    · cases c with
      | setTime time era =>
        obtain rfl : time.toNat = x := Option.some.inj hsome
        obtain ⟨r, hexec⟩ := exec_setTime hs hc
        exact ⟨_, hexec, eraChanged_command hserves hsized.2.1 hrange r (stepTarget_time time)⟩
      | shiftTime a =>
        obtain ⟨r, hexec⟩ := exec_shiftTime hs hc
        by_cases hgood : -180 ≤ a.toInt ∧ a.toInt ≤ 180
        · have htarget : target (.shiftTime a) = _ := if_pos hgood
          obtain rfl := Option.some.inj (htarget.symm.trans hsome)
          rw [if_pos hgood] at hexec
          refine ⟨_, hexec, eraChanged_command hserves hsized.2.1 hrange r ?_⟩
          rw [stepTarget_eq, Int.mul_comm]
        · have htarget : target (.shiftTime a) = none := if_neg hgood
          rw [htarget] at hsome
          cases hsome
      | _ => cases hsome

end

end Sys2Proof.Machine
end

section
/-! SUPPORT. A BEACON frame from a peer (R80, R87, R88, R134, R135). -/

namespace Sys2Proof.Machine

section
variable {s y : State} {p : Station} {E : PeerEntry} {deadline : Nat} {watch : WatchUnit}

/-! ## The peer table while a frame is taken -/

/-- A state that differs from `s` in the entry of one peer, the doubt deadline and the watch unit. -/
structure PeerTaken (s y : State) (p : Station) (E : PeerEntry) (deadline : Nat) (watch : WatchUnit) : Prop where
  only : y = { s with peers := y.peers, watch := watch }
  isolated : y.peers.isolated = s.peers.isolated
  deadline : y.peers.deadline = deadline
  sized : y.peers.entries.length = 16
  own : y.peer p = E
  others : ∀ q, q ≠ p → y.peer q = s.peer q

theorem PeerTaken.modPeer (h : PeerTaken s y p E deadline watch) (f : PeerEntry → PeerEntry) :
    PeerTaken s (y.modPeer p f) p (f E) deadline watch := by
  have hpeer (q : Station) := y.peer_modPeer p q f h.sized
  refine ⟨?_, h.isolated, h.deadline, (modAt_length ..).trans h.sized, ?_, fun q hq => ?_⟩
  · exact congrArg (fun x : State => { x with peers := (y.modPeer p f).peers }) h.only
  · rw [hpeer, if_pos rfl, h.own]
  · rw [hpeer, if_neg hq, h.others q hq]

theorem PeerTaken.openDoubt (h : PeerTaken s y p E s.peers.deadline s.watch) (c : DoubtCause) (q : Option Station) :
    PeerTaken s (y.openDoubt c q) p E (doubtDeadline s) (doubtQueue s s.watch c q) := by
  obtain ⟨honly, hisolated, hdeadline, hsized, hown, hothers⟩ := h
  have hclock : y.clock = s.clock := by rw [honly]
  have hcontrol : y.control = s.control := by rw [honly]
  have hwatch : y.watch = s.watch := by rw [honly]
  have hdoubt : doubtDeadline y = doubtDeadline s := by
    unfold doubtDeadline State.sw3
    rw [hclock, hdeadline, hcontrol]
  have hqueue : doubtQueue y y.watch c q = doubtQueue s s.watch c q := by
    unfold doubtQueue
    rw [hclock, hdeadline, hisolated, hwatch]
  rw [State.openDoubt_eq, hdoubt, hqueue]
  refine ⟨?_, hisolated, rfl, hsized, hown, hothers⟩
  exact congrArg (fun x : State =>
    { x with peers := { y.peers with deadline := doubtDeadline s }, watch := doubtQueue s s.watch c q }) honly

theorem peerTaken_hear (hsized : s.peers.entries.length = 16) (p : Station) :
    PeerTaken s (s.hear p) p
      { s.peer p with state := .heard, lastFrame := some s.clock.time, silence := some (16 * s.sw3.silenceLimit) }
      s.peers.deadline s.watch := by
  obtain ⟨hown, hothers, -⟩ := heard_hear hsized p
  exact ⟨rfl, rfl, rfl, (modAt_length ..).trans hsized, hown, hothers⟩

/-! ## The number and the fields of a beacon -/

/-- How far a beacon's next number lies ahead of the expected one (R134). -/
def beaconGap (s : State) (f : BeaconFrame) : Nat :=
  match (s.peer f.source).expected with
  | none => 0
  | some x => if f.fresh then 0 else (f.next - x).toNat

/-- A beacon's number is a gap (R134). -/
abbrev beaconJumped (s : State) (f : BeaconFrame) : Prop := 1 ≤ beaconGap s f ∧ beaconGap s f ≤ 127

/-- The era of a beacon is ahead of the own one (R87). -/
abbrev beaconAhead (s : State) (f : BeaconFrame) : Prop := 1 ≤ (f.era - s.clock.era).toNat ∧ (f.era - s.clock.era).toNat ≤ 127

/-- The entry of a peer whose beacon is taken, with the offset that it keeps (R130, R134, R135). -/
def beaconHeard (s : State) (f : BeaconFrame) (offset : Option Offset) : PeerEntry :=
  let e := s.peer f.source
  { e with
    state := .heard
    lastFrame := some s.clock.time
    silence := some (16 * s.sw3.silenceLimit)
    era := some f.era
    reported := some f.state
    reportedIsolated := f.isolated
    offset := offset
    expected := if f.fresh = true ∨ beaconJumped s f ∨ e.expected = none then some f.next else e.expected
    gap := if beaconJumped s f then min 255 (e.gap + beaconGap s f) else e.gap
    behindEra := if f.era = s.clock.era ∨ beaconAhead s f then e.behindEra else min 255 (e.behindEra + 1) }

/-- The doubt that a beacon's number opens (R134, R138). -/
def beaconDeadline (s : State) (f : BeaconFrame) : Nat := if f.fresh = true ∨ beaconJumped s f then doubtDeadline s else s.peers.deadline

def beaconDoubted (s : State) (f : BeaconFrame) : WatchUnit :=
  if f.fresh = true then doubtQueue s s.watch .fresh (some f.source)
  else if beaconJumped s f then doubtQueue s s.watch .beaconGap (some f.source) else s.watch

/-- The entry of a peer with the fields of its beacon recorded, before its number is taken. -/
def beaconRecorded (s : State) (f : BeaconFrame) : PeerEntry :=
  { s.peer f.source with
    state := .heard
    lastFrame := some s.clock.time
    silence := some (16 * s.sw3.silenceLimit)
    era := some f.era
    reported := some f.state
    reportedIsolated := f.isolated
    behindEra := if f.era = s.clock.era ∨ beaconAhead s f then (s.peer f.source).behindEra
      else min 255 ((s.peer f.source).behindEra + 1) }

theorem peerTaken_record (hsized : s.peers.entries.length = 16) (f : BeaconFrame) :
    PeerTaken s ((s.hear f.source).recordBeacon f) f.source (beaconRecorded s f) s.peers.deadline s.watch := by
  have hbehind : (if f.era = s.clock.era ∨ aheadOf f.era s.clock.era = true then (s.peer f.source).behindEra
      else satAdd max8 (s.peer f.source).behindEra 1) =
      if f.era = s.clock.era ∨ beaconAhead s f then (s.peer f.source).behindEra
      else min 255 ((s.peer f.source).behindEra + 1) := if_congr (or_congr_right (aheadOf_iff ..)) rfl rfl
  unfold beaconRecorded
  rw [← hbehind]
  exact (peerTaken_hear hsized f.source).modPeer _

/-- The number of a beacon taken (R134). -/
def State.numbered (s : State) (f : BeaconFrame) : State :=
  (if f.fresh then s.takeFresh f.source f.next else s).trackBeacon f.source f.next

theorem aheadOf_self (n : BitVec 8) : aheadOf n n = false := by
  rw [← Bool.not_eq_true, aheadOf_iff]
  simp

theorem peerTaken_numbered (hsized : s.peers.entries.length = 16) (f : BeaconFrame) :
    PeerTaken s (((s.hear f.source).recordBeacon f).numbered f) f.source (beaconHeard s f (s.peer f.source).offset)
      (beaconDeadline s f) (beaconDoubted s f) := by
  have hrecorded := peerTaken_record hsized f
  generalize (s.hear f.source).recordBeacon f = y at hrecorded ⊢
  have hexpected : (y.peer f.source).expected = (s.peer f.source).expected := by rw [hrecorded.own]; rfl
  unfold State.numbered
  by_cases hfresh : f.fresh = true
  · have hgap : beaconGap s f = 0 := by
      unfold beaconGap
      cases (s.peer f.source).expected with
      | none => rfl
      | some x => exact if_pos hfresh
    have htaken := (hrecorded.modPeer fun x => { x with expected := some f.next }).openDoubt .fresh (some f.source)
    have hstays : (y.takeFresh f.source f.next).trackBeacon f.source f.next = y.takeFresh f.source f.next := by
      have hnext : ((y.takeFresh f.source f.next).peer f.source).expected = some f.next := by
        rw [State.takeFresh, htaken.own]
      unfold State.trackBeacon
      rw [hnext]
      exact if_neg (by rw [aheadOf_self]; decide)
    rw [if_pos hfresh, hstays]
    have hheard : beaconHeard s f (s.peer f.source).offset = { beaconRecorded s f with expected := some f.next } := by
      unfold beaconHeard beaconJumped
      rw [hgap]
      simp [hfresh, beaconRecorded]
    rw [hheard, beaconDeadline, beaconDoubted, if_pos (.inl hfresh), if_pos hfresh]
    exact htaken
  · rw [if_neg hfresh]
    unfold State.trackBeacon beaconDeadline beaconDoubted
    rw [hexpected, if_neg hfresh]
    cases hx : (s.peer f.source).expected with
    | none =>
      have hgap : beaconGap s f = 0 := by rw [beaconGap, hx]
      have hjumped : ¬ beaconJumped s f := by
        unfold beaconJumped
        rw [hgap]
        decide
      have hheard : beaconHeard s f (s.peer f.source).offset = { beaconRecorded s f with expected := some f.next } := by
        rw [beaconHeard, if_pos (.inr (.inr hx)), if_neg hjumped]
        rfl
      rw [hheard, if_neg (not_or.2 ⟨hfresh, hjumped⟩), if_neg hjumped]
      exact hrecorded.modPeer _
    | some x =>
      have hgap : beaconGap s f = (f.next - x).toNat := by
        rw [beaconGap, hx]
        exact if_neg hfresh
      have hiff : aheadOf f.next x = true ↔ beaconJumped s f := by
        unfold beaconJumped
        rw [hgap]
        exact aheadOf_iff ..
      by_cases hjumped : beaconJumped s f
      · have hheard : beaconHeard s f (s.peer f.source).offset = { beaconRecorded s f with
            gap := min 255 ((s.peer f.source).gap + (f.next - x).toNat), expected := some f.next } := by
          rw [beaconHeard, if_pos (.inr (.inl hjumped)), if_pos hjumped, hgap]
          rfl
        rw [hheard, if_pos (.inr hjumped), if_pos hjumped]
        dsimp only
        rw [if_pos (hiff.2 hjumped)]
        exact (hrecorded.modPeer fun e => { e with gap := satAdd max8 e.gap (f.next - x).toNat, expected := some f.next }).openDoubt
          .beaconGap (some f.source)
      · have hheard : beaconHeard s f (s.peer f.source).offset = beaconRecorded s f := by
          rw [beaconHeard, if_neg (by simp [hfresh, hjumped, hx]), if_neg hjumped]
          rfl
        rw [hheard, if_neg (not_or.2 ⟨hfresh, hjumped⟩), if_neg hjumped]
        dsimp only
        rw [if_neg (mt hiff.1 hjumped)]
        exact hrecorded

/-! ## The offset and the era of a beacon -/

/-- The offset that a beacon of an equal era gives (R80). -/
def beaconOffset (s : State) (f : BeaconFrame) : Offset :=
  { ticks := ((f.time.toNat + s.sw3.latency : Nat) : Int) - s.clock.time, takenAt := s.clock.realTime }

/-- A beacon whose era is not ahead (R80, R135): its offset kept with an equal era, and none otherwise. -/
theorem peerTaken_clockBeacon (h : PeerTaken s y p E deadline watch) {f : BeaconFrame} (hp : p = f.source)
    (hahead : ¬ beaconAhead s f) :
    PeerTaken s (y.clockBeacon f) p { E with offset := if f.era = s.clock.era then some (beaconOffset s f) else none }
      deadline watch := by
  subst hp
  have honly := h.only
  have hclock : y.clock = s.clock := by rw [honly]
  have hcontrol : y.sw3 = s.sw3 := by rw [honly]; rfl
  unfold State.clockBeacon State.storeOffset State.beaconTarget
  rw [hclock, hcontrol]
  by_cases hera : f.era = s.clock.era
  · rw [if_pos hera, if_pos hera]
    exact h.modPeer _
  · rw [if_neg hera, if_neg hera, if_neg (mt (aheadOf_iff ..).1 hahead)]
    exact h.modPeer _

theorem peer_map {t : State} (hsized : y.peers.entries.length = 16) {g : PeerEntry → PeerEntry}
    (ht : t.peers.entries = y.peers.entries.map g) (q : Station) : t.peer q = g (y.peer q) := by
  have hq : q.val < y.peers.entries.length := by rw [hsized]; exact q.isLt
  rw [State.peer, State.peer, ht, List.getD_eq_getElem _ _ hq, List.getD_eq_getElem _ _ (by rw [List.length_map]; exact hq),
    List.getElem_map]

/-- A stepped state with an adopted era and the stored offsets cleared (R88). -/
def State.eraTaken (u : State) (era : BitVec 8) : State :=
  { u with
    clock := { u.clock with era := era, remainder := 0 }
    peers := { u.peers with entries := u.peers.entries.map fun e => { e with offset := none } } }

/-- An era adopted (R88): the step, with the era of the beacon, the offsets cleared but for the new one, and ERA_CHANGE. -/
theorem adoptEra_eq (y : State) (f : BeaconFrame) {u : State} (hu : y.stepTo (y.beaconTarget f) = u) :
    y.adoptEra f =
      { u.eraTaken f.era with
        peers := ((u.eraTaken f.era).modPeer f.source fun e =>
          { e with offset := some { ticks := y.beaconTarget f - u.clock.time, takenAt := u.clock.realTime } }).peers
        watch := u.watch.queue { kind := .eraChange, time := u.clock.time, lane := none, badge := none, rule := none,
                                 peer := some f.source, detail := some (stepDetail (y.stepAmount (y.beaconTarget f))) } } := by
  subst hu
  unfold State.adoptEra
  rw [State.recordIncident_eq]
  rfl

theorem stepTarget_nat (n : Nat) : stepTarget (n : Int) = min 4294967295 n := by
  rw [stepTarget_eq]
  omega

/-- What an era adopted from a beacon leaves (R88). -/
theorem adoptEra_spec (hs : s.station.serving = true) (hentries : s.bell.entries.length = 48) (hrange : ScheduleInRange s)
    {f : BeaconFrame} (h : PeerTaken s y f.source E deadline watch) :
    let given : Nat := f.time.toNat + s.sw3.latency
    let x := min 4294967295 given
    let t := y.adoptEra f
    (t.peers.isolated = s.peers.isolated ∧ t.peers.deadline = deadline) ∧
      t.clock = { steppedClock s.clock x with era := f.era } ∧
      t.port = { s.port with payFlag := t.port.payFlag } ∧ t.supply = s.supply ∧
      t.line = { s.line with cues := t.line.cues, nextTag := t.line.nextTag } ∧
      (∀ q, q ≠ f.source → t.peer q = { s.peer q with offset := none }) ∧
      t.peer f.source = { E with offset := some { ticks := (given : Int) - x, takenAt := s.clock.realTime } } ∧
      t.badges = s.badges ∧ t.inputs = s.inputs ∧ t.journal = s.journal ∧ t.inReset = s.inReset ∧
      t.pending = s.pending ∧
      Stepped { s with watch := watch } t x
        { kind := .eraChange, time := x, lane := none, badge := none, rule := none, peer := some f.source,
          detail := some (max (-2147483648) (min 2147483647 ((x : Int) - s.clock.time))) } := by
  intro given x t
  obtain ⟨honly, hisolated, hdeadline, hsized, hown, hothers⟩ := h
  have hbeacon : y.beaconTarget f = (given : Int) := by
    rw [honly]
    rfl
  have htaken := stepTaken_stepTo (s := y) (by rw [honly]; exact hs) (by rw [honly]; exact hentries) (by rw [honly]; exact hrange)
    (y.beaconTarget f)
  have hclock : y.clock = s.clock := by rw [honly]
  have hamount : y.stepAmount (given : Int) = (x : Int) - s.clock.time := by
    rw [State.stepAmount, stepTarget_nat, hclock]
  generalize hu : y.stepTo (y.beaconTarget f) = u at htaken
  have ht : t = _ := adoptEra_eq y f hu
  rw [hbeacon, stepTarget_nat] at htaken
  rw [hbeacon, hamount] at ht
  have hstep := htaken.only
  have htime : u.clock = steppedClock s.clock x := by rw [hstep, hclock]
  have hnow : u.clock.time = x := by rw [htime]; rfl
  have hpeers : u.peers = y.peers := by rw [hstep]
  rw [hnow] at ht
  have hcleared (q : Station) : (u.eraTaken f.era).peer q = { y.peer q with offset := none } :=
    peer_map (t := u.eraTaken f.era) (g := fun e : PeerEntry => { e with offset := none }) hsized (by rw [← hpeers]; rfl) q
  have hlength : (u.eraTaken f.era).peers.entries.length = 16 :=
    (List.length_map ..).trans ((congrArg (fun p : PeerTable => p.entries.length) hpeers).trans hsized)
  have hmod (q : Station) := (u.eraTaken f.era).peer_modPeer f.source q
    (fun e => { e with offset := some { ticks := (given : Int) - x, takenAt := u.clock.realTime } }) hlength
  have hpeer (q : Station) : t.peer q = _ := (congrArg (fun z : State => z.peer q) ht).trans (hmod q)
  have hreal : u.clock.realTime = s.clock.realTime := by rw [htime]; rfl
  refine ⟨⟨?_, ?_⟩, ?_, ?_, ?_, ?_, fun q hq => ?_, ?_, ?_, ?_, ?_, ?_, ?_, ?_⟩
  · rw [ht]
    exact (congrArg PeerTable.isolated hpeers).trans hisolated
  · rw [ht]
    exact (congrArg PeerTable.deadline hpeers).trans hdeadline
  · rw [ht]
    exact congrArg (fun c : Clock => { c with era := f.era, remainder := 0 }) htime
  · rw [ht]
    exact (congrArg State.port hstep).trans (by rw [honly]; rfl)
  · rw [ht]
    exact (congrArg State.supply hstep).trans (by rw [honly])
  · rw [ht]
    exact (congrArg State.line hstep).trans (by rw [honly]; rfl)
  · rw [hpeer, if_neg hq, hcleared, hothers q hq]
  · rw [hpeer, if_pos rfl, hcleared, hown, hreal]
  · rw [ht]
    exact (congrArg State.badges hstep).trans (by rw [honly])
  · rw [ht]
    exact (congrArg State.inputs hstep).trans (by rw [honly])
  · rw [ht]
    exact (congrArg State.journal hstep).trans (by rw [honly])
  · rw [ht]
    exact (congrArg State.inReset hstep).trans (by rw [honly])
  · rw [ht]
    exact (congrArg State.pending hstep).trans (by rw [honly])
  · have hstepped : Stepped y t x
        { kind := .eraChange, time := x, lane := none, badge := none, rule := none, peer := some f.source,
          detail := some (max (-2147483648) (min 2147483647 ((x : Int) - s.clock.time))) } := by
      rw [ht]
      exact htaken.stepped rfl rfl rfl rfl rfl rfl rfl rfl
    rw [honly] at hstepped
    exact Stepped.aside (s := { s with watch := watch }) (port := s.port) hstepped rfl

/-- Settles O48: the peer's entry with the number of its beacon taken, and then the beacon's time by its era. -/
theorem beaconFrameTaken : Obligations.BeaconFrameTaken := by
  intro f s hs hsized hrange hl hpeer e given ahead gap jumped doubted heard
  have htaken := peerTaken_numbered hsized.2.2.2.1 f
  have hexec : exec (.beacon f) s = .next ((((s.hear f.source).recordBeacon f).numbered f).clockBeacon f) :=
    (exec_beacon hs.1 f).trans (congrArg Host.Outcome.next (takeFrame_peer (listening_of hs.2 hl) (f := .beacon f) rfl hpeer _))
  generalize ((s.hear f.source).recordBeacon f).numbered f = y at htaken hexec
  by_cases hahead : beaconAhead s f
  · have hera : ¬ f.era = s.clock.era := fun h => by
      rw [beaconAhead, h] at hahead
      simp at hahead
    have hclock : y.clock = s.clock := by rw [htaken.only]
    have hadopt : y.clockBeacon f = y.adoptEra f := by
      unfold State.clockBeacon
      rw [hclock]
      exact (if_neg hera).trans (if_pos ((aheadOf_iff ..).2 hahead))
    obtain ⟨⟨hisolated, hdeadline⟩, hadopted⟩ := adoptEra_spec hs.2 hsized.2.1 hrange htaken
    rw [hadopt] at hexec
    exact ⟨_, hexec, hisolated, hdeadline, fun h => absurd hahead h, fun _ => hadopted⟩
  · have hkept := peerTaken_clockBeacon htaken rfl hahead
    generalize y.clockBeacon f = t at hkept hexec
    have hwatch : t.watch = beaconDoubted s f := by rw [hkept.only]
    refine ⟨t, hexec, hkept.isolated, hkept.deadline, fun _ => ⟨?_, hwatch, hkept.others, hkept.own⟩, fun h => absurd h hahead⟩
    rw [hwatch]
    exact hkept.only

end

end Sys2Proof.Machine
end

section
/-! SUPPORT. The end of JOIN (R169, R179). -/

namespace Sys2Proof.Machine

section
variable {s u : State} {x : Nat}

/-! ## What an agreement leaves of the watch unit and station control -/

/-- Incidents recorded and nothing else of the watch unit changed. -/
def Recorded (w v : WatchUnit) : Prop := v = { w with incidents := v.incidents, lost := v.lost }

theorem recorded_queue (w : WatchUnit) (i : Incident) : Recorded w (w.queue i) := by
  have hkept := queue_kept w i
  rw [WatchUnit.queue_handed] at hkept
  exact hkept

theorem Recorded.trans {w v z : WatchUnit} (h : Recorded w v) (h' : Recorded v z) : Recorded w z := by
  unfold Recorded at h h' ⊢
  generalize z.incidents = is at h' ⊢
  generalize z.lost = n at h' ⊢
  rw [h', h]

theorem Recorded.handed {w v : WatchUnit} (h : Recorded w v) : v = { w with incidents := v.incidents, lost := v.lost, handed := v.handed } := by
  have hhanded : v.handed = w.handed := by rw [h]
  rw [hhanded]
  exact h

theorem recorded_doubtQueue (s : State) (w : WatchUnit) (c : DoubtCause) (p : Option Station) : Recorded w (doubtQueue s w c p) := by
  unfold doubtQueue
  split
  · rfl
  · exact recorded_queue ..

theorem StationDetected.recorded {t : State} {r r' : FaultRecord} {w : FaultSetting} {kind : FaultKind} {incident : IncidentKind}
    {cause : FaultCause} (h : StationDetected s t r r' w kind incident cause) : Recorded s.watch t.watch := by
  obtain ⟨hsetup, hactive, hcounts, hactivates⟩ := h
  have hquiet (h : t.watch = s.watch) : Recorded s.watch t.watch := by
    rw [h]
    rfl
  by_cases hs : s.station = .setup
  · exact hquiet (hsetup hs).2.1
  by_cases hr : r.state = .active
  · exact hquiet (hactive hs hr).2.1
  by_cases hn : r.count + 1 < w.filter
  · exact hquiet (hcounts hs hr hn).2.1
  rw [(hactivates hs hr (not_lt.1 hn)).2.1]
  exact recorded_queue ..

theorem EndMarked.recorded {v : State} (h : EndMarked s v x) : Recorded s.watch v.watch := by
  obtain ⟨-, hreached, hleft, hstands⟩ := h
  by_cases hx : x = 4294967295
  · cases he : s.clock.endMark with
    | false =>
      have hdetected := (hreached hx he).recorded
      exact hdetected
    | true => rw [hstands (by simp [hx, he])]; rfl
  · cases he : s.clock.endMark with
    | false => rw [hstands (by simp [hx, he])]; rfl
    | true => rw [hleft hx he]; rfl

theorem Agreed.kept {needed : Nat} (h : Agreed s u needed) :
    Recorded s.watch u.watch ∧ u.control.sw3 = s.control.sw3 ∧ (u.station = s.station ∨ s.station = .live ∧ u.station = .held) ∧
      u.inReset = s.inReset := by
  obtain ⟨hslew, hclamp, hstep⟩ := h
  by_cases hwithin : (medianOf (sortInts (0 :: s.peers.entries.filterMap (contributes s)))).natAbs ≤ s.sw4.stepThreshold
  · rw [hslew hwithin]
    exact ⟨rfl, rfl, .inl rfl, rfl⟩
  by_cases hfew : (s.peers.entries.filterMap (contributes s)).length < needed
  · rw [hclamp (not_le.1 hwithin) hfew]
    exact ⟨rfl, rfl, .inl rfl, rfl⟩
  obtain ⟨-, -, -, -, -, -, -, -, hreset, -, -, v, hmarked, -, -, -, hcontrol, hwatch⟩ := hstep (not_le.1 hwithin) (not_lt.1 hfew)
  obtain ⟨⟨hsw3, -⟩, -, hstation⟩ := hmarked.settings
  rw [State.station, hcontrol, hwatch]
  exact ⟨hmarked.recorded.trans (recorded_queue ..), hsw3, hstation, hreset⟩

/-! ## The evac slot at the end of JOIN -/

/-- An unsent ALL CLEAR leaves the evac slot (R117). -/
theorem removeAllClear_line (s : State) : (s.removeEvac fun f => decide (f = .allClear)).line =
    { s.line with evac := s.line.evac.filter fun e => !unsentAllClear s e } := by
  have hkeeps (e : Option EvacSlot) (h : s.line.evac = e) : s.line = { s.line with evac := e } := by
    rw [← h]
  cases he : s.line.evac with
  | none =>
    have hline : (s.removeEvac fun f => decide (f = .allClear)).line = s.line := by
      show (match s.line.evac with | none => s.line | some e => _) = s.line
      rw [he]
    exact hline.trans (hkeeps none he)
  | some e =>
    have hline : (s.removeEvac fun f => decide (f = .allClear)).line =
        if unsentAllClear s e then { s.line with evac := none } else s.line := by
      have hsent : (match s.line.sending with
          | some y => decide (y.hand = { kind := e.frame.kind, tag := e.tag })
          | none => false) = s.line.sending.any fun y => decide (y.hand = { kind := e.frame.kind, tag := e.tag }) := by
        cases s.line.sending <;> rfl
      have hunsent : (decide (e.frame = .allClear) && !s.line.sending.any fun y => decide (y.hand = { kind := e.frame.kind, tag := e.tag })) =
          unsentAllClear s e := by
        by_cases hf : e.frame = .allClear
        · rw [unsentAllClear, hf]
          rfl
        · rw [unsentAllClear, decide_eq_false hf, Bool.false_and, Bool.false_and]
      rw [← hunsent, ← hsent]
      unfold State.removeEvac State.modLine
      dsimp only
      rw [he] <;> rfl
    rw [hline]
    by_cases hun : unsentAllClear s e = true
    · rw [if_pos hun]
      simp [Option.filter, hun]
    · rw [if_neg hun]
      refine (hkeeps _ he).trans ?_
      simp [Option.filter, hun]

/-! ## The lanes at the end of JOIN -/

/-- A step that changes the lane it is taken on and hands events of it, taken on every lane in turn. -/
theorem foldl_lanes_handing_each {op : State → Lane → State} {g : Lane → LaneUnit → LaneUnit} {ev : Lane → LaneUnit → List LaneEvent}
    (s : State) (hop : ∀ (p : PerLane LaneUnit) (es : List LaneEvent) (l : Lane),
      op { s with lanes := p, watch := { s.watch with handed := es } } l =
        { s with lanes := p.set l (g l (p.get l)), watch := { s.watch with handed := es ++ ev l (p.get l) } }) :
    Lane.all.foldl op s =
      { s with
        lanes := s.lanes.mapEach g
        watch := { s.watch with handed := s.watch.handed ++ Lane.all.flatMap fun l => ev l (s.lane l) } } := by
  show op (op (op (op { s with lanes := s.lanes, watch := { s.watch with handed := s.watch.handed } } .lane1) .lane2) .lane3) .lane4 = _
  rw [hop, hop, hop, hop]
  simp only [Lane.all, List.flatMap_cons, List.flatMap_nil, List.append_nil, List.append_assoc]
  rfl

/-- A lane at the end of JOIN outside an evacuation, before its strike follows (R179 step 3). -/
def State.joinedLane (s : State) (l : Lane) (u : LaneUnit) : LaneUnit :=
  if u.kind = .off then u
  else if s.laneFaulted l then faultLane s u
  else if u.state = .idle ∧ s.laneHeld l = true then { u with state := .held } else u

/-- The UNUSED event of a lane that FAULT takes at the end of JOIN. -/
def State.joinedEvents (s : State) (l : Lane) (u : LaneUnit) : List LaneEvent :=
  if s.laneFaulted l = true ∧ u.state ≠ .fault then s.unusedFor l u else []

theorem joinLane_eq (hr : s.inReset = false) (hs : s.station = .live ∨ s.station = .held) (p : PerLane LaneUnit) (es : List LaneEvent)
    (l : Lane) : ({ s with lanes := p, watch := { s.watch with handed := es } } : State).joinLane l =
      { s with
        lanes := p.set l (s.joinedLane l (p.get l))
        watch := { s.watch with handed := es ++ s.joinedEvents l (p.get l) } } := by
  have hset (u v : LaneUnit) : (p.set l u).set l v = p.set l v := PerLane.set_set ..
  have hsame : p.set l (p.get l) = p := PerLane.set_get ..
  have hserving : s.station.serving = true := by rcases hs with h | h <;> rw [h] <;> rfl
  by_cases hk : (p.get l).kind = .off
  · have hlane : s.joinedLane l (p.get l) = p.get l := if_pos hk
    have hnone : s.joinedEvents l (p.get l) = [] := by
      have hoff : s.unusedFor l (p.get l) = [] := if_pos hk
      rw [State.joinedEvents, hoff, ite_self]
    rw [hlane, hnone, hsame, List.append_nil]
    exact if_pos hk
  · by_cases hf : s.laneFaulted l = true
    · have hlane : s.joinedLane l (p.get l) = faultLane s (p.get l) := (if_neg hk).trans (if_pos hf)
      have hevents : s.joinedEvents l (p.get l) = if (p.get l).state = .fault then [] else unusedOf { s with lanes := p } l := by
        by_cases hfault : (p.get l).state = .fault
        · rw [if_pos hfault]
          exact if_neg fun h => h.2 hfault
        · rw [if_neg hfault]
          exact (if_pos ⟨hf, hfault⟩).trans (if_neg hk)
      rw [hlane, hevents]
      exact (if_neg hk).trans ((if_pos hf).trans
        (State.enterFault_eq (s := { s with lanes := p, watch := { s.watch with handed := es } }) ⟨⟨hr, hserving⟩, hk⟩))
    · have hlane : s.joinedLane l (p.get l) =
          if (p.get l).state = .idle ∧ s.laneHeld l = true then { p.get l with state := .held } else p.get l :=
        (if_neg hk).trans (if_neg hf)
      have hnone : s.joinedEvents l (p.get l) = [] := if_neg fun h => hf h.1
      rw [hlane, hnone, List.append_nil]
      refine (if_neg hk).trans ((if_neg hf).trans ?_)
      by_cases hheld : (p.get l).state = .idle ∧ s.laneHeld l = true
      · rw [if_pos hheld]
        have hreach := State.reachHold_eq (s := { s with lanes := p, watch := { s.watch with handed := es } }) (l := l) hheld.2
        have hidle : State.heldBy { s with lanes := p, watch := { s.watch with handed := es } } (p.get l) = { p.get l with state := .held } :=
          if_pos ⟨hheld.1, .inr hs⟩
        exact hreach.trans (State.modLane_congr (g := fun u => { u with state := .held }) hidle)
      · rw [if_neg hheld, hsame]
        rcases hs with hs | hs <;> rw [State.reachHold, show State.station _ = _ from hs] <;> exact if_neg hheld

/-- The events that the lanes hand at the end of JOIN. -/
def State.joinEvents (s : State) : List LaneEvent := Lane.all.flatMap fun l => s.joinedEvents l (s.lane l)

theorem joinLanes_eq (hr : s.inReset = false) (hs : s.station = .live ∨ s.station = .held) :
    (Lane.all.foldl (fun s l => s.joinLane l) s).refreshDrives =
      { s with
        lanes := s.lanes.mapEach fun l u => (s.joinedLane l u).followed
        watch := { s.watch with handed := s.watch.handed ++ s.joinEvents } } := by
  rw [foldl_lanes_handing_each (op := State.joinLane) (g := s.joinedLane) (ev := s.joinedEvents) s fun p es l => joinLane_eq hr hs p es l]
  exact State.refreshDrives_live hs

theorem unusedFor_own (s : State) (l : Lane) (u : LaneUnit) : ∀ e ∈ s.unusedFor l u, ∃ k, e.lane = .own k := by
  unfold State.unusedFor
  split
  · exact fun _ he => absurd he List.not_mem_nil
  · split
    · exact fun _ he => absurd he List.not_mem_nil
    · intro e he
      rw [List.mem_singleton.1 he]
      exact ⟨l, rfl⟩

theorem joinEvents_own (s : State) : ∀ e ∈ s.joinEvents, ∃ k, e.lane = .own k := by
  intro e he
  obtain ⟨l, -, hl⟩ := List.mem_flatMap.1 he
  unfold State.joinedEvents at hl
  split at hl
  · exact unusedFor_own s l _ e hl
  · exact absurd hl List.not_mem_nil

theorem joinEvents_length (s : State) : s.joinEvents.length ≤ 4 := by
  have hone (l : Lane) : (s.joinedEvents l (s.lane l)).length ≤ 1 := by
    unfold State.joinedEvents State.unusedFor
    (repeat' split) <;> simp
  have h1 := hone .lane1
  have h2 := hone .lane2
  have h3 := hone .lane3
  have h4 := hone .lane4
  unfold State.joinEvents
  simp only [Lane.all, List.flatMap_cons, List.flatMap_nil, List.append_nil, List.length_append]
  omega

theorem joinEvents_none (h : ∀ l, (s.lane l).release = none) : s.joinEvents = [] := by
  refine List.flatMap_eq_nil_iff.2 fun l _ => ?_
  unfold State.joinedEvents State.unusedFor
  rw [h l]
  simp

/-! ## The beacon and the doubt at the end of JOIN -/

theorem doubtQueue_with_handed (s : State) (w : WatchUnit) (es : List LaneEvent) (c : DoubtCause) (p : Option Station) :
    doubtQueue s { w with handed := es } c p = { doubtQueue s w c p with handed := es } := by
  unfold doubtQueue
  split
  · rfl
  · exact queue_with_handed ..

/-- The line port with the beacon that ends JOIN placed (R118, R179). -/
def State.beaconPlaced (s : State) : LinePort :=
  { s.line with beacon := some s.line.nextTag, nextTag := s.line.nextTag + 1, beaconTimer := some (16 * s.sw3.beaconInterval) }

/-- The end of JOIN once the lanes are in their states (R179): the beacon, the doubt, and the events taken. -/
theorem endJoin_settled {y : State} {w : WatchUnit} {es : List LaneEvent}
    (hw : y.watch = { w with handed := w.handed ++ es }) (hnone : w.handed = []) (hunarmed : w.Unarmed) (hlen : es.length ≤ 4) :
    (y.placeBeacon.startBeaconTimer.openDoubt .liveEntry none).settleEvents =
      { y with
        line := y.beaconPlaced
        peers := { y.peers with deadline := doubtDeadline y }
        watch := ({ doubtQueue y w .liveEntry none with handed := [] } : WatchUnit).enterAll es } := by
  have hplaced : y.placeBeacon.startBeaconTimer = { y with line := y.beaconPlaced } := by
    have hinterval : sixteenths y.sw3.beaconInterval = 16 * y.sw3.beaconInterval := Nat.mul_comm ..
    rw [State.beaconPlaced, ← hinterval]
    rfl
  have hhanded : (doubtQueue y w .liveEntry none).handed = w.handed := doubtQueue_handed ..
  have hdoubt : doubtQueue y y.watch .liveEntry none =
      { doubtQueue y w .liveEntry none with handed := (doubtQueue y w .liveEntry none).handed ++ es } := by
    rw [hhanded, hw, doubtQueue_with_handed]
  rw [hplaced, State.openDoubt_eq]
  have hsettled := State.settleEvents_entered
    (s := { y with
      line := y.beaconPlaced, peers := { y.peers with deadline := doubtDeadline y }
      watch := doubtQueue y w .liveEntry none }) (events := es)
    (fun r => by rw [doubtQueue_rules]; exact hunarmed r) (by rw [hhanded, hnone]; exact (Nat.zero_add _).trans_le (hlen.trans (by decide)))
  refine (congrArg (fun v => State.settleEvents { y with
    line := y.beaconPlaced, peers := { y.peers with deadline := doubtDeadline y }, watch := v }) hdoubt).trans (hsettled.trans ?_)
  rw [State.entered, hhanded, hnone]
  rfl

theorem placeEvac_entered_line (s : State) (reason : EvacReason) (f : EvacFrame) :
    ((s.evacuated reason).placeEvac f).beaconPlaced =
      { s.line with
        evac := some { tag := s.line.nextTag, frame := f }
        beacon := some (s.line.nextTag + 1)
        nextTag := s.line.nextTag + 1 + 1
        beaconTimer := some (16 * s.sw3.beaconInterval) } := by
  rw [State.beaconPlaced, placeEvac_entered]
  rfl

theorem evacuated_beaconPlaced (s : State) (reason : EvacReason) : (s.evacuated reason).beaconPlaced =
    { s.line with
      evac := s.line.evac.filter fun e => !unsentAllClear s e
      beacon := some s.line.nextTag
      nextTag := s.line.nextTag + 1
      beaconTimer := some (16 * s.sw3.beaconInterval) } := by
  have hline : (s.evacuated reason).line = _ := removeAllClear_line s
  rw [State.beaconPlaced, hline]
  rfl

/-- An end of JOIN that enters EVACUATE (R169). -/
theorem joinEvacuation_settled (hnone : s.watch.handed = []) (hunarmed : s.watch.Unarmed) (reason : EvacReason) (clear : Bool) :
    let t := ((s.joinEvacuation reason clear).placeBeacon.startBeaconTimer.openDoubt .liveEntry none).settleEvents
    EvacuationBegun s t reason (fun w => doubtQueue s w .liveEntry none) ∧
      t = { s with lanes := t.lanes, bell := t.bell, line := t.line, peers := { s.peers with deadline := doubtDeadline s }
                   watch := t.watch, control := t.control } ∧
      (clear = true → t.line = { s.line with
        evac := some { tag := s.line.nextTag, frame := .clear (clearReasonOfEvac reason) }
        beacon := some (s.line.nextTag + 1)
        nextTag := s.line.nextTag + 1 + 1
        beaconTimer := some (16 * s.sw3.beaconInterval) }) ∧
      (clear = false → t.line = { s.line with
        evac := s.line.evac.filter fun e => !unsentAllClear s e
        beacon := some s.line.nextTag
        nextTag := s.line.nextTag + 1
        beaconTimer := some (16 * s.sw3.beaconInterval) }) := by
  generalize hy : s.joinEvacuation reason clear = y
  intro t
  have hentered : s.joinEvacuation reason clear =
      if clear then (s.evacuated reason).placeEvac (.clear (clearReasonOfEvac reason)) else s.evacuated reason := by
    rw [State.joinEvacuation, enterEvacuate_eq]
  have honly : y = { s.evacuated reason with line := y.line } := by
    rw [← hy, hentered]
    split <;> rfl
  have hhanded : (s.watch.queue (evacBegin s reason)).handed = [] := (WatchUnit.queue_handed ..).trans hnone
  have hwatch : y.watch = { s.watch.queue (evacBegin s reason) with
      handed := (s.watch.queue (evacBegin s reason)).handed ++ evacEvents s } := by
    rw [honly, WatchUnit.queue_handed]
    rfl
  have ht : t = _ := endJoin_settled hwatch hhanded (queue_unarmed hunarmed _) (evacEvents_length s)
  have hline : t.line = y.beaconPlaced := by rw [ht]
  have hdoubt : doubtQueue y (s.watch.queue (evacBegin s reason)) .liveEntry none =
      doubtQueue s (s.watch.queue (evacBegin s reason)) .liveEntry none := by
    rw [honly]
    rfl
  have hdeadline : doubtDeadline y = doubtDeadline s := by
    rw [honly]
    rfl
  have hpeers : y.peers = s.peers := by rw [honly]; rfl
  rw [hdoubt, hdeadline, hpeers] at ht
  refine ⟨⟨?_, ?_⟩, ?_, fun h => hline.trans ?_, fun h => hline.trans ?_⟩
  · rw [ht, honly]
    exact evacuationEntered_evacuated s reason
  · refine traced_enterAll (evacEvents_own s) ?_ (by rw [ht])
    exact ((recorded_queue s.watch _).trans (recorded_doubtQueue s _ _ _)).handed
  · rw [ht, honly]
    rfl
  · rw [← hy, hentered, if_pos h]
    exact placeEvac_entered_line ..
  · rw [← hy, hentered, if_neg (by rw [h]; decide)]
    exact evacuated_beaconPlaced ..

/-- The lane of an end of JOIN outside an evacuation (R179 step 3). -/
theorem joinedLane_followed (hs : s.station = .live ∨ s.station = .held) (l : Lane) (x : LaneUnit) :
    (x.kind = .off → (s.joinedLane l x).followed = { x with drive := liveDrive x }) ∧
      (x.kind ≠ .off → openFault s l → x.state = .fault → (s.joinedLane l x).followed = drivenLane x true) ∧
      (x.kind ≠ .off → openFault s l → x.state ≠ .fault →
        (s.joinedLane l x).followed = drivenLane
          { x with
            state := .fault
            release := none
            releaseTimer := if x.release.isSome then none else x.releaseTimer
            heldOpen := none } true) ∧
      (x.kind ≠ .off → ¬ openFault s l → x.state = .idle → heldLane s l →
        (s.joinedLane l x).followed = drivenLane { x with state := .held } false) ∧
      (x.kind ≠ .off → ¬ openFault s l → ¬ (x.state = .idle ∧ heldLane s l) →
        (s.joinedLane l x).followed = drivenLane x (liveDrive x)) := by
  refine ⟨fun hk => ?_, fun hk hf hx => ?_, fun hk hf hx => ?_, fun hk hf hx hheld => ?_, fun hk hf hx => ?_⟩
  · have hlane : s.joinedLane l x = x := if_pos hk
    rw [hlane, LaneUnit.followed_off hk]
  · have hlane : s.joinedLane l x = x := (if_neg hk).trans ((if_pos ((s.laneFaulted_iff l).2 hf)).trans (if_pos hx))
    rw [hlane, LaneUnit.followed_fitted hk (by rw [liveDrive, hx])]
  · have hlane : s.joinedLane l x = drivenLane
        { x with
          state := .fault
          release := none
          releaseTimer := if x.release.isSome then none else x.releaseTimer
          heldOpen := none } true := by
      refine (if_neg hk).trans ((if_pos ((s.laneFaulted_iff l).2 hf)).trans ((if_neg hx).trans ?_))
      have hdrive : decide (s.station ≠ .join) = true := by rcases hs with h | h <;> rw [h] <;> rfl
      rw [hdrive]
      rfl
    rw [hlane]
    exact LaneUnit.driven_self _
  · have hlane : s.joinedLane l x = { x with state := .held } :=
      (if_neg hk).trans ((if_neg (mt (s.laneFaulted_iff l).1 hf)).trans (if_pos ⟨hx, laneHeld_iff.2 hheld⟩))
    rw [hlane]
    exact LaneUnit.followed_fitted hk rfl
  · have hlane : s.joinedLane l x = x :=
      (if_neg hk).trans ((if_neg (mt (s.laneFaulted_iff l).1 hf)).trans (if_neg fun h => hx ⟨h.1, laneHeld_iff.1 h.2⟩))
    rw [hlane, LaneUnit.followed_fitted hk rfl]

/-- The state at the end of JOIN with the pending evacuation and the JOIN timer gone (R179 step 2). -/
def State.joining (u : State) : State := { u with control := { u.control with pendingEvac := none, joinTimer := none } }

/-- The state that the end of JOIN enters outside an evacuation, before its lanes (R179 step 2). -/
def State.serves (u : State) : State :=
  { u with control := { u.joining.control with station := if u.control.stationReasons = [] then .live else .held } }

theorem joinState_contact (h : u.control.contact = true) : u.joinState = u.joining.joinEvacuation .input true := if_pos h

theorem joinState_pending {p : PendingEvac} (h : u.control.contact = false) (hp : u.control.pendingEvac = some p) :
    u.joinState = u.joining.joinEvacuation p.reason p.clearMark := by
  refine (if_neg (by rw [h]; decide)).trans ?_
  rw [hp] <;> rfl

theorem joinState_serves (h : u.control.contact = false) (hp : u.control.pendingEvac = none) :
    u.joinState = (Lane.all.foldl (fun s l => s.joinLane l) u.serves).refreshDrives := by
  have hentered : (u.joining.modControl fun c => { c with station := if c.stationReasons.isEmpty then .live else .held }) = u.serves := by
    unfold State.serves
    rw [← if_congr (List.isEmpty_iff (l := u.control.stationReasons)) rfl rfl]
    rfl
  rw [← hentered]
  refine (if_neg (by rw [h]; decide)).trans ?_
  rw [hp] <;> rfl

theorem serves_station (u : State) : u.serves.station = .live ∨ u.serves.station = .held := by
  by_cases h : u.control.stationReasons = []
  · exact .inl (if_pos h)
  · exact .inr (if_neg h)

theorem heldLane_serves (u : State) (l : Lane) :
    heldLane u.serves l ↔ u.control.laneReasons.get l ≠ [] ∨ u.control.stationReasons ≠ [] := by
  refine or_congr Iff.rfl ?_
  by_cases h : u.control.stationReasons = []
  · exact ⟨fun hs => absurd (hs.symm.trans (if_pos h)) (by decide), fun hn => absurd h hn⟩
  · exact ⟨fun _ => h, fun _ => if_neg h⟩

/-- Settles O43: the agreement, the state that it lets the station enter (by the contact and the pending evacuation), and the beacon. -/
theorem endOfJoin : Obligations.EndOfJoin := by
  intro s hr hsized hrange hcalm hs htimer
  have hserving : s.station.serving = true := by rw [hs]; rfl
  have hexec : exec .endOfJoin s = .next s.endJoin :=
    congrArg Host.Outcome.next ((s.event_taken _ hr).trans (if_pos ⟨hs, htimer⟩))
  have hagreed := takeAgreement_spec hserving hsized.2.1 hrange 1
  have hend : s.endJoin = ((s.takeAgreement 1).joinState.placeBeacon.startBeaconTimer.openDoubt .liveEntry none).settleEvents := rfl
  generalize s.takeAgreement 1 = u at hagreed hend
  obtain ⟨hrecorded, hsw3, -, hreset⟩ := hagreed.kept
  have hnone : u.watch.handed = [] := by rw [hrecorded]; exact hcalm.1
  have hunarmed : u.watch.Unarmed := by rw [hrecorded]; exact hcalm.2
  have hword : s.sw3 = u.sw3 := by
    unfold State.sw3
    rw [hsw3]
  refine ⟨_, u, hexec, hagreed, ?_⟩
  rw [hend, hword]
  cases hcontact : u.control.contact with
  | true =>
    rw [joinState_contact hcontact]
    obtain ⟨hbegun, honly, hclear, -⟩ := joinEvacuation_settled (s := u.joining) hnone hunarmed .input true
    generalize ((u.joining.joinEvacuation .input true).placeBeacon.startBeaconTimer.openDoubt .liveEntry none).settleEvents = t at *
    have hpeers : t.peers = { u.peers with deadline := doubtDeadline u } := by rw [honly]; rfl
    refine ⟨?_, hpeers, fun _ => ⟨hbegun, hclear rfl⟩, nofun, nofun⟩
    rw [hpeers]
    exact honly
  | false =>
    cases hpending : u.control.pendingEvac with
    | some p =>
      rw [joinState_pending hcontact hpending]
      obtain ⟨hbegun, honly, hclear, hquiet⟩ := joinEvacuation_settled (s := u.joining) hnone hunarmed p.reason p.clearMark
      generalize ((u.joining.joinEvacuation p.reason p.clearMark).placeBeacon.startBeaconTimer.openDoubt .liveEntry none).settleEvents = t at *
      have hpeers : t.peers = { u.peers with deadline := doubtDeadline u } := by rw [honly]; rfl
      refine ⟨?_, hpeers, nofun, fun q _ hq => ?_, nofun⟩
      · rw [hpeers]
        exact honly
      · obtain rfl : p = q := Option.some.inj hq
        exact ⟨hbegun, hclear, hquiet⟩
    | none =>
      rw [joinState_serves hcontact hpending, joinLanes_eq (s := u.serves) (hreset.trans hr) (serves_station u),
        endJoin_settled rfl hnone hunarmed (joinEvents_length u.serves)]
      refine ⟨rfl, rfl, nofun, nofun, fun _ _ => ⟨rfl, rfl, rfl, ?_, fun hrel => ?_, fun l => ?_⟩⟩
      · exact (WatchUnit.enterAll_kept _ _).2.2.2.1
      · have hquiet : u.serves.joinEvents = [] := joinEvents_none hrel
        refine traced_enterAll (es := []) (fun _ he => absurd he List.not_mem_nil) (recorded_doubtQueue ..).handed ?_
        rw [hquiet]
        rfl
      · obtain ⟨hoff, hfault, hfaulted, hheld, hstays⟩ := joinedLane_followed (serves_station u) l (u.lane l)
        intro x held
        have hiff : heldLane u.serves l ↔ held := heldLane_serves u l
        have hlane : (u.lanes.mapEach fun l u' => (u.serves.joinedLane l u').followed).get l = (u.serves.joinedLane l x).followed :=
          PerLane.get_mapEach ..
        exact ⟨fun hk => hlane.trans (hoff hk), fun hk hf hx => hlane.trans (hfault hk hf hx), fun hk hf hx => hlane.trans (hfaulted hk hf hx),
          fun hk hf hx hh => hlane.trans (hheld hk hf hx (hiff.2 hh)), fun hk hf hx => hlane.trans (hstays hk hf (by rw [hiff]; exact hx))⟩

end

end Sys2Proof.Machine
end

section
/-! SUPPORT. Entry into HOLDOVER (R182, R183) and the return from it (R185). -/

namespace Sys2Proof.Machine

section
variable {s : State}

/-! ## The lanes at entry into HOLDOVER -/

/-- A lane stopped at entry into HOLDOVER (R44). -/
def State.stoppedLane (s : State) (l : Lane) (u : LaneUnit) : LaneUnit :=
  { u.dropped with
    state := if u.state = .released then s.restState l else u.state
    heldOpen := none
    aux := { u.aux with timer := none }
    sense := { u.sense with timer := none }
    senseCheck := none
    evacRead := none }

/-- The UNUSED event of a lane's pending release (R32). -/
def State.releaseEvents (s : State) (l : Lane) (u : LaneUnit) : List LaneEvent :=
  match u.release with
  | none => []
  | some p => [eventOf s .unused l (some p.badge) none (some p.readTime)]

theorem stopLane_eq (s : State) (p : PerLane LaneUnit) (es : List LaneEvent) (l : Lane) :
    ({ s with lanes := p, watch := { s.watch with handed := es } } : State).stopLane l =
      { s with
        lanes := p.set l (s.stoppedLane l (p.get l))
        watch := { s.watch with handed := es ++ s.releaseEvents l (p.get l) } } := by
  have hset (u v : LaneUnit) : (p.set l u).set l v = p.set l v := PerLane.set_set ..
  have hget (u : LaneUnit) : (p.set l u).get l = u := PerLane.get_set_same ..
  unfold State.stopLane
  rw [State.dropRelease_eq]
  refine (congrArg (fun q => ({ s with lanes := q, watch := _ } : State)) (hset ..)).trans ?_
  rw [hget]
  rfl

/-- Every strike driven to its fail mode in HOLDOVER (R24, R44). -/
theorem refreshDrives_holdover (h : s.station = .holdover) :
    s.refreshDrives = s.modLanes (PerLane.mapEach fun l u => { u with drive := decide ((s.sw1 l).failMode = .release) }) := by
  refine State.foldl_modLane (g := fun l u => { u with drive := decide ((s.sw1 l).failMode = .release) }) s fun p l => ?_
  rw [State.refreshDrive_eq]
  refine congrArg ((s.modLanes fun _ => p).modLane l) (funext fun u => ?_)
  have hdrive : (s.modLanes fun _ => p).driveFor l u = decide ((s.sw1 l).failMode = .release) := by
    unfold State.driveFor
    rw [show (s.modLanes fun _ => p).station = .holdover from h]
    rfl
  unfold State.redriven
  rw [hdrive]
  split
  next hsame => rw [hsame]
  next => rw [if_neg fun hn => hn.2 h]

theorem keepEvacuation_eq (s : State) : s.keepEvacuation =
    { s with control := { s.control with
        pendingEvac := if s.station = .evacuate then s.control.evacRecord.map fun r => { reason := r.reason, clearMark := false }
          else s.control.pendingEvac
        evacRecord := if s.station = .evacuate then none else s.control.evacRecord } } := by
  unfold State.keepEvacuation
  split
  · rfl
  · rfl

/-- Station control at entry into HOLDOVER (R170, R182). -/
def State.heldOverControl (s : State) : Control :=
  { s.control with
    station := .holdover
    holdoverCount := min 65535 (s.control.holdoverCount + 1)
    holdoverEntry := s.clock.realTime
    joinTimer := none
    contactTimer := none
    pendingEvac := if s.station = .evacuate then s.control.evacRecord.map fun r => { reason := r.reason, clearMark := false }
      else s.control.pendingEvac
    evacRecord := if s.station = .evacuate then none else s.control.evacRecord }

/-- The lanes at entry into HOLDOVER (R24, R44). -/
def State.heldOverLanes (s : State) : PerLane LaneUnit :=
  s.lanes.mapEach fun l u => { s.stoppedLane l u with drive := decide ((s.sw1 l).failMode = .release) }

/-- The UNUSED events of the pending releases, in the order of the lanes. -/
def State.heldOverEvents (s : State) : List LaneEvent := Lane.all.flatMap fun l => s.releaseEvents l (s.lane l)

/-- The state in HOLDOVER with the UNUSED closings traced, before the bell and the line stop (R182). -/
def State.heldOver (s : State) : State :=
  { s with
    lanes := s.heldOverLanes
    watch := ({ s.watch with handed := [] } : WatchUnit).enterAll s.heldOverEvents
    control := s.heldOverControl }

theorem heldOverEvents_eq (s : State) : s.heldOverEvents = Lane.all.flatMap (unusedOf s) := rfl

theorem heldOverEvents_length (s : State) : s.heldOverEvents.length ≤ 4 := by
  have h1 := unusedOf_length s .lane1
  have h2 := unusedOf_length s .lane2
  have h3 := unusedOf_length s .lane3
  have h4 := unusedOf_length s .lane4
  rw [heldOverEvents_eq]
  simp only [Lane.all, List.flatMap_cons, List.flatMap_nil, List.append_nil, List.length_append]
  omega

theorem heldOverEvents_own (s : State) : ∀ e ∈ s.heldOverEvents, ∃ k, e.lane = .own k := by
  intro e he
  obtain ⟨l, -, hl⟩ := List.mem_flatMap.1 (heldOverEvents_eq s ▸ he)
  exact unusedOf_own s l e hl

theorem enterHoldover_eq (hcalm : s.calm) :
    s.enterHoldover = s.heldOver.stopBell.stopLine.retain.modSupply SupplyMonitor.reported := by
  have hlanes := foldl_lanes_handing_each (op := State.stopLane) (g := s.keepEvacuation.stoppedLane) (ev := s.keepEvacuation.releaseEvents)
    s.keepEvacuation fun p es l => stopLane_eq s.keepEvacuation p es l
  have hentered : ((Lane.all.foldl (fun s l => s.stopLane l) s.keepEvacuation).modControl fun c =>
      { c with
        station := .holdover
        holdoverCount := satAdd max16 c.holdoverCount 1
        holdoverEntry := s.clock.realTime
        joinTimer := none
        contactTimer := none }).refreshDrives =
      { s with
        lanes := s.heldOverLanes
        watch := { s.watch with handed := s.watch.handed ++ s.heldOverEvents }
        control := s.heldOverControl } := by
    rw [hlanes, keepEvacuation_eq]
    exact refreshDrives_holdover rfl
  have hsettled := State.settleEvents_entered (s := { s with lanes := s.heldOverLanes, control := s.heldOverControl })
    (events := s.heldOverEvents) hcalm.2 (by rw [hcalm.1]; exact (Nat.zero_add _).trans_le ((heldOverEvents_length s).trans (by decide)))
  have hheld : State.entered { s with lanes := s.heldOverLanes, control := s.heldOverControl } s.heldOverEvents = s.heldOver := by
    rw [State.entered, hcalm.1]
    rfl
  rw [← hheld, ← hsettled, ← hentered]
  rfl

/-- The line port at entry into HOLDOVER, before ESSENTIAL empties it (R109, R123). -/
def State.stoppedLine (s : State) : LinePort :=
  { s.line with
    sending := none, attempt := if s.line.sending.isSome then 0 else s.line.attempt, deferral := none, beaconTimer := none, clashTimer := none }

/-- The state in HOLDOVER before retention ESSENTIAL empties its blocks (R182). -/
def State.retained (s : State) : State :=
  { s.heldOver with
    bell := bellTaken s none
    line := s.stoppedLine
    peers := { s.peers with entries := s.peers.entries.map fun e => { e with silence := none } } }

theorem stopLine_heldOver (s : State) : s.heldOver.stopBell.stopLine = s.retained := by
  rw [stopBell_eq]
  rfl

theorem enterHoldover_full (hcalm : s.calm) (h : s.sw5.retention = .full) :
    s.enterHoldover = s.retained.modSupply SupplyMonitor.reported := by
  rw [enterHoldover_eq hcalm, stopLine_heldOver, State.retain, show s.retained.sw5.retention = .full from h]

theorem enterHoldover_essential (hcalm : s.calm) (h : s.sw5.retention = .essential) :
    s.enterHoldover =
      ({ s.retained with
        watch := { s.retained.watch with
          trace := List.replicate 32 none, writePos := 0, readPtr := 0, incidents := []
          rules := s.retained.watch.rules.map fun r => { r with first := none } }
        bell := { bellTaken s none with trace := [] }
        line := { s.stoppedLine with cues := [], evac := none, beacon := none } } : State).modSupply SupplyMonitor.reported := by
  rw [enterHoldover_eq hcalm, stopLine_heldOver, State.retain, show s.retained.sw5.retention = .essential from h]
  rfl

/-- The supply pins as SUPPLY_FAILURE reports them (R180). -/
def State.failed (s : State) : State := { s with inputs := { s.inputs with gateLow := true, gateGood := false } }

theorem exec_supplyFailure (hr : s.inReset = false) : exec .supplyFailure s = .next
    (if s.station = .holdover then s.failed.modSupply SupplyMonitor.reported
    else if s.inputs.backupLow then s.failed.losePower
    else if s.station = .setup then s.failed.modSupply SupplyMonitor.reported
    else s.failed.enterHoldover) := congrArg Host.Outcome.next (s.failed.event_taken _ hr)

/-- What entry into HOLDOVER leaves of a lane (R24, R44). -/
theorem heldOverLanes_get (s : State) (l : Lane) :
    let u := s.heldOverLanes.get l
    u = { s.lane l with
        state := u.state
        drive := decide ((s.sw1 l).failMode = .release)
        release := none
        releaseTimer := if (s.lane l).release.isSome then none else (s.lane l).releaseTimer
        heldOpen := none
        aux := { (s.lane l).aux with timer := none }
        sense := { (s.lane l).sense with timer := none }
        senseCheck := none
        evacRead := none } ∧
      ((s.lane l).state ≠ .released → u.state = (s.lane l).state) ∧
      ((s.lane l).state = .released → heldLane s l → u.state = .held) ∧
      ((s.lane l).state = .released → ¬ heldLane s l → u.state = .idle) := by
  have hget : s.heldOverLanes.get l = { s.stoppedLane l (s.lane l) with drive := decide ((s.sw1 l).failMode = .release) } :=
    PerLane.get_mapEach ..
  intro u
  rw [show u = _ from hget]
  exact ⟨rfl, fun h => if_neg h, fun h hheld => (if_pos h).trans (State.restState_held hheld),
    fun h hheld => (if_pos h).trans (State.restState_idle hheld)⟩

/-- Entry into HOLDOVER, as the statement says it (R182, R183). -/
theorem enterHoldover_spec (hcalm : s.calm) :
    let t := s.enterHoldover
    let essential : Prop := s.sw5.retention = .essential
    t = { s with lanes := s.heldOverLanes, bell := t.bell, line := t.line, peers := t.peers, watch := t.watch
                 control := s.heldOverControl, supply := { s.supply with failing := none, returning := none } } ∧
      t.bell = { bellTaken s none with trace := if essential then [] else (bellTaken s none).trace } ∧
      t.line =
        { s.line with
          sending := none
          deferral := none
          beaconTimer := none
          clashTimer := none
          attempt := if s.line.sending.isSome then 0 else s.line.attempt
          cues := if essential then [] else s.line.cues
          evac := if essential then none else s.line.evac
          beacon := if essential then none else s.line.beacon } ∧
      t.peers = { s.peers with entries := s.peers.entries.map fun e => { e with silence := none } } ∧
      (¬ essential → Traced s t s.heldOverEvents s.watch) ∧
      (essential → t.watch =
        { s.watch with
          trace := List.replicate 32 none
          writePos := 0
          readPtr := 0
          incidents := []
          nextEvent := s.watch.nextEvent + BitVec.ofNat 16 s.heldOverEvents.length
          rules := s.watch.rules.map fun r => { r with first := none } }) := by
  intro t essential
  by_cases hess : essential
  · have ht := enterHoldover_essential hcalm hess
    obtain ⟨hrules, hhanded, -, -, hlost⟩ := WatchUnit.enterAll_kept { s.watch with handed := [] } s.heldOverEvents
    have hnext := enterAll_nextEvent { s.watch with handed := [] } (heldOverEvents_own s)
    have hemptied (w : WatchUnit) (hrules : w.rules = s.watch.rules) (hhanded : w.handed = s.watch.handed) (hlost : w.lost = s.watch.lost)
        {n : BitVec 16} (hnext : w.nextEvent = n) :
        ({ w with
          trace := List.replicate 32 none, writePos := 0, readPtr := 0, incidents := []
          rules := w.rules.map fun r => { r with first := none } } : WatchUnit) =
        { s.watch with
          trace := List.replicate 32 none, writePos := 0, readPtr := 0, incidents := [], nextEvent := n
          rules := s.watch.rules.map fun r => { r with first := none } } := by
      rw [hrules, hhanded, hlost, hnext]
    rw [show t = _ from ht]
    simp only [if_pos hess]
    exact ⟨rfl, rfl, rfl, rfl, fun h => absurd hess h, fun _ => hemptied _ hrules (hhanded.trans hcalm.1.symm) hlost hnext⟩
  · have hfull : s.sw5.retention = .full := by
      have hcode (r : Retention) (h : r ≠ .essential) : r = .full := by
        cases r with
        | full => rfl
        | essential => exact absurd rfl h
      exact hcode _ hess
    rw [show t = _ from enterHoldover_full hcalm hfull]
    simp only [if_neg hess]
    exact ⟨rfl, rfl, rfl, rfl, fun _ => traced_enterAll (heldOverEvents_own s) rfl rfl, fun h => absurd h hess⟩

/-! ## The return -/

/-- The supply pins as SUPPLY_RETURN reports them (R180). -/
def State.restored (s : State) : State := { s with inputs := { s.inputs with gateLow := false, gateGood := true } }

theorem exec_supplyReturn (hr : s.inReset = false) (hpower : s.supply.unpowered = false) : exec .supplyReturn s = .next
    (if s.station = .holdover then s.restored.leaveHoldover else s.restored.modSupply SupplyMonitor.reported) :=
  congrArg Host.Outcome.next ((if_neg fun h : s.supply.unpowered = true => nomatch h.symm.trans hpower).trans (s.restored.event_taken _ hr))

/-- A lane at a return, before its strike follows (R17, R18, R44). -/
def State.returnedLane (s : State) (l : Lane) (u : LaneUnit) : LaneUnit :=
  if s.inputs.strap.get l = true ∧ (s.sw1 l).kind ≠ .off then
    { u with kind := (s.sw1 l).kind, state := s.returnState l, aux := s.seek, sense := s.seek }
  else { u with kind := .off, state := .off, aux := .reset, sense := .reset }

theorem returnLanes_eq (s : State) : Lane.all.foldl (fun s l => s.returnLane l) s = s.modLanes (PerLane.mapEach s.returnedLane) :=
  State.foldl_modLane s fun _ _ => rfl

theorem refreshDrives_eq (s : State) : s.refreshDrives = s.modLanes (PerLane.mapEach s.redriven) :=
  State.foldl_modLane s fun p l => (s.modLanes fun _ => p).refreshDrive_eq l

/-- Station control at a return (R185). -/
def State.returnedControl (s : State) : Control :=
  { s.control with
    station := .join
    joinTimer := some (16 * s.sw3.joinPeriod)
    contactFound := false
    contactTimer := some s.sw2.debounce }

/-- The strike of a lane at a return (R20, R24). -/
def State.returnedDrive (s : State) : Lane → LaneUnit → LaneUnit := State.redriven { s with control := s.returnedControl }

/-- The station returned from HOLDOVER (R185). -/
theorem leaveHoldover_eq (h : s.station ≠ .setup) : s.leaveHoldover =
    { s with
      lanes := s.lanes.mapEach fun l u => s.returnedDrive l (s.returnedLane l u)
      control := s.returnedControl
      watch := s.watch.queue
        { kind := .holdover, time := s.clock.time, lane := none, badge := none, rule := none, peer := none,
          detail := some (s.holdoverSeconds : Int) }
      peers := { s.peers with
        entries := s.peers.entries.map fun e =>
          { e with silence := if e.state = .heard then some (16 * s.sw3.silenceLimit) else e.silence } }
      faults := { s.faults with line := causeCleared s.faults.line .clash }
      supply := { s.supply with failing := none, returning := none } } := by
  have hjoin : sixteenths s.sw3.joinPeriod = 16 * s.sw3.joinPeriod := Nat.mul_comm ..
  have hsilence : s.silenceLimit = 16 * s.sw3.silenceLimit := Nat.mul_comm ..
  unfold State.leaveHoldover
  rw [State.recordIncident_eq]
  dsimp only
  rw [returnLanes_eq]
  unfold State.returnLine
  rw [clearLine_eq (by exact h), refreshDrives_eq, ← hsilence]
  unfold State.returnedDrive State.returnedControl
  rw [← hjoin]
  rfl

/-- A lane at a return (R17, R18, R44). -/
theorem returnedLane_spec (hs : s.station = .holdover) (l : Lane) (u : LaneUnit) :
    let fitted : Prop := s.inputs.strap.get l = true ∧ (s.sw1 l).kind ≠ .off
    let sought : Debounced := { level := none, timer := some s.sw2.debounce }
    let unsought : Debounced := { level := none, timer := none }
    let back (x : LaneState) : LaneUnit := drivenLane { u with kind := (s.sw1 l).kind, state := x, aux := sought, sense := sought } false
    let v := s.returnedDrive l (s.returnedLane l u)
    (¬ fitted → v = { u with kind := .off, state := .off, aux := unsought, sense := unsought, drive := false }) ∧
      (fitted → openFault s l → v = back .fault) ∧
      (fitted → ¬ openFault s l → v = back (if s.control.laneReasons.get l = [] then .idle else .held)) := by
  intro fitted sought unsought back v
  have hback (h : fitted) : v = back (s.returnState l) := by
    have hlane : s.returnedLane l u = { u with kind := (s.sw1 l).kind, state := s.returnState l, aux := sought, sense := sought } := if_pos h
    show s.returnedDrive l (s.returnedLane l u) = _
    rw [hlane]
    exact State.redriven_fitted h.2 nofun rfl
  refine ⟨fun h => ?_, fun h hf => ?_, fun h hf => ?_⟩
  · have hlane : s.returnedLane l u = { u with kind := .off, state := .off, aux := unsought, sense := unsought } := if_neg h
    show s.returnedDrive l (s.returnedLane l u) = _
    rw [hlane]
    exact State.redriven_off rfl rfl
  · have hstate : s.returnState l = .fault := if_pos ((s.laneFaulted_iff l).2 hf)
    rw [hback h, hstate]
  · have hstate : s.returnState l = if s.control.laneReasons.get l = [] then .idle else .held := by
      refine (if_neg (mt (s.laneFaulted_iff l).1 hf)).trans ?_
      have hheld : heldLane s l ↔ s.control.laneReasons.get l ≠ [] := or_iff_left (by rw [hs]; nofun)
      by_cases hr : s.control.laneReasons.get l = []
      · rw [if_pos hr]
        exact State.restState_idle fun hn => hheld.1 hn hr
      · rw [if_neg hr]
        exact State.restState_held (hheld.2 hr)
    rw [hback h, hstate]

/-- Settles O54: each supply report by the station state, on the pins that it moves. -/
theorem holdover : Obligations.Holdover := by
  refine ⟨fun s hr => ?_, fun s hr hpower => ?_⟩
  · intro pin events essential
    rw [exec_supplyFailure hr]
    refine ⟨fun h => ?_, fun hs hlow => ?_, fun hs hlow hcalm => ?_⟩
    · rcases h with hs | ⟨hs, hlow⟩
      · rw [if_pos hs]
        rfl
      · rw [if_neg (by rw [hs]; decide), if_neg (by rw [hlow]; decide), if_pos hs]
        rfl
    · rw [if_neg hs, if_pos hlow]
      rfl
    · have hserved : s.served := ⟨hr, hs⟩
      have hsetup : s.station ≠ .setup := fun h => by rw [h] at hs; cases hs
      have hlanes (l : Lane) := heldOverLanes_get s.failed l
      obtain ⟨honly, hbell, hline, hpeers, hfull, hessential⟩ := enterHoldover_spec (s := s.failed) hcalm
      rw [if_neg (served_not_holdover hserved), if_neg (by rw [hlow]; decide), if_neg hsetup]
      generalize s.failed.enterHoldover = t at *
      have hheld : t.lanes = s.failed.heldOverLanes := by rw [honly]
      have hcontrol : t.control = s.failed.heldOverControl := by rw [honly]
      have hlane (l : Lane) : t.lane l = s.failed.heldOverLanes.get l := congrArg (fun p : PerLane LaneUnit => p.get l) hheld
      refine ⟨t, rfl, ?_, hcontrol, fun l => ?_, hbell, hline, hpeers, hfull, hessential⟩
      · rw [hheld, hcontrol]
        exact honly
      · rw [hlane]
        exact hlanes l
  · intro pin
    rw [exec_supplyReturn hr hpower]
    refine ⟨fun hs => by rw [if_neg hs]; rfl, fun hs => ?_⟩
    have hlanes (l : Lane) := returnedLane_spec (s := s.restored) hs l (s.lane l)
    rw [if_pos hs, leaveHoldover_eq (s := s.restored) (by rw [show s.restored.station = .holdover from hs]; decide)]
    intro seconds sought
    refine ⟨_, rfl, rfl, rfl, ?_, fun l => ?_, rfl, rfl⟩
    · rfl
    · obtain ⟨hout, hfault, hsound⟩ := hlanes l
      have hlane : (s.lanes.mapEach fun l u => s.restored.returnedDrive l (s.restored.returnedLane l u)).get l =
          s.restored.returnedDrive l (s.restored.returnedLane l (s.lane l)) := PerLane.get_mapEach ..
      exact ⟨fun h => hlane.trans (hout h), fun h hf => hlane.trans (hfault h hf), fun h hf => hlane.trans (hsound h hf)⟩

end

end Sys2Proof.Machine
end

section
/-! SUPPORT. The credit of an interval (R60 to R68). -/

namespace Sys2Proof.Machine

section
variable {c : ShiftClass} {roll : Nat}

/-! ## The quantum grid -/

/-- The first boundary of the grid at or after a moment (R61). -/
theorem roundUp_spec (start : Int) {q : Nat} (hq : 0 < q) (x : Int) :
    x ≤ 960 * roundUp start q x ∧ 960 * roundUp start q x < x + 960 * q ∧ (roundUp start q x - start) % q = 0 := by
  have hpos : 0 < gridTicks q := by
    unfold gridTicks ticksPerMinute
    omega
  have hgrid : gridTicks q = 960 * q := by
    unfold gridTicks ticksPerMinute
    omega
  have hdiv := Int.emod_add_mul_ediv (start * 960 - x) (gridTicks q)
  have hlow := Int.emod_nonneg (start * 960 - x) hpos.ne'
  have hhigh := Int.emod_lt_of_pos (start * 960 - x) hpos
  have hround : roundUp start q x = start + q * -((start * 960 - x) / gridTicks q) := rfl
  generalize (start * 960 - x) / gridTicks q = k at hdiv hround
  have hscaled : 960 * (start + q * -k) = 960 * start - gridTicks q * k := by
    rw [hgrid]
    ring
  rw [hround, hscaled]
  refine ⟨by omega, by omega, ?_⟩
  rw [add_sub_cancel_left]
  exact Int.mul_emod_right ..

/-- The last boundary of the grid at or before a moment (R62). -/
theorem roundDown_spec (start : Int) {q : Nat} (hq : 0 < q) (x : Int) :
    960 * roundDown start q x ≤ x ∧ x < 960 * roundDown start q x + 960 * q ∧ (roundDown start q x - start) % q = 0 := by
  have hpos : 0 < gridTicks q := by
    unfold gridTicks ticksPerMinute
    omega
  have hgrid : gridTicks q = 960 * q := by
    unfold gridTicks ticksPerMinute
    omega
  have hdiv := Int.emod_add_mul_ediv (x - start * 960) (gridTicks q)
  have hlow := Int.emod_nonneg (x - start * 960) hpos.ne'
  have hhigh := Int.emod_lt_of_pos (x - start * 960) hpos
  have hround : roundDown start q x = start + q * ((x - start * 960) / gridTicks q) := rfl
  generalize (x - start * 960) / gridTicks q = k at hdiv hround
  have hscaled : 960 * (start + q * k) = 960 * start + gridTicks q * k := by
    rw [hgrid]
    ring
  rw [hround, hscaled]
  refine ⟨by omega, by omega, ?_⟩
  rw [add_sub_cancel_left]
  exact Int.mul_emod_right ..

/-! ## The effective in and out -/

section
variable {first : Bool} {m : Int}

theorem effectiveIn_late (hours : c.hours.isSome = true) (hm : 960 * (c.start roll + c.graceLate) < m) :
    effectiveIn c roll true m = (roundUp (c.start roll) c.quantum m, PayFlag.late.bit) := by
  obtain ⟨h, hh⟩ := Option.isSome_iff_exists.1 hours
  unfold effectiveIn
  rw [hh]
  exact (if_pos rfl).trans (if_pos (by rw [minuteTicks, Int.mul_comm]; exact hm))

theorem effectiveIn_early (hours : c.hours.isSome = true) (hl : ¬ 960 * (c.start roll + c.graceLate) < m)
    (hm : m < 960 * (c.start roll - c.graceIn)) :
    effectiveIn c roll true m = (roundUp (c.start roll) c.quantum m, PayFlag.early.bit) := by
  obtain ⟨h, hh⟩ := Option.isSome_iff_exists.1 hours
  unfold effectiveIn
  rw [hh]
  exact (if_pos rfl).trans ((if_neg (by rw [minuteTicks, Int.mul_comm]; exact hl)).trans
    (if_pos (by rw [minuteTicks, Int.mul_comm]; exact hm)))

theorem effectiveIn_inTime (hours : c.hours.isSome = true) (hl : ¬ 960 * (c.start roll + c.graceLate) < m)
    (hm : ¬ m < 960 * (c.start roll - c.graceIn)) : effectiveIn c roll true m = (c.start roll, 0) := by
  obtain ⟨h, hh⟩ := Option.isSome_iff_exists.1 hours
  unfold effectiveIn
  rw [hh]
  exact (if_pos rfl).trans ((if_neg (by rw [minuteTicks, Int.mul_comm]; exact hl)).trans
    (if_neg (by rw [minuteTicks, Int.mul_comm]; exact hm)))

theorem effectiveIn_grid (h : ¬ (c.hours.isSome = true ∧ first = true)) :
    effectiveIn c roll first m = (roundUp (c.start roll) c.quantum m, 0) := by
  unfold effectiveIn
  cases hh : c.hours with
  | none => rfl
  | some x => exact if_neg fun hf => h ⟨by rw [hh]; rfl, hf⟩

theorem effectiveOut_stop {stop : Int} (hs : c.stop roll = some stop) (h : 960 * stop ≤ m ∧ m ≤ 960 * (stop + c.graceOut)) :
    effectiveOut c roll m = stop := by
  unfold effectiveOut
  rw [hs]
  exact if_pos (by rw [minuteTicks, minuteTicks, Int.mul_comm, Int.mul_comm (stop + c.graceOut)]; exact h)

theorem effectiveOut_grid (h : ∀ stop, c.stop roll = some stop → ¬ (960 * stop ≤ m ∧ m ≤ 960 * (stop + c.graceOut))) :
    effectiveOut c roll m = roundDown (c.start roll) c.quantum m := by
  unfold effectiveOut
  cases hs : c.stop roll with
  | none => rfl
  | some stop => exact if_neg (by rw [minuteTicks, minuteTicks, Int.mul_comm, Int.mul_comm (stop + c.graceOut)]; exact h stop hs)

/-- The effective in with its flag, by whether the IN is late, early or in time (R61). -/
theorem effectiveIn_spec (c : ShiftClass) (roll : Nat) (first : Prop) [Decidable first] (m : Int) :
    let late : Prop := c.hours.isSome = true ∧ first ∧ 960 * (c.start roll + c.graceLate) < m
    let early : Prop := c.hours.isSome = true ∧ first ∧ m < 960 * (c.start roll - c.graceIn)
    let inTime : Prop := c.hours.isSome = true ∧ first ∧ ¬ late ∧ ¬ early
    let e := effectiveIn c roll (decide first) m
    (inTime → e.1 = c.start roll) ∧ (¬ inTime → e.1 = roundUp (c.start roll) c.quantum m) ∧
      (late → e.2 = 0x001) ∧ (early → e.2 = 0x002) ∧ (¬ late → ¬ early → e.2 = 0) := by
  intro late early inTime e
  by_cases hserves : c.hours.isSome = true ∧ first
  · obtain ⟨hh, hf⟩ := hserves
    have hdecide : decide first = true := decide_eq_true hf
    by_cases hl : 960 * (c.start roll + c.graceLate) < m
    · have hval : e = _ := (congrArg (effectiveIn c roll · m) hdecide).trans (effectiveIn_late hh hl)
      have hlate : late := ⟨hh, hf, hl⟩
      have hearly : ¬ early := fun ⟨_, _, hm⟩ => by omega
      exact ⟨fun hi => absurd hlate hi.2.2.1, fun _ => by rw [hval], fun _ => by rw [hval]; rfl,
        fun he => absurd he hearly, fun hn => absurd hlate hn⟩
    · have hlate : ¬ late := fun ⟨_, _, hm⟩ => hl hm
      by_cases hm : m < 960 * (c.start roll - c.graceIn)
      · have hval : e = _ := (congrArg (effectiveIn c roll · m) hdecide).trans (effectiveIn_early hh hl hm)
        have hearly : early := ⟨hh, hf, hm⟩
        exact ⟨fun hi => absurd hearly hi.2.2.2, fun _ => by rw [hval], fun h => absurd h hlate,
          fun _ => by rw [hval]; rfl, fun _ hn => absurd hearly hn⟩
      · have hval : e = _ := (congrArg (effectiveIn c roll · m) hdecide).trans (effectiveIn_inTime hh hl hm)
        have hearly : ¬ early := fun ⟨_, _, h⟩ => hm h
        exact ⟨fun _ => by rw [hval], fun hi => absurd ⟨hh, hf, hlate, hearly⟩ hi, fun h => absurd h hlate,
          fun h => absurd h hearly, fun _ _ => by rw [hval]⟩
  · have hval : e = _ := effectiveIn_grid fun ⟨hh, hd⟩ => hserves ⟨hh, of_decide_eq_true hd⟩
    exact ⟨fun ⟨hh, hf, _⟩ => absurd ⟨hh, hf⟩ hserves, fun _ => by rw [hval],
      fun ⟨hh, hf, _⟩ => absurd ⟨hh, hf⟩ hserves, fun ⟨hh, hf, _⟩ => absurd ⟨hh, hf⟩ hserves, fun _ _ => by rw [hval]⟩

end

end

/-! ## The break -/

/-- The break mark of a slot with the gap before an interval (R63). -/
def gapMarked (d : DaySlot) (c : ShiftClass) (effIn : Int) : Bool :=
  d.breakMark || match d.lastOut with
    | none => false
    | some (o, _) => decide ((c.breakMinutes : Int) ≤ effIn - o)

theorem gapMarked_iff (d : DaySlot) (c : ShiftClass) (effIn : Int) :
    gapMarked d c effIn = true ↔ d.breakMark = true ∨ ∃ o, d.lastOut = some o ∧ c.breakMinutes ≤ effIn - o.1 := by
  unfold gapMarked
  rw [Bool.or_eq_true]
  refine or_congr_right ?_
  cases d.lastOut with
  | none => exact ⟨fun h => absurd h Bool.false_ne_true, fun ⟨_, h, _⟩ => absurd h nofun⟩
  | some o => exact ⟨fun h => ⟨o, rfl, of_decide_eq_true h⟩, fun ⟨_, h, hm⟩ => by cases h; exact decide_eq_true hm⟩

/-- The automatic break (R63), by whether it is deducted. -/
theorem automaticBreak_spec (c : ShiftClass) {m : Bool} {marked : Prop} (hm : m = true ↔ marked) (total length : Int)
    [Decidable (0 < c.breakAfter ∧ ¬ marked ∧ (c.breakAfter : Int) ≤ total + length)] :
    (automaticBreak c m total length).1 =
        (if 0 < c.breakAfter ∧ ¬ marked ∧ (c.breakAfter : Int) ≤ total + length then max 0 (length - c.breakMinutes)
         else length) ∧
      ((automaticBreak c m total length).2 = true ↔
        0 < c.breakAfter ∧ ¬ marked ∧ (c.breakAfter : Int) ≤ total + length) := by
  have hiff : m = false ↔ ¬ marked := by rw [← hm, Bool.not_eq_true]
  unfold automaticBreak
  by_cases hd : 0 < c.breakAfter ∧ ¬ marked ∧ (c.breakAfter : Int) ≤ total + length
  · have hcond : 0 < c.breakAfter ∧ m = false ∧ (c.breakAfter : Int) ≤ total + length := ⟨hd.1, hiff.2 hd.2.1, hd.2.2⟩
    rw [if_pos hd, if_pos hcond]
    exact ⟨rfl, iff_of_true rfl hd⟩
  · have hcond : ¬ (0 < c.breakAfter ∧ m = false ∧ (c.breakAfter : Int) ≤ total + length) :=
      fun ⟨ha, hb, hc⟩ => hd ⟨ha, hiff.1 hb, hc⟩
    rw [if_neg hd, if_neg hcond]
    exact ⟨rfl, iff_of_false Bool.false_ne_true hd⟩

/-! ## The plain class -/

/-- A class with no hours, no grace, no break and no night band, on whole minutes, with tiers and day maximum of 1440. -/
def plainClass : ShiftClass :=
  { hours := none, lead := 0, graceIn := 0, graceLate := 0, graceOut := 0, quantum := 1, breakAfter := 0,
    breakMinutes := 0, t1 := 1440, t2 := 1440, dayMax := 1440, weekly := 0, night := none }

theorem plainClass_effectiveIn (roll : Nat) (first : Bool) (m : Int) :
    effectiveIn plainClass roll first m = (-((0 - m) / 960), 0) := by
  refine (effectiveIn_grid (c := plainClass) fun h => Bool.false_ne_true h.1).trans (congrArg (·, 0) ?_)
  change (0 : Int) + 1 * -((0 * 960 - m) / 960) = _
  rw [zero_add, one_mul, zero_mul]

theorem plainClass_effectiveOut (roll : Nat) (m : Int) : effectiveOut plainClass roll m = m / 960 := by
  refine (effectiveOut_grid (c := plainClass) fun stop h => absurd h (nofun : none ≠ some stop)).trans ?_
  change (0 : Int) + 1 * ((m - 0 * 960) / 960) = _
  rw [zero_add, one_mul, zero_mul, sub_zero]

theorem plainClass_automaticBreak (marked : Bool) (total length : Int) :
    automaticBreak plainClass marked total length = (length, false) :=
  if_neg fun h => Nat.lt_irrefl 0 h.1

/-- With both tiers bounded by the day maximum, all credited minutes are regular. -/
theorem plainClass_dailyTiers {total paid : Int} (hlow : 0 ≤ paid) (hhigh : paid = 0 ∨ total + paid ≤ 1440) :
    dailyTiers plainClass total paid = (paid, 0, 0) := by
  have hregular : max 0 (min paid (min (total + paid) 1440 - total)) = paid := by omega
  have hovertime : max 0 (min (total + paid) 1440 - max total 1440) = 0 := by omega
  refine Prod.ext hregular (Prod.ext hovertime ?_)
  change paid - max 0 (min paid (min (total + paid) 1440 - total)) -
    max 0 (min (total + paid) 1440 - max total 1440) = 0
  rw [hregular, hovertime, sub_self, sub_zero]

/-- The gap before an interval of a class without break minutes. -/
theorem gapMarked_plainClass (d : DaySlot) (effIn : Int) :
    gapMarked d plainClass effIn = (d.breakMark || d.lastOut.any fun x => decide (x.1 ≤ effIn)) := by
  unfold gapMarked
  refine congrArg (d.breakMark || ·) ?_
  cases d.lastOut with
  | none => rfl
  | some o => exact decide_eq_decide.2 (sub_nonneg (a := effIn))

/-- The credit of an interval of the plain class. -/
theorem plainClass_credit (d : DaySlot) (cls : Fin 8) (roll week : Nat) (mIn mOut : Int) (extra : PayFlags) :
    let effIn := -((0 - mIn) / 960)
    let effOut := mOut / 960
    let length := max 0 (effOut - effIn)
    let paid := max 0 (min length (1440 - ((d.regular + d.ot1 + d.ot2 : Nat) : Int)))
    d.credit plainClass cls roll week mIn mOut extra =
      { d with
        regular := min 65535 (d.regular + paid.toNat)
        ot1 := min 65535 d.ot1
        ot2 := min 65535 d.ot2
        night := min 65535 d.night
        clamped := min 65535 (d.clamped + (length - paid).toNat)
        intervals := min 255 (d.intervals + 1)
        breakMark := d.breakMark || d.lastOut.any fun x => decide (x.1 ≤ effIn)
        lastOut := some (effOut, cls)
        flags := d.flags ||| extra } := by
  intro effIn effOut length paid
  let total : Int := ((d.regular + d.ot1 + d.ot2 : Nat) : Int)
  let eIn := effectiveIn plainClass roll (decide (d.intervals = 0)) mIn
  let eOut := effectiveOut plainClass roll mOut
  let rest := automaticBreak plainClass (gapMarked d plainClass eIn.1) total (max 0 (eOut - eIn.1))
  let credited := dayMaximum plainClass total rest.1
  let tiers := dailyTiers plainClass total credited
  have heIn : eIn = (effIn, 0) := plainClass_effectiveIn ..
  have heOut : eOut = effOut := plainClass_effectiveOut ..
  have hrest : rest = (length, false) := by
    unfold rest
    rw [plainClass_automaticBreak, heIn, heOut]
  have hcredited : credited = paid := by
    unfold credited
    rw [hrest]
    rfl
  have htiers : tiers = (paid, 0, 0) := by
    unfold tiers
    rw [hcredited]
    exact plainClass_dailyTiers (le_max_left ..) (by omega)
  calc d.credit plainClass cls roll week mIn mOut extra
    _ = { day := d.day
          regular := addMinutes d.regular (tiers.1 - 0)
          ot1 := addMinutes d.ot1 (tiers.2.1 + 0)
          ot2 := addMinutes d.ot2 tiers.2.2
          night := addMinutes d.night (min credited 0)
          clamped := addMinutes d.clamped (rest.1 - credited)
          intervals := satAdd max8 d.intervals 1
          breakMark := gapMarked d plainClass eIn.1 || rest.2
          lastOut := some (eOut, cls)
          flags := d.flags ||| eIn.2 ||| extra } := rfl
    _ = _ := by
      rw [htiers, hcredited, hrest, heIn, heOut, gapMarked_plainClass, min_eq_right (show (0 : Int) ≤ paid from le_max_left ..)]
      simp [addMinutes, satAdd, max16, max8]

/-! ## The obligation -/

theorem punchPay_not_evac {f : PunchFrame} (h : f.outcome = .passed) : (punchPay f).evac = false :=
  decide_eq_false (h ▸ nofun)

/-- Settles O47: the plain class through the pairing of an OUT, and any class by its ten stages. -/
theorem intervalCredit : Obligations.IntervalCredit := by
  unfold Obligations.IntervalCredit
  refine ⟨?plain, ?anyClass⟩
  case anyClass =>
    intro d c cls roll week mIn mOut extra hq
      q start hours first late early inTime total shared
    let effIn := (effectiveIn c roll (decide first) mIn).1
    let effOut := effectiveOut c roll mOut
    obtain ⟨hin, hgrid, hlate, hearly, hnone⟩ := effectiveIn_spec c roll first mIn
    refine ⟨effIn, effOut, hin, fun h => ?_, fun stop hs hlow hhigh => effectiveOut_stop hs ⟨hlow, hhigh⟩, fun h => ?_, ?_⟩
    · rw [show effIn = _ from hgrid h]
      exact roundUp_spec start hq mIn
    · rw [show effOut = _ from effectiveOut_grid h]
      exact roundDown_spec start hq mOut
    intro marked length deducted worked
    have hmarked : gapMarked d c effIn = true ↔ marked := gapMarked_iff d c effIn
    obtain ⟨hworked, hdeducted⟩ : (automaticBreak c (gapMarked d c effIn) total length).1 = worked ∧
        ((automaticBreak c (gapMarked d c effIn) total length).2 = true ↔ deducted) :=
      automaticBreak_spec c hmarked total length
    clear_value worked
    subst hworked
    intro paid tier1 tier2 moved night t
    have hnight : min paid (nightOverlap c roll effIn effOut) = night := by
      unfold nightOverlap night
      cases c.night with
      | none => exact min_eq_right (le_max_left ..)
      | some x => rfl
    have hflags : t.flags = d.flags ||| (effectiveIn c roll (decide first) mIn).2 ||| extra := rfl
    refine ⟨rfl, rfl, rfl, rfl, congrArg (fun n : Int => min 65535 (d.night + n.toNat)) hnight, rfl, rfl, ?_, rfl,
      fun h => by rw [hflags, hlate h], fun h => by rw [hflags, hearly h],
      fun hl he => by
        rw [hflags, hnone hl he]
        exact congrArg (· ||| extra) BitVec.or_zero⟩
    rw [← hmarked, ← hdeducted]
    exact iff_of_eq (Bool.or_eq_true ..)
  case plain =>
    intro f b k r i s h hcalm hl hpeer hb hlow hhigh hk hr hi hdir hpassed htime hera hday1 hday2 hclass
      dawn effIn effOut length credited after
    obtain ⟨-, -, -, -, -, -, hpaid⟩ := punchHanded_spec s f
    obtain ⟨-, hkept, -, -, -, hpairs⟩ := hpaid b k r hb hk hr
    have hpunch : (punchPay f).time = f.time.toNat := rfl
    rw [hpunch] at hkept hpairs
    obtain ⟨-, hout⟩ := hpairs hday1 (by omega)
    have hdirection : punchDirection f = .dirOut := by rw [punchDirection_eq, hpassed, if_neg nofun, hdir]
    obtain ⟨hclosed, -⟩ := hout hdirection
    have hrecord := hclosed i hi htime
    have hmoment (x : Nat) : (x : Int) - (i.day * 1382400 + s.dayRollMinute * 960 : Nat) = x - dawn := by
      unfold dawn
      push_cast
      rfl
    have hflags : (if i.era ≠ (punchPay f).era then 0x080 else 0) ||| ((if (punchPay f).flagged = true then 0x020 else 0) |||
        (if (punchPay f).evac = true then 0x040 else 0)) = (0 : PayFlags) := by
      rw [if_neg (show ¬ i.era ≠ (punchPay f).era from not_not.2 hera), punchPay_not_evac hpassed,
        show (punchPay f).flagged = false from rfl]
      decide
    have hcredit (week : Nat) (d : DaySlot) : d.credit plainClass i.cls s.dayRollMinute week (i.time - dawn)
        (f.time.toNat - dawn) 0 = after d := by
      rw [plainClass_credit, zero_sub, neg_sub, show d.flags ||| 0 = d.flags from BitVec.or_zero]
    have hplain : s.pay.shiftClass i.cls = plainClass := hclass
    obtain ⟨hpay, hport, hothers⟩ := hkept (by omega)
    refine ⟨_, exec_punch_calm h hcalm hl hpeer hlow hhigh, hpay, hport, hothers, fun hd => ?_, fun hd => ?_⟩
    · refine hrecord.trans ?_
      dsimp only
      rw [if_pos hd, hflags, hpunch, hmoment, hmoment, hplain, hcredit]
    · refine hrecord.trans ?_
      dsimp only
      rw [if_neg hd, hflags, hpunch, hmoment, hmoment, hplain, hcredit]

end Sys2Proof.Machine
end
